-- ==== Sys2Proof/Word.lean ====
section
/-!
DEFINITION. Sys2Proof/Word.lean: the word types of the KM-2464 (spec 00 R9, R13).
Registers are 16 bits, window words and parameters 32, keys and frames are byte strings.
-/
namespace Sys2Proof

/-- One byte of the window, of a key or of a frame. -/
abbrev Byte := BitVec 8
/-- A hardware register or an SPI frame word (R15, R308). -/
abbrev Half := BitVec 16
/-- A window word, a parameter value, a transponder block (R13, R342, R130). -/
abbrev Word := BitVec 32
/-- A UID, a per-boot counter, an attribute semiblock (R108, R300, R285). -/
abbrev Dword := BitVec 64

end Sys2Proof
end

