-- ==== Sys2Proof/Syntax.lean ====
section
/-!
DEFINITION. Sys2Proof/Syntax.lean: the commands of the block, one constructor per row of
spec/opcode_table.json, and the plain data they carry.
The table gives the rows no operand fields: the operands are what the rule of each row says
arrives from outside (an access, a frame, a measurement), and for a descriptor command the ring
whose next descriptor the device takes (R328).
-/
namespace Sys2Proof

/-- A phasor or sample pair, 10-bit two's complement parts (R88, R74 items 15 and 16). -/
structure Phasor where
  i : Int
  q : Int
  deriving DecidableEq, Repr

/-- What the receive channel of one member line heard in a reply window (R87, R119): per start offset E + 142 to E + 146
the subcarrier correlation of each half-bit, on the scale of R88. The combination of R86 is the device's. -/
structure RxChannel where
  line : Nat
  offsets : List (List Phasor)
  deriving DecidableEq, Repr

/-- An edge of a source's counting inputs (R38): its polarity, and whether it is of ANGn_B, which quadrature sources alone have. -/
structure PinEdge where
  rises : Bool
  onB : Bool
  deriving DecidableEq, Repr

/-- A frame as it reaches HITCH_P and HITCH_N: the amplitude of the carrier, run by run, each with its length in cyc of the island's recovered
clock (R112, R182). It begins with the carrier before the first gap. -/
structure AirFrame where
  runs : List (Nat × Nat)
  deriving DecidableEq, Repr

/-- What the supervision of a driven line sees (R78, R91, R95), with the cyc of the block at which it sees it: the current peak
of a driven cycle in mA, the current in mA as a gap ends with the peak before that gap, or a switch out of saturation. -/
inductive LineObs where
  | current (cyc ma : Nat)
  | gapEnd (cyc ma peak : Nat)
  | bridge (cyc : Nat)
  deriving DecidableEq, Repr

/-- What the hardware measured in a block, for the block types that measure (R173, R237, R454, R355). -/
structure BlockMeas where
  /-- pass mode: per member line, its coil-current phasor of each interval of 32 driven cyc (R173). -/
  pass : List (Nat × List Phasor)
  /-- calibration sweep: er of each tuning code 0 to 63, then ep at the chosen code (R454). -/
  er : List Int
  ep : Int
  /-- raw 10-bit samples for the DIAG_CAPTUREs waiting on lines of this block: line, quantity, samples (R355). -/
  samples : List (Nat × Nat × List Nat)
  deriving DecidableEq, Repr

/-- A packet of the sub-GHz radio as received (R272, R274): the correlation of each of the first 16 preamble symbols after detection
(none where one was covered), the preamble symbols left before the sync word, the sync word, type byte, clear fields, encrypted
payload and the 4-byte MIC. -/
structure FobPacket where
  corr : List (Option Nat)
  symbols : Nat
  sync : Half
  type : Byte
  clear : List Byte
  payload : List Byte
  mic : List Byte
  deriving DecidableEq, Repr

/-- One slot of a ranging exchange as the device recorded it (R245): phase in 1/1024 turn, amplitude. -/
structure Tone where
  phi : Int
  amp : Nat
  deriving DecidableEq, Repr

/-- How a chain operation arrives: over the hitch, or in a Proprietary A message from an address (R436). -/
inductive Via where
  | hitch
  | bus (addr : Nat)
  deriving DecidableEq, Repr

/-- A twin frame as received (R387, R388): the nonce's boot count and per-boot counter, the payload as it travels (encrypted, but for
the session nonce of a HELLO) and the CCM tag. The spec gives most payloads no byte layout: what a frame says stands beside it as
operands of its row (assumption log 27). -/
structure FrameHdr where
  boot : Nat
  ctr : Nat
  payload : List Byte
  tag : List Byte
  deriving DecidableEq, Repr

/-- One change record of a MIRROR frame (R395). -/
inductive MirrorRec where
  | roster (handle : Nat) (words : List Word)
  | key (slot state : Nat) (uid : Dword) (rights : BitVec 5) (ctrMark dlMark : Word) (barred : Bool)
  | slot (slot : Nat) (wrapped : List Byte)
  | param (id : Nat) (value : Word)
  | paramSave
  | svcDefine (svc : Nat)
  | svcUndefine (svc : Nat)
  | busAddr (addr : Nat)
  /-- the ACTIVE's status of a TWIN_RESYNC that the SIDING passed on (R397). -/
  | resyncStatus (status : Nat)
  /-- of a snapshot: every other handle is FREE, every other mirrored slot empty, every other service undefined. -/
  | only (handles slots svcs : List Nat)
  deriving DecidableEq, Repr

/-- PAIR_HELLO (R390 step 1). The spec gives certificates no format but DER: `chainOk` says whether the chain goes up to the Brixqua root
whose hash is burnt, and `devId` is the public key it certifies (assumption log 37). -/
structure PairHelloMsg where
  role : Nat
  uid : Dword
  oemRoot : List Byte
  release : Nat
  secver : Nat
  challenge : List Byte
  chain : List Byte
  chainOk : Bool
  devId : List Byte
  deriving DecidableEq, Repr

/-- PAIR_KEY (R390 step 3): ephemeral public key, report over our challenge, signature by DEV_ID. -/
structure PairKeyMsg where
  ephemeral : List Byte
  report : List Byte
  sig : List Byte
  deriving DecidableEq, Repr

/-- A frame of the vehicle bus (R404): identifier, whether it has 29 bits, whether it is a CAN FD frame and switches its bit rate (R409), data. -/
structure CanFrame where
  id : Nat
  ext : Bool
  fd : Bool := false
  brs : Bool := false
  data : List Byte
  deriving DecidableEq, Repr

/-- What a wake source of WAKE_SOURCE_EVENT shows (R366): a fall of CS_N; on the bus a dominant level, or a dominant, a recessive and a dominant
phase and the whole pattern, in ns (R412); at the hitch a wake pattern's code, or a field rise followed by a lead of so many cyc; counted
edges of an angle source. -/
inductive WakeCause where
  | spi
  | canLevel (ns : Nat)
  | canPattern (dominant recessive again whole : Nat)
  | hitchCode (code : Nat)
  | hitchLead (cyc : Nat)
  | angle
  deriving DecidableEq, Repr

/-- What the refresh patrol's margin reads found (R453). -/
structure PatrolResult where
  pagesRead : Nat
  pagesRewritten : Nat
  sectors : Nat
  deriving DecidableEq, Repr

/-- The commands, in the order of the table. -/
inductive Instr where
  /-- POWER_ON (R463): VBAT and VIO pass their thresholds and the device leaves reset to boot. -/
  | powerOn (vbatMv vioMv : Nat) (defects : BitVec 12)
  /-- RST_N_PULSE (R319): A low pulse on RST_N of at least 1 µs resets the device and wipes it under R36. -/
  | rstNPulse (lowNs : Nat)
  /-- VBAT_FALL (R463): VBAT falls below the falling power-on threshold, every output drops and the device goes OFF. -/
  | vbatFall
  /-- VIO_FALL (R463): VIO falls below its threshold and the device resets. -/
  | vioFall
  /-- BROWNOUT (R324): VBAT falls below 6 V and PWR_FLAGS.brownout is set. -/
  | brownout (vbatMv : Nat)
  /-- VBAT_HIGH (R324): VBAT rises above 36 V and PWR_FLAGS.vbat_high is set. -/
  | vbatHigh (vbatMv : Nat)
  /-- BOOT_READY (R317): Boot completes and HOST_STATUS.ready becomes 1; a paired device then decides its role. -/
  | bootReady
  /-- WATCHDOG_EXPIRY (R448): The signal box watchdog fires, logs an entry and resets the device, or makes it FAILED on the third reset within one hour. -/
  | watchdogExpiry
  /-- TRNG_HEALTH_FAILURE (R299): A continuous TRNG health test fails, random output stops and the device becomes FAILED. -/
  | trngHealthFailure (test : Nat)
  /-- CORE_UNDERVOLTAGE (R442): The core regulator monitor sees the core below 1.00 V for 10 µs, and the device becomes FAILED. -/
  | coreUndervoltage
  /-- ECC_ERROR (R445): An uncorrectable ECC error in SRAM, the window or code flash in use makes the device FAILED. -/
  | eccError (region : Nat)
  /-- ECC_CORRECTED (R455): A corrected ECC error raises sys.sram_corrected and may post ECC_CORRECTED. -/
  | eccCorrected (region : Nat)
  /-- PERIODIC_SELFTEST (R443): Every sys.selftest_period_s in RUN the next periodic self-test runs, and a failure makes the device FAILED. -/
  | periodicSelftest (failed : Bool)
  /-- BRIDGE_FAULT_TEST (R446): A bridge fault on a line triggers test 9 on that line within 10 ms, and a failed switch makes the device FAILED. -/
  | bridgeFaultTest (line : Nat) (switchFails : Bool)
  /-- OVERTEMP_FAIL (R377): T_hot has stayed at 160 °C or more for 10 ms and the device becomes FAILED. -/
  | overtempFail
  /-- SPI_REGISTER_WRITE (R310): A register write transaction stores a value in a register that has no row of its own, including W1C and RW fields. -/
  | spiRegisterWrite (cmd : Half) (data : List Half)
  /-- SPI_WINDOW_WRITE (R312): A window word written whole lands, or is dropped as a token violation under R331. -/
  | spiWindowWrite (cmd index : Half) (data : List Half)
  /-- SPI_WINDOW_READ (R331): A window word read returns its contents, or zeros with a token violation when the device holds the granule. -/
  | spiWindowRead (cmd index : Half) (words : Nat)
  /-- SPI_FRAME_ABORT (R313): CS_N rises part-way through a word, which discards the word and sets SPI_ERR.frame. -/
  | spiFrameAbort (whole : List Half) (cutBits : Nat)
  /-- HOST_RESET (R317): A write of 0xA55A to HOST_RESET resets the device within 1 µs. -/
  | hostReset
  /-- DOORBELL (R328): A write to RINGn_DB hands over descriptors up to the new tail, or records a ring error. -/
  | doorbell (ring : Nat) (data : Half)
  /-- TOKEN_VIOL_COUNT_READ (R323): A read of TOKEN_VIOL_COUNT returns the count and clears it. -/
  | tokenViolCountRead
  /-- EVT_LOST_READ (R323): A read of EVT_LOST returns the dropped-event count and clears it. -/
  | evtLostRead
  /-- HEAT_DEFER_READ (R324): A read of HEAT_DEFER returns the heat-deferral count and clears it. -/
  | heatDeferRead
  /-- TWIN_LINK_ERR_READ (R325): A read of TWIN_LINK_ERR returns the failed twin message count and clears it. -/
  | twinLinkErrRead
  /-- ANGLE_ENABLE (R50): ANGn_CTRL.en goes from 0 to 1, which takes the stored kind into effect and zeroes the accumulator. -/
  | angleEnable (src : Nat)
  /-- ANGLE_DISABLE (R50): ANGn_CTRL.en is written 0, which stops the source, holds the accumulator and clears synced. -/
  | angleDisable (src : Nat)
  /-- ANGLE_RESYNC (R50): A write of 1 to ANGn_CTRL.resync drops sync and starts a new search on a quadrature or tooth wheel source. -/
  | angleResync (src : Nat)
  /-- TMR_SWCAP (R70): A write of 1 to TMRn_CTRL.swcap captures the counter into CC in capture mode. -/
  | tmrSwcap (chan : Nat)
  /-- TMR_CLR (R64): A write of 1 to TMRn_CTRL.clr sets the counter to 0 on the next clock. -/
  | tmrClr (chan : Nat)
  /-- TMR_COMPARE_MATCH (R67): The counter meets CC in compare mode, restarts from 0 and sets match. -/
  | tmrCompareMatch (chan : Nat)
  /-- TMR_OVERFLOW (R67): The counter wraps from 0xFFFF_FFFF to 0 and sets ovf. -/
  | tmrOverflow (chan : Nat)
  /-- TMR_CAPTURE_TRIGGER (R70): A selected trigger copies the counter into CC, setting cap and possibly cap_lost. -/
  | tmrCaptureTrigger (trig : Nat)
  /-- ANGLE_EDGE (R39): A conditioned counted edge acts, setting the accumulator to its angle, updating the rate and checking gaps and sync. -/
  | angleEdge (src : Nat) (edge : PinEdge) (forward : Bool) (dated : Nat)
  /-- ANGLE_INDEX_EDGE (R43): An index edge on ANGn_Z syncs or corrects the source, possibly setting sync_jump and tt_skip. -/
  | angleIndexEdge (src : Nat) (rising : Bool) (dated : Nat)
  /-- ANGLE_GLITCH (R38): The glitch filter discards a short pulse and sets ANGn_STAT.glitch. -/
  | angleGlitch (src clocks : Nat)
  /-- ANGLE_STALL (R44): No edge for stall_ms makes the source stalled. -/
  | angleStall (src : Nat)
  /-- ENTRY_ARM (R58): A due entry whose predicted crossing is within arm_lead_us submits a candidate block to the heat scheduler. -/
  | entryArm (svc opp : Nat)
  /-- LEDGER_STEP (R373): Every 1 ms the ledger reads the sensors, updates P_filt and Ta_est, and decides the candidates that are due. -/
  | ledgerStep (sensors : List Int) (vbatMv : Nat)
  /-- ADMISSION_FINAL (R58): 50 µs before the predicted crossing, an admitted candidate's admission becomes final. -/
  | admissionFinal (svc : Nat)
  /-- ENTRY_CROSSING (R59): The accumulator crosses an entry and the admitted block starts, or the service is deferred. -/
  | entryCrossing (svc opp : Nat)
  /-- LIVE_CAL_STEP (R99): At a driven downlink boundary after the spacing count, live calibration steps tune_code or trim by one. -/
  | liveCalStep (line boundary : Nat) (cur volt : Phasor)
  /-- REPLY_WINDOW_CLOSE (R121): A receive window closes and the block sequencer decides the command's outcome. -/
  | replyWindowClose (svc : Nat) (rx : List RxChannel)
  /-- LINE_FAULT (R95): A supervised line shows open, short, overcurrent, quench failure or bridge fault, and is quenched and posted. -/
  | lineFault (line : Nat) (obs : LineObs)
  /-- HEADROOM_LIMIT (R78): After 16 driven cyc short of target but above 25 %, the line runs at full conduction and sets headroom. -/
  | headroomLimit (line cyc ma : Nat)
  /-- BLOCK_END (R92): A block's quench completes, releasing its lines and engine and applying its results to the roster, keys and rings. -/
  | blockEnd (svc : Nat) (meas : BlockMeas)
  /-- KP_ANSWER (R210): A KP_ANSWER packet is checked and, if accepted, makes its key PRESENT. -/
  | kpAnswer (pkt : FobPacket)
  /-- FOB_DATA (R276): A FOB_DATA packet is checked, posted as an event and acknowledged with FOB_ACK. -/
  | fobData (pkt : FobPacket)
  /-- ZT_REPORT (R239): A ZT_REPORT packet is matched to a ZONE_TRACK block and leads to the ranging exchange. -/
  | ztReport (pkt : FobPacket)
  /-- PREAMBLE_DETECTED (R270): The receiver detects a preamble, which aborts any background calibration slice and starts diversity. -/
  | preambleDetected
  /-- RADIO_TX_REQUEST (R266): A transmit request for ZT_POLL, FOB_ACK or RESYNC is queued with its deadline and raises COEX_REQ. -/
  | radioTxRequest
  /-- SYNTH_LOCK (R265): The synthesiser declares lock, which may start a queued transmission. -/
  | synthLock
  /-- LOCK_LOSS (R265): The synthesiser loses lock, which turns the PA off and ends the packet or silences the tone slot. -/
  | lockLoss
  /-- PA_RAMP_START (R267): Once lock, grant and lead time are all met, the PA ramp begins and the packet is sent. -/
  | paRampStart
  /-- TX_END (R263): A transmission ends, COEX_REQ falls and the radio enters its return state. -/
  | txEnd
  /-- TX_DEADLINE_EXPIRY (R266): A queued request reaches its deadline unsent and completes with ST_TX_LATE. -/
  | txDeadlineExpiry
  /-- COEX_WAIT_EXPIRY (R268): COEX_GRANT is absent when coex_wait_us runs out, giving ST_COEX_DENIED. -/
  | coexWaitExpiry
  /-- COEX_GRANT_RISE (R267): COEX_GRANT rises and may allow a waiting PA ramp. -/
  | coexGrantRise
  /-- COEX_GRANT_FALL (R268): COEX_GRANT falls during TX or RANGE, and the PA is turned off with ST_COEX_DENIED. -/
  | coexGrantFall
  /-- RANGING_EXCHANGE (R245): After foreground calibration, the 80-tone slots of a ranging exchange run. -/
  | rangingExchange (devDelayPs : Nat)
  /-- RANGING_END (R246): Slot 79 ends, and the range is computed and fused into a fix with zone and relay verdict. -/
  | rangingEnd (tones : List Tone)
  /-- REPORT_AGE_EXPIRY (R240): No matching report or poll within report_max_age_ms, so no fix is made from that block. -/
  | reportAgeExpiry (slot : Nat)
  /-- KEY_POLL_LISTEN_END (R278): The KEY_POLL listen window ends at E + 12.0 ms. -/
  | keyPollListenEnd
  /-- BG_CAL_INTERVAL (R270): Each bg_interval_ms, or on a temperature change, the next background calibration item starts. -/
  | bgCalInterval
  /-- BG_CAL_SLICE_END (R270): A background calibration slice completes, and the item takes effect after its last slice. -/
  | bgCalSliceEnd
  /-- SESSION_LAPSE (R216): No accepted message and no clean IMMO_AUTH for session_lapse_ms returns the key to AWAY. -/
  | sessionLapse (slot : Nat)
  /-- CONFIRM_DEMAND (R221): confirm_ms / 2 after the last qualifying fix, a ZONE_TRACK demand is raised for the holding key. -/
  | confirmDemand (out : Nat)
  /-- CONFIRM_HOLD_LAPSE (R230): A confirmed hold lapses with no fix within confirm_ms, and the output is dropped. -/
  | confirmHoldLapse (out : Nat)
  /-- NOTIFY_TIMEOUT (R229): The twin is silent for 5 ms after a release notice, and the output returns to LOCKED with ST_TWIN_NO_ACK. -/
  | notifyTimeout (out : Nat)
  /-- LOCK_REQUEST_TIMEOUT (R233): lock[n].request_ms passes and the pending requests complete with the first observed refusal status. -/
  | lockRequestTimeout (out : Nat)
  /-- ILK_CHARGED (R229): Two good pulse periods in a row make the output RELEASED and complete pending requests. -/
  | ilkCharged (out : Nat)
  /-- ILK_ECHO_MISSING (R226): The echo fails while CHARGING or for 3 periods while RELEASED, so the pulses stop and the output enters FAULT. -/
  | ilkEchoMissing (out : Nat)
  /-- ILK_ECHO_WHILE_LOCKED (R399): A high echo in 3 periods on a locked output with no standing notice causes a fault and force lock. -/
  | ilkEchoWhileLocked (out : Nat)
  /-- FORCE_LOCK_RELEASE (R399): Every echo has been static low for 10 periods, so ILK_KILL_N is released. -/
  | forceLockRelease
  /-- KEY_ENROL_PROOF_TIMEOUT (R208): No block serves the enrolment demand within 10 s, and KEY_ENROL completes with ST_ILK_NO_REPLY. -/
  | keyEnrolProofTimeout
  /-- HITCH_FIELD_RISE (R182): The hitch field detector declares field-on and the island starts on field power. -/
  | hitchFieldRise (reservoirMv : Nat)
  /-- HITCH_LEAD (R133): A lead of 32 cyc or more after field rise takes the island tag from OFF to READY and opens a field session. -/
  | hitchLead (cyc : Nat)
  /-- HITCH_FIELD_LOSS (R126): The field is absent for more than 64 cyc, the tag goes OFF and the field session closes. -/
  | hitchFieldLoss
  /-- WAKE_PATTERN (R115): The island receives an 8-bit wake pattern, which may wake the device. -/
  | wakePattern (f : AirFrame)
  /-- INV_WALK (R142): The island tag receives INV_WALK and answers with its UID bits if it matches. -/
  | invWalk (f : AirFrame)
  /-- INV_ASSIGN (R143): The island tag receives INV_ASSIGN and takes a handle and rate with an ACK. -/
  | invAssign (f : AirFrame)
  /-- QUIET (R133): The island tag receives QUIET and enters QUIET. -/
  | quiet (f : AirFrame)
  /-- RESET_ALL (R133): The island tag receives RESET_ALL and returns to READY. -/
  | resetAll (f : AirFrame)
  /-- READ (R139): The island tag receives READ and returns blocks, with a mac where protected. -/
  | read (f : AirFrame)
  /-- WRITE (R189): The island tag receives WRITE, checks the reservoir, runs commit steps 1 and 2 and replies. -/
  | write (f : AirFrame) (reservoirMv : Nat)
  /-- AUTH_1 (R148): The island tag receives AUTH_1 by handle and answers rt and tp. -/
  | auth1 (f : AirFrame)
  /-- AUTH_1U (R148): The island tag receives AUTH_1U by UID check and answers rt and tp. -/
  | auth1u (f : AirFrame)
  /-- AUTH_2 (R148): The island tag receives AUTH_2 and becomes AUTHENTICATED or reverts. -/
  | auth2 (f : AirFrame)
  /-- H_STATUS (R141): The island tag receives H_STATUS and returns the island word. -/
  | hStatus (f : AirFrame)
  /-- H_CHAIN (R436): The island tag receives H_CHAIN carrying a firmware chain operation, as a secure command. -/
  | hChain (f : AirFrame)
  /-- ISLAND_COMMIT_COMPLETE (R189): Commit steps 3 and 4 of a block write finish and the commit flag clears. -/
  | islandCommitComplete
  /-- XPM_APPLIED (R197): The last staged block passes step 2, XPM_APPLIED is posted and staged clears. -/
  | xpmApplied
  /-- CHAIN_OFFER (R436): A target receives the OFFER chain operation and decides whether to take the image. -/
  | chainOffer (via : Via) (payload : List Byte)
  /-- CHAIN_DATA (R436): A target receives the DATA chain operation and gathers and applies stream bytes. -/
  | chainData (via : Via) (payload : List Byte)
  /-- CHAIN_STATUS (R436): A target receives the STATUS chain operation and reports its stage. -/
  | chainStatus (via : Via)
  /-- CHAIN_WITHDRAW (R436): A target receives the WITHDRAW chain operation and reports its stage. -/
  | chainWithdraw (via : Via)
  /-- CHAIN_OFFER_TIMER (R435): Every upd.chain_offer_s the source offers its image over the bus. -/
  | chainOfferTimer
  /-- AUTO_CONFIRM (R427): A trial image that has run upd.auto_confirm_s is confirmed by the device. -/
  | autoConfirm
  /-- HELLO (R388): A HELLO twin frame carries session nonces and brings the link up. -/
  | hello (h : FrameHdr) (role lastRole : Nat)
  /-- HEARTBEAT (R387): A HEARTBEAT twin frame is accepted and keeps the link alive. -/
  | heartbeat (h : FrameHdr)
  /-- MIRROR (R396): The SIDING applies a MIRROR frame in sequence and acknowledges it. -/
  | mirror (h : FrameHdr) (seq : Nat) (recs : List MirrorRec)
  /-- MIRROR_ACK (R396): The ACTIVE receives MIRROR_ACK and posts the results it held for that change. -/
  | mirrorAck (h : FrameHdr) (seq : Nat)
  /-- NOTIFY (R398): The SIDING receives a release NOTIFY and acknowledges it if its output is LOCKED. -/
  | notify (h : FrameHdr) (out : Nat)
  /-- NOTIFY_ACK (R229): The ACTIVE receives NOTIFY_ACK, rechecks the conditions and starts the pulses. -/
  | notifyAck (h : FrameHdr) (out : Nat)
  /-- DROP (R398): The SIDING receives a DROP frame and the notice ends 200 µs later. -/
  | drop (h : FrameHdr) (out : Nat)
  /-- NOTICE_END (R398): 200 µs after DROP, the standing notice for the output ends. -/
  | noticeEnd (out : Nat)
  /-- NOTICE_TABLE (R398): The SIDING receives NOTICE_TABLE and starts echo supervision with standing notices. -/
  | noticeTable (h : FrameHdr) (outs : BitVec 4)
  /-- SLEEP (R402): A twin SLEEP frame makes its notice stand and is answered with SLEEP_ACK. -/
  | sleep (h : FrameHdr) (target : Nat)
  /-- SLEEP_ACK (R402): SLEEP_ACK lets the sleeping device's commit proceed. -/
  | sleepAck (h : FrameHdr) (target : Nat)
  /-- FAILED_FRAME (R400): A FAILED frame from the ACTIVE makes the SIDING take over, or is posted as TWIN_FAILED. -/
  | failedFrame (h : FrameHdr) (code arg : Half)
  /-- RESET_REQ (R401): A RESET_REQ frame resets the old device with RESET_CAUSE bit 6. -/
  | resetReq (h : FrameHdr)
  /-- UNPAIR (R391): An UNPAIR frame makes the receiving device unpair. -/
  | unpair (h : FrameHdr)
  /-- PAIR_HELLO (R390): The twin's PAIR_HELLO is checked for chain and matching items. -/
  | pairHello (m : PairHelloMsg)
  /-- PAIR_KEY (R390): PAIR_KEY is checked, and the ECDH pair key is derived into slot 3. -/
  | pairKey (m : PairKeyMsg)
  /-- PAIR_CONFIRM (R390): PAIR_CONFIRM is checked, and slot mirroring and resynchronisation follow. -/
  | pairConfirm (mac : List Byte)
  /-- PAIR_DONE (R390): PAIR_DONE lets the ACTIVE write its pairing record and complete TWIN_PAIR. -/
  | pairDone
  /-- TWIN_PEER_TIMEOUT (R389): No PAIR_HELLO within 10 s ends the ceremony with ST_TWIN_NO_PEER. -/
  | twinPeerTimeout
  /-- TWIN_HB_TIMEOUT (R400): TWIN_HB_IN shows no edge for hb_timeout_ms, giving takeover, FAILED or solo operation. -/
  | twinHbTimeout
  /-- TWIN_LINK_DOWN (R388): No frame is accepted for hb_timeout_ms, the link goes down and link_lost is set. -/
  | twinLinkDown
  /-- TWIN_LINK_FAIL (R400): No frame for link_fail_ms while the heartbeat toggles makes the SIDING FAILED. -/
  | twinLinkFail
  /-- ROLE_DECISION (R392): A paired device that has booted takes ACTIVE or SIDING from its twin's state, or after boot_wait_ms. -/
  | roleDecision
  /-- BUS_REQUEST_RX (R405): A Request PGN 59904 is answered, forwarded or NACKed. -/
  | busRequestRx (f : CanFrame)
  /-- TP_FRAME_RX (R406): A transport or extended transport protocol frame advances a send or receive session. -/
  | tpFrameRx (f : CanFrame)
  /-- ADDRESS_CLAIM_RX (R407): A contesting Address Claimed message moves the device's address or gives Cannot Claim. -/
  | addressClaimRx (f : CanFrame)
  /-- COMMANDED_ADDRESS_RX (R405): A Commanded Address message changes the address when cmd_addr_en is 1. -/
  | commandedAddressRx (name : Dword) (addr : Nat)
  /-- PROPRIETARY_A_RX (R408): A Proprietary A message goes to the chain or is posted as BUS_RX. -/
  | proprietaryARx (f : CanFrame)
  /-- BUS_FRAME_RX (R410): Any other received frame is posted as BUS_RX where its PGN or mode calls for it. -/
  | busFrameRx (f : CanFrame)
  /-- TP_TIMEOUT (R406): A transport timeout T1 to T4 aborts the session with ST_BUS_ABORTED. -/
  | tpTimeout (session : Nat)
  /-- BAM_FRAME_TIMER (R406): Every 50 ms the next BAM data frame is sent. -/
  | bamFrameTimer
  /-- CLAIM_HOLDOFF_EXPIRY (R407): 250 ms after an uncontested claim, traffic other than address claims is allowed. -/
  | claimHoldoffExpiry
  /-- BUS_OFF_ENTRY (R413): The controller goes bus-off, posts BUS_OFF and raises busoff_count. -/
  | busOffEntry
  /-- BUS_OFF_RECOVERY (R413): After 128 occurrences of 11 recessive bits, the controller recovers and reclaims its address. -/
  | busOffRecovery
  /-- WAKE_SOURCE_EVENT (R366): An enabled wake source event from SPI, CAN, hitch or angle in HALT or STABLED starts the wake order, or is latched during entry. -/
  | wakeSourceEvent (cause : WakeCause)
  /-- WAKE_TIMER_EXPIRY (R366): The wake timer reaches WAKE_TMR and wakes the device. -/
  | wakeTimerExpiry
  /-- WAKE_STEP_READY (R364): A wake step reports ready and the next step starts, or the wake completes and PWR_SLEEP completes. -/
  | wakeStepReady (us : Nat)
  /-- WAKE_STEP_TIMEOUT (R364): A wake step not ready within 10 ms resets the device as a watchdog reset. -/
  | wakeStepTimeout
  /-- SLEEP_PREPARE_TIMEOUT (R368): A participant still busy after prepare_ms refuses, and the sleep entry aborts. -/
  | sleepPrepareTimeout
  /-- SLEEP_COMMIT (R369): Every participant agrees, and the device stops participants in reverse order and enters the state. -/
  | sleepCommit
  /-- PATROL_HOURLY_CHECK (R452): Each hour the device checks whether a refresh patrol is due or overdue and queues one. -/
  | patrolHourlyCheck
  /-- ELAPSED_TIME_SAVE (R452): Every 24 h the elapsed time and operating hours are saved to data flash. -/
  | elapsedTimeSave
  /-- MAINT_ACTIVITY_END (R354): A maintenance activity ends, posts MAINT_DONE and the token passes to the next queued activity. -/
  | maintActivityEnd (patrol : PatrolResult)
  /-- ENGINE_JOB_COMPLETE (R293): An AES or public-key job or part finishes, freeing its engine for waiting jobs. -/
  | engineJobComplete (job : Nat)
  /-- SYS_RESET (R340): SYS_RESET with key 0xA55A resets the device. -/
  | sysReset (ring : Nat)
  /-- SYS_XPM_READ (R194): Reads transponder memory blocks into the buffer. -/
  | sysXpmRead (ring : Nat)
  /-- SYS_XPM_WRITE (R196): Writes transponder memory blocks now, or stages them while a field session is open. -/
  | sysXpmWrite (ring : Nat)
  /-- SYS_BUS_SEND (R409): Sends a buffer on the vehicle bus by single frame, transport protocol or FD. -/
  | sysBusSend (ring : Nat)
  /-- SYS_BUS_CLAIM (R407): Claims or declares a bus NAME and address for the session. -/
  | sysBusClaim (ring : Nat)
  /-- PARAM_GET (R342): Returns one parameter value. -/
  | paramGet (ring : Nat)
  /-- PARAM_SET (R342): Writes one parameter, applying or staging it. -/
  | paramSet (ring : Nat)
  /-- PARAM_GET_MANY (R341): Returns a run of parameter values. -/
  | paramGetMany (ring : Nat)
  /-- PARAM_SET_MANY (R342): Writes ID and value pairs in order, stopping at the first failure. -/
  | paramSetMany (ring : Nat)
  /-- PARAM_SAVE (R343): Saves every read-write item to a fresh settings area. -/
  | paramSave (ring : Nat)
  /-- RING_SETUP (R326): Sets the base and size of a ring. -/
  | ringSetup (ring : Nat)
  /-- RING_POST (R334): Posts a result buffer or an event descriptor on a ring. -/
  | ringPost (ring : Nat)
  /-- RING_CANCEL (R345): Completes the cancellable descriptors held on a ring. -/
  | ringCancel (ring : Nat)
  /-- ROUTE_LINE_CLEAR (R97): Clears line faults on the lines masked. -/
  | routeLineClear (ring : Nat)
  /-- ROUTE_STATUS (R346): Returns route states and faulted lines. -/
  | routeStatus (ring : Nat)
  /-- SVC_DEFINE (R347): Checks a service and places its Timetable entries. -/
  | svcDefine (ring : Nat)
  /-- SVC_UNDEFINE (R348): Removes a service's entries and cancels its demands. -/
  | svcUndefine (ring : Nat)
  /-- SVC_DEMAND (R348): Makes a service due and holds the descriptor until its block ends. -/
  | svcDemand (ring : Nat)
  /-- ROSTER_ADD (R160): Adds or pins a roster entry for a UID. -/
  | rosterAdd (ring : Nat)
  /-- ROSTER_FIND (R160): Returns the handle of a UID's entry. -/
  | rosterFind (ring : Nat)
  /-- ROSTER_GET (R160): Copies roster entries into a buffer. -/
  | rosterGet (ring : Nat)
  /-- ROSTER_SET_OWNER (R160): Writes an entry's owner word. -/
  | rosterSetOwner (ring : Nat)
  /-- ROSTER_DELETE (R160): Frees a roster entry not named by a service. -/
  | rosterDelete (ring : Nat)
  /-- ROSTER_COMPACT (R177): Requests the maintenance token to free stale ABSENT entries and rebuild the index. -/
  | rosterCompact (ring : Nat)
  /-- AUTH_KEY (R350): Raises an IMMO_AUTH demand for a key and completes with its status. -/
  | authKey (ring : Nat)
  /-- AUTH_STATUS (R349): Returns a key's status, zone, rights and ages. -/
  | authStatus (ring : Nat)
  /-- LOCK_REQUEST (R232): Requests release of an output and holds until release or refusal. -/
  | lockRequest (ring : Nat)
  /-- LOCK_ENGINE_STOPPED (R234): Reports engine stopped, dropping ILK0 and dependent outputs. -/
  | lockEngineStopped (ring : Nat)
  /-- LOCK_DROP (R234): Drops the named outputs among ILK1 to ILK3. -/
  | lockDrop (ring : Nat)
  /-- LOCK_CLEAR (R229): Clears an output's FAULT when its echo is static low. -/
  | lockClear (ring : Nat) (echoLow : Bool)
  /-- ZONE_FIX (R350): Raises a ZONE_TRACK demand for a key and returns its fix record. -/
  | zoneFix (ring : Nat)
  /-- ZONE_GET (R350): Returns a key's latest fix record. -/
  | zoneGet (ring : Nat)
  /-- RANGE_DETAIL (R350): Returns a key's last ranging exchange tone data. -/
  | rangeDetail (ring : Nat)
  /-- RADIO_CAL (R351): Runs one full background calibration round at once. -/
  | radioCal (ring : Nat)
  /-- RADIO_CW (R351): Transmits an unmodulated carrier for a duration. -/
  | radioCw (ring : Nat)
  /-- RADIO_CW_END (R351): The RADIO_CW duration expires and the carrier stops. -/
  | radioCwEnd
  /-- RADIO_STOP (R351): Ends a running RADIO_CW. -/
  | radioStop (ring : Nat)
  /-- KEY_ENROL (R208): Enrols or updates an operator key after proof and master checks. -/
  | keyEnrol (ring : Nat)
  /-- KEY_REVOKE (R209): Revokes or empties a key slot. -/
  | keyRevoke (ring : Nat)
  /-- KEY_LIST (R352): Lists key table slots. -/
  | keyList (ring : Nat)
  /-- KEY_OEM_ROOT (R283): Burns the OEM root hash once in PROVISIONED. -/
  | keyOemRoot (ring : Nat)
  /-- KEY_OTP_WRITE (R283): Burns rows of the OEM OTP area. -/
  | keyOtpWrite (ring : Nat)
  /-- KEY_OTP_READ (R283): Reads OTP areas, with HUK bytes reading 0. -/
  | keyOtpRead (ring : Nat)
  /-- KEY_XPORT_OPEN (R290): Generates a signed transport key pair for an import. -/
  | keyXportOpen (ring : Nat)
  /-- KEY_IMPORT (R290): Imports a wrapped key into a slot after its checks. -/
  | keyImport (ring : Nat)
  /-- KEY_GENERATE (R291): Generates a P-384 key in an OEM slot. -/
  | keyGenerate (ring : Nat)
  /-- KEY_HITCH_ENROL (R291): Derives the hitch key into slot 5 and the island key cell. -/
  | keyHitchEnrol (ring : Nat)
  /-- KEY_DESTROY (R287): Destroys a slot after jobs holding it end. -/
  | keyDestroy (ring : Nat)
  /-- KEY_CMAC (R294): Computes a CMAC part under a host slot, saving its context. -/
  | keyCmac (ring : Nat)
  /-- KEY_CCM_ENC (R294): Encrypts with CCM under a device nonce. -/
  | keyCcmEnc (ring : Nat)
  /-- KEY_CCM_DEC (R295): Decrypts with CCM into quarantine, releasing the result or zeroising it. -/
  | keyCcmDec (ring : Nat)
  /-- KEY_SHA (R294): Computes SHA-384 over a buffer. -/
  | keySha (ring : Nat)
  /-- KEY_SIGN (R294): Signs a digest with an OEM slot. -/
  | keySign (ring : Nat)
  /-- KEY_VERIFY (R294): Verifies an ECDSA signature. -/
  | keyVerify (ring : Nat)
  /-- KEY_CTR_ADVANCE (R302): Advances an OEM monotonic counter. -/
  | keyCtrAdvance (ring : Nat)
  /-- KEY_ATTEST (R303): Returns a signed attestation report. -/
  | keyAttest (ring : Nat)
  /-- KEY_CERT_READ (R303): Returns the device certificate. -/
  | keyCertRead (ring : Nat)
  /-- KEY_LIFECYCLE (R305): Moves the lifecycle to FIELD or RETURNED, wipes and resets. -/
  | keyLifecycle (ring : Nat)
  /-- UPD_HEADER (R420): Checks an image header and starts or resumes receiving. -/
  | updHeader (ring : Nat)
  /-- UPD_PIECE (R423): Decrypts and programs one image piece. -/
  | updPiece (ring : Nat)
  /-- UPD_VERIFY (R424): Checks the received body against the manifest. -/
  | updVerify (ring : Nat)
  /-- UPD_ACTIVATE (R425): Flips the boot record to the new bank and resets. -/
  | updActivate (ring : Nat)
  /-- UPD_CONFIRM (R427): Confirms a trial image and burns its security version. -/
  | updConfirm (ring : Nat)
  /-- UPD_STATUS (R428): Returns the update stage and bitmap. -/
  | updStatus (ring : Nat)
  /-- UPD_ABORT (R428): Abandons the image in hand. -/
  | updAbort (ring : Nat)
  /-- TWIN_PAIR (R389): Starts the pairing ceremony in the role given. -/
  | twinPair (ring : Nat)
  /-- TWIN_UNPAIR (R391): Unpairs this device and its twin. -/
  | twinUnpair (ring : Nat)
  /-- TWIN_RESYNC (R397): Requests a full twin resynchronisation. -/
  | twinResync (ring : Nat)
  /-- TWIN_STATUS (R353): Returns twin status, backlog and takeovers. -/
  | twinStatus (ring : Nat)
  /-- MAINT_REFRESH (R453): Requests a refresh patrol. -/
  | maintRefresh (ring : Nat)
  /-- MAINT_CAL_SWEEP (R454): Requests a line calibration sweep over the masked lines. -/
  | maintCalSweep (ring : Nat)
  /-- MAINT_CANCEL (R354): Removes a queued maintenance activity. -/
  | maintCancel (ring : Nat)
  /-- MAINT_STATUS (R353): Returns the running and queued activities. -/
  | maintStatus (ring : Nat)
  /-- PWR_SLEEP (R367): Starts sleep entry into HALT or STABLED with the prepare phase. -/
  | pwrSleep (ring : Nat)
  /-- PWR_HEAT (R379): Returns a heat ledger snapshot. -/
  | pwrHeat (ring : Nat)
  /-- DIAG_TT_READ (R57): Returns Timetable entries of a source. -/
  | diagTtRead (ring : Nat)
  /-- DIAG_CAPTURE (R355): Records samples from a line during its next block. -/
  | diagCapture (ring : Nat)
  /-- DIAG_SELFTEST (R444): Runs the self-tests in a mask. -/
  | diagSelftest (ring : Nat) (fails : BitVec 12)
  /-- DIAG_FAULT_LOG (R450): Returns the fault log. -/
  | diagFaultLog (ring : Nat)
  /-- DIAG_ECHO (R353): Returns its three argument words. -/
  | diagEcho (ring : Nat)
  /-- ISLAND_BROWNOUT (R180): The hitch reservoir falls below 2.2 V, the island resets and the tag goes OFF, possibly leaving a commit torn. -/
  | islandBrownout (reservoirMv : Nat)
  /-- SLEEP_ACK_TIMEOUT (R402): The standing twin returns no SLEEP_ACK within 1 ms of the SLEEP frame sent at commit, so participant 9 refuses and the entry aborts. -/
  | sleepAckTimeout
  /-- FORCE_LOCK_NOTICE (R399): The device receives its twin's notice that the twin forced the outputs locked, and sets TWIN_FLAGS.force_lock. -/
  | forceLockNotice (h : FrameHdr) (out : Nat)
  /-- HEARTBEAT_RESUMED (R393): An edge on TWIN_HB_IN after a timeout makes the twin stand again, so a solo ACTIVE sends its backlog or starts resynchronisation. -/
  | heartbeatResumed
  /-- HEARTBEAT_TIMER (R387): Every 1 ms a device with nothing else to send transmits a HEARTBEAT frame, or a FAILED frame while it is FAILED. -/
  | heartbeatTimer
  /-- CAN_FRAME_SENT (R409): The CAN controller completes transmission of a frame, which completes a single-frame or final-BAM SYS_BUS_SEND with ST_OK. -/
  | canFrameSent
  /-- FLASH_WRITE_COMPLETE (R301): A data flash write or erase completes, which lets waiting counter use, reservations, records and patrol work proceed. -/
  | flashWriteComplete
  /-- VENDOR_PROVISIONING (R305): At Brixqua final test a signed provisioning record moves the device from BLANK to PROVISIONED, drawing the HUK and generating DEV_ID. -/
  | vendorProvisioning (cert imgKey sig : List Byte)
  /-- ASLEEP_REGISTER_READ (R18): A direct read of a hardware register in a sleeping block returns 0x0000 and sets the sticky ASLEEP_ACCESS flag. -/
  | asleepRegisterRead (addr : Nat)
  /-- TAKEOVER_ECHO_SETTLED (R401): During takeover, every echo has been static low for 10 periods, or after 3 periods is not, so ILK_KILL_N is pulled and takeover proceeds. -/
  | takeoverEchoSettled (high : BitVec 4)
  deriving DecidableEq, Repr

end Sys2Proof
end

