-- ==== Sys2Proof/Decode.lean ====
section
/-!
DEFINITION. Sys2Proof/Decode.lean: the reading of a table word. No row of spec/opcode_table.json gives bits, so no word
spells a command: commands reach the device as accesses, frames, edges and expiries, never as words.
-/
namespace Sys2Proof

/-- The command a word of `nbits` bits spells by the table: none, for every word. -/
def decodeTableWord (nbits w : Nat) : Option Instr :=
  match nbits, w with
  | _, _ => none

end Sys2Proof
end

