-- ==== Sys2Proof/Config.lean ====
section
/-!
DEFINITION. Sys2Proof/Config.lean: what the spec leaves open, as uninterpreted constants: no body, so
nothing can be proved of a value. `Nat` arguments are the counter `State.free` unless said otherwise.
-/

namespace Sys2Proof.Config

/-- Output of the random source (10 R299): one byte per draw. -/
opaque randomByte : Nat → Byte

/-- Whether a low pulse on RST_N between 200 ns and 1 µs (its length in ns) resets the device (17 R463
gives only "1 µs resets" and "200 ns ignored"). -/
opaque rstPulseTaken : Nat → Bool

/-- Whether a phase of a CAN wake-up pattern between 0.5 µs and 1.8 µs long (in ns) counts, and whether a pattern between 0.8 ms and 1.2 ms
long is complete within tWake (14 R412 bounds tFilter and tWake). -/
opaque canPhaseCounts : Nat → Bool
opaque canPatternInTime : Nat → Bool

/-- Whether VBAT between 4.3 V and 4.9 V, or VIO between the bounds of its threshold, in mV, has passed its threshold (17 R463). -/
opaque vbatRises : Nat → Bool
opaque vioRises : Nat → Bool

/-- The island's proof value rt of a reply to AUTH_1 (04 R149: from a counter or a random source). -/
opaque islandRt : Nat → Word

/-- The build number of the running image (11 R317: any value may appear), until an image of known
header runs. -/
opaque firmwareBuild : Half

/-- Settings migration's table of the image itself (15 R433): the value an item (ID, old value) takes, or
none where it cannot be brought inside its range. -/
opaque migrateItem : Nat → Word → Option Word

/-- A byte of an event or result to which the spec gives no value. -/
opaque openByte : Nat → Byte

/-- bus.tec and bus.rec at a clock at which the controller runs: ISO 11898-1 counts them from errors on the bus (14 R404, R414), which no command
shows. -/
opaque busTxErrors : Nat → Nat
opaque busRxErrors : Nat → Nat

/-- A patrol that runs at this clock: how many times it has saved its position, at every 64 pages, and whether a code sector is in the refresh
buffer (16 R453). -/
opaque patrolSaves : Nat → Nat
opaque refreshUnderWay : Nat → Bool

/-- The least-squares solutions of LF distances from coils that all lie on one line (08 R249): every point of a circle is one, and the
spec names none. Centres, distances and points in µm. -/
opaque lineSolutions : List (Int × Int × Int × Nat) → List (Int × Int × Int)

/-- Clocks that phases 0 to 3 of BOOT_STATUS take (11 R317 names the phases, the image sets their length). -/
opaque bootPhaseClocks : Nat → Nat

/-- The standard deviation of a range in µm, by band and distance in mm, where the table of 08 R254 gives none. -/
opaque rangeSigmaUm : Nat → Nat → Nat

/-- The bytes of change records in a MIRROR frame (14 R388: the encoding is not given). -/
opaque recordBytes : List MirrorRec → List Byte

/-- The mirror records' length on the link in bytes, by mirror sequence number (14 R396, R403: the encoding is not given). -/
opaque mirrorBytes : Nat → Nat

/-- Conduction angle of a half bridge in 0.1° (03 R78 regulates it and gives no formula): by coil_l in 0.1 µH, coil_r in mΩ, VBAT in mV, target in mA
and driven cycle. -/
opaque conductionAngle : Nat → Nat → Nat → Nat → Nat → Nat

/-- The code that the block of a calibration sweep which started at this clock has chosen, while it still runs (16 R454): the measurement it rests
on reaches the model with the end of the block. -/
opaque sweptCode : Nat → Nat

/-- Gaps that the heat ledger counts for a block that walks, a ROSTER_SWEEP or an IMMO_AUTH that identifies by a walk, of a service with this
span (13 R374): what a walk will send is not known when the block is priced. -/
opaque sweepGaps : Nat → Nat → Nat

end Sys2Proof.Config
end

