-- ==== Sys2Proof/Machine/Bits.lean ====
section
/-!
DEFINITION. Sys2Proof/Machine/Bits.lean: bit strings, byte order and the CRC-16 of 04 R127, used by every
family. Frames are lists of bits in the order sent (R108: most significant first).
-/

namespace Sys2Proof.Machine

/-- The `w` low bits of `v`, most significant first. -/
def bitsOf : Nat → Nat → List Bool
  | 0, _ => []
  | w + 1, v => v.testBit w :: bitsOf w v

/-- A bit string read as a number, first bit most significant. -/
def natOfBits (bs : List Bool) : Nat := bs.foldl (fun a b => 2 * a + b.toNat) 0

/-- `n` bytes of `v`, most significant first. -/
def beBytes : Nat → Nat → List Byte
  | 0, _ => []
  | n + 1, v => BitVec.ofNat 8 (v >>> (8 * n)) :: beBytes n v

/-- Bytes read most significant first. -/
def beNat (bs : List Byte) : Nat := bs.foldl (fun a b => 256 * a + b.toNat) 0

/-- `n` bytes of `v`, least significant first (R13, R334, R418). -/
def leBytes : Nat → Nat → List Byte
  | 0, _ => []
  | n + 1, v => BitVec.ofNat 8 v :: leBytes n (v / 256)

/-- Bytes read least significant first. -/
def leNat : List Byte → Nat
  | [] => 0
  | b :: bs => b.toNat + 256 * leNat bs

/-- The bits of a byte string in sending order. -/
def bitsOfBytes (bs : List Byte) : List Bool := bs.flatMap fun b => bitsOf 8 b.toNat

/-- A bit string cut into bytes; a last short group is padded with zeros. -/
def bytesOfBits (bs : List Bool) : List Byte :=
  (List.range ((bs.length + 7) / 8)).map fun k =>
    let g := (bs.drop (8 * k)).take 8
    BitVec.ofNat 8 (natOfBits (g ++ List.replicate (8 - g.length) false))

/-- One step of the CRC register (04 R127). -/
def crcStep (reg : Nat) (x : Bool) : Nat :=
  let fb := (reg.testBit 15) != x
  let r := (reg * 2) % 65536
  if fb then r ^^^ 0x1021 else r

/-- The CRC register after `bits`, from its preset 0xFFFF. -/
def crcReg (bits : List Bool) : Nat := bits.foldl crcStep 0xFFFF

/-- The CRC-16 sent after `bits` (04 R127): the register's ones' complement. -/
def crc16 (bits : List Bool) : Half := BitVec.ofNat 16 (crcReg bits ^^^ 0xFFFF)

/-- uidchk: the CRC over the eight UID bytes (04 R135). -/
def uidchk (uid : Dword) : Half := crc16 (bitsOf 64 uid.toNat)

/-- Two's complement reading of the low `w` bits. -/
def signed (w v : Nat) : Int :=
  let m := v % 2 ^ w
  if 2 ^ (w - 1) ≤ m then (m : Int) - 2 ^ w else m

/-- The low `w` bits of an integer. -/
def unsigned (w : Nat) (v : Int) : Nat := (v % 2 ^ w).toNat

/-- Saturating increment: counters of the registers stop at `top` (R323). -/
def satSucc (top n : Nat) : Nat := if n < top then n + 1 else top

/-- Replace the n-th element of a list by a function of it. -/
def modNth {α : Type} (l : List α) (n : Nat) (f : α → α) : List α :=
  match l, n with
  | [], _ => []
  | x :: xs, 0 => f x :: xs
  | x :: xs, n + 1 => x :: modNth xs n f

/-- `ceil (a / b)`. -/
def ceilDiv (a b : Nat) : Nat := (a + b - 1) / b

end Sys2Proof.Machine
end

