-- ==== Sys2Proof/Machine/State.lean ====
section
/-!
DEFINITION. Sys2Proof/Machine/State.lean: the state of the KM-2464 as plain data, the reasons a
step can stop, and the state right after reset.
Fields are grouped by subsystem as spec 01 "Subsystems" does. A field of the model's own is said so.
-/

namespace Sys2Proof.Machine

/-- Byte memory in canonical form: addresses strictly rising, no entry equal to 0, what an unlisted
address reads as (window, OTP, island; spec 11 R326, 01 R36). -/
abbrev Mem := List Host.Cell

/-- A keyed word store in the same form: a key not listed has its default. -/
abbrev Cells := List (Nat × Word)

/-- Power and reset condition of the device (13 R361, 17 R463). `held`: in reset, VIO absent.
`prepare`, `commit`: sleep entry (R368, R369). `waking`: the wake order (R364). -/
inductive Mode where
  | off | held | boot | run | prepare | commit | halt | stabled | waking
  deriving DecidableEq, Repr

/-- Ordering code (00 R3). -/
inductive Part where
  | tapeReel | tray | sample
  deriving DecidableEq, Repr

/-- Device level registers and conditions (11 R317 to R319, 16 R442 to R456). -/
structure Dev where
  mode : Mode
  ready : Bool
  failed : Bool
  faultCode : Half
  faultArg : Half
  resetCause : BitVec 7
  bootPhase : Nat
  scratch : Half
  /-- clock at the last reset; µs since boot count from it (R334, R450). -/
  bootClk : Nat
  bootMs : Nat
  /-- elapsed and operating seconds at the last reset, on the always-on domain (16 R452). -/
  elapsedBase : Nat
  opBase : Nat
  bootTests : BitVec 12
  lastTest : Nat
  testsRun : Word
  nextTest : Nat
  selftestClk : Nat
  sramCorrected : Word
  eccEventClk : Option Nat
  part : Part
  /-- model's own: self-tests the silicon would fail, as last measured (R442). -/
  defects : BitVec 12
  /-- a fault found while booting, which makes the device FAILED as boot ends (R445). -/
  bootFault : Option (Nat × Nat)
  vbatMv : Nat
  vioMv : Nat
  /-- the VIO mode taken at power-on: 3.3 V, else 1.8 V (17 R463). -/
  vio33 : Bool
  /-- eight junction readings, 0.5 °C per count (13 R373). -/
  sensors : List Int
  /-- level of ILK_FB0 to ILK_FB3 (11 R325). -/
  echo : BitVec 4
  /-- 1 while this device pulls ILK_KILL_N low (14 R399). -/
  kill : Bool
  deriving DecidableEq, Repr

/-- One slot of the key table as data flash holds it (07 R207, R211, R216; 09 R275). -/
structure KeyNv where
  state : Nat
  uid : Dword
  rights : BitVec 5
  ctrMark : Word
  dlMark : Word
  barred : Bool
  deriving DecidableEq, Repr

/-- A fault log entry (16 R450), with the elapsed second it was written at (R448). -/
structure LogEntry where
  w0 : Word
  w1 : Word
  w2 : Word
  w3 : Word
  atS : Nat
  deriving DecidableEq, Repr

/-- A bank's settings area (15 R432). -/
structure Area where
  version : Nat
  imageId : Dword
  generation : Word
  items : Cells
  unmigrated : Bool
  /-- CCM nonce the record was written with (10 R300, purpose 0x30); empty for one written before the device left production. -/
  nonce : List Byte := []
  deriving DecidableEq, Repr

/-- A boot record (15 R426). `bank` false is A. -/
structure BootRec where
  bank : Bool
  trial : Bool
  count : Nat
  previous : Bool
  imageId : Dword
  seq : Nat
  nonce : List Byte := []
  deriving DecidableEq, Repr

/-- One code bank (15 R418, R421, R423): stored header blob, the pieces written, and whether the
body has been found to match its manifest. -/
structure Bank where
  blob : List Byte
  pieces : List (Nat × List Byte)
  good : Bool
  deriving DecidableEq, Repr

/-- Pairing record (14 R390). -/
structure PairRec where
  peerUid : Dword
  epoch : Word
  twinHash : List Byte
  deriving DecidableEq, Repr

/-- An entry of the counter journal (10 R301): counter, mark, CMAC. -/
structure JournalEntry where
  n : Nat
  value : Word
  mac : List Byte
  deriving DecidableEq, Repr

/-- What outlives a reset and loss of power: OTP, data flash, code flash. -/
structure Nv where
  otp : Mem
  lifecycle : Nat
  returnEpoch : Nat
  /-- wrapped slot records (10 R286): slot and record bytes. -/
  slots : List (Nat × List Byte)
  /-- generation of every slot ever written (10 R285). -/
  generations : Cells
  intent : Option Nat
  /-- of an intent for PROVISIONED: the certificate and image key of the record that it carries out (10 R306). -/
  intentCert : List Byte
  intentKey : List Byte
  /-- the journal of the monotonic counters, the newest entry of each (10 R301). -/
  mctr : List JournalEntry
  keyTab : List KeyNv
  /-- words 0, 1, 3 and 7 of each pinned roster entry, by handle (05 R162). -/
  pinned : List (Nat × Word × Word × Word × Word)
  log : List LogEntry
  logCount : Word
  wdResets : Word
  areaA : Area
  areaB : Area
  boot0 : BootRec
  boot1 : BootRec
  bankA : Bank
  bankB : Bank
  updStage : Nat
  /-- an accepted chain offer stands, whose stream goes on after a reset (15 R431, R436). -/
  chainOpen : Bool := false
  /-- the image in hand comes from a chain (15 R438). -/
  chainTarget : Bool := false
  /-- bitmap of pieces written in the inactive bank (15 R423). -/
  bitmap : List Nat
  lastRevert : Nat
  failedImageLo : Word
  /-- the record of a failed migration, ST_MIGRATION_FAILED: UPD_REVERTED is still to be posted once booted (15 R434). -/
  revertDue : Bool
  pair : Option PairRec
  /-- slots received from the twin by mirroring (14 R390, R391). -/
  received : List Nat
  lastActive : Bool
  elapsedS : Nat
  opS : Nat
  patrolLastS : Nat
  patrolLastOpS : Nat
  patrolPos : Word
  patrolRuns : Word
  refreshedTotal : Word
  sectorsRefreshed : Word
  spareLeft : Nat
  refreshBuffer : Bool
  deriving DecidableEq, Repr

/-- A ring (11 R320, R326). -/
structure Ring where
  base : Nat
  size : Nat
  tail : Nat
  take : Nat
  free : Nat
  stalled : Bool
  deriving DecidableEq, Repr

/-- What a held descriptor waits for. -/
inductive HeldKind where
  | post (mode : Nat)
  /-- LOCK_REQUEST: output, and what was observed during the wait (07 R233): relay, auth failure, condition. -/
  | lockRequest (out : Nat) (seen : BitVec 3)
  | svcDemand (svc slot : Nat)
  | authKey (slot : Nat)
  | zoneFix (slot : Nat)
  | capture (line quantity count : Nat)
  | enrol (slot : Nat) (rights : BitVec 5) (uid : Dword)
  | job (id : Nat)
  | maint (activity : Nat)
  | pairing
  | sleepEntry
  | busSend
  | radioCal
  | radioCw
  | xpm
  | counter
  | mirror (seq : Nat)
  | resyncPassed
  | updAbort
  /-- DIAG_SELFTEST waiting for what its tests need: what the silicon would fail (16 R444). -/
  | selftest (fails : BitVec 12)
  /-- KEY_DESTROY or a rewrite waiting for the jobs that hold a slot's key (10 R287). -/
  | destroy (slot : Nat)
  | plain
  deriving DecidableEq, Repr

/-- A descriptor the device holds, with its token and the tokens of its buffers (11 R328 to R331). -/
structure Held where
  ring : Nat
  idx : Nat
  seq : Nat
  irq : Bool
  opcode : Nat
  argc : Nat
  a0 : Word
  a1 : Word
  a2 : Word
  buf : Nat
  len : Nat
  /-- buffers named, as byte offset and length. -/
  areas : List (Nat × Nat)
  kind : HeldKind
  /-- bytes written to a posted buffer so far (R334). -/
  written : Nat
  /-- clock of the take. -/
  taken : Nat
  deriving DecidableEq, Repr

/-- An event on its way to RING3 (11 R334, 12 R357). -/
structure Event where
  code : Nat
  payload : List Byte
  timeUs : Nat
  deriving DecidableEq, Repr

/-- The host port (11). -/
structure Port where
  rings : List Ring
  lastRing : Nat
  held : List Held
  ringDone : Dword
  ringDoneEn : Dword
  irqEnable : Byte
  hirqCtrl : BitVec 2
  spiErr : BitVec 4
  tokenViol : Bool
  asleepAccess : Bool
  violAddr : Nat
  violWrite : Bool
  violCount : Nat
  tokenProbe : Nat
  ringErr : Half
  evtLost : Nat
  evtQ : List Event
  /-- output areas that hold unverified plaintext (10 R295). -/
  quarantine : List (Nat × Nat)
  /-- words MISO carried in the last access, HOST_STATUS first (R310). -/
  spiOut : List Half
  deriving DecidableEq, Repr

/-- An angle source (02 R37 to R52, R484). Positions are in 1/65,536 count, so that the accumulator of R10 is
`pos / 65536` modulo 2^32. -/
structure AngleSrc where
  kind : Nat
  en : Bool
  ttEn : Bool
  wakeEn : Bool
  dirInv : Bool
  syncIe : Bool
  pos : Int
  /-- ANGLE4: what is left of a 1/65,536 count, in 1/1,953,125 of it (R40, R47). -/
  frac : Nat
  /-- ANGLE4: thousandths of a turn per second in force (R47). -/
  rate : Nat
  synced : Bool
  stalled : Bool
  reverse : Bool
  syncGain : Bool
  syncLost : Bool
  syncJump : Bool
  glitch : Bool
  /-- dated instant of the last counted edge, once there is one. -/
  lastEdge : Option Nat
  /-- T of R39 in clocks, 0 while none is known. -/
  interval : Nat
  /-- A of R39 for that interval, as a part of a turn. -/
  arcNum : Nat
  arcDen : Nat
  /-- clock from which its edges are waited for: when it was enabled, or when STABLED ended (R44). -/
  startClk : Nat
  /-- counted edges since the index angle, fewer than none where the source has turned back past it, and the position of that angle. -/
  edgeIdx : Int
  indexPos : Int
  /-- position at the last counted edge. -/
  edgePos : Int
  /-- counted edges since the last gap found (R42). -/
  sinceGap : Option Nat
  /-- an index edge awaits the counted edge after it (R42, missing_teeth 0). -/
  indexPending : Bool
  /-- highest position reached before a reversal (R45). -/
  highMark : Int
  ierr : Int
  /-- dated instants of the edges seen in a sleep state (13 R366). -/
  wakeEdges : List Nat
  /-- the last edge seen in a sleep state, of either polarity (13 R366). -/
  sleepEdge : Option Nat
  deriving DecidableEq, Repr

/-- A TMR channel (02 R63 to R71). `ctrl` holds bits 11:0 of TMRn_CTRL; `rem` the clocks towards the next
tick of a divided clock. -/
structure Tmr where
  ctrl : BitVec 12
  cnt : Word
  cc : Word
  hit : Bool
  ovf : Bool
  cap : Bool
  capLost : Bool
  rem : Nat
  /-- clr has been written: the counter goes to 0 on the next clock (R64). -/
  clrDue : Bool
  /-- clock of the last triggered capture (model's own: one trigger captures once). -/
  trigClk : Option Nat
  deriving DecidableEq, Repr

/-- Angle timebase and timers (02). -/
structure TimeBase where
  src : List AngleSrc
  tmr : List Tmr
  ttIe : Bool
  ttLate : BitVec 5
  ttSkip : BitVec 5
  deriving DecidableEq, Repr

/-- A demand pending on a service (07 R221, 12 R348): for a key slot (255 none), or for the UID of an
enrolment (07 R208). -/
structure Demand where
  slot : Nat
  uid : Option Dword
  /-- raised by the device itself (13 R362). -/
  own : Bool
  clk : Nat
  deriving DecidableEq, Repr

/-- A walk node (04 R145): prefix length, prefix, and whether it has been repeated. -/
structure Node where
  p : Nat
  pre : List Bool
  repeated : Bool
  deriving DecidableEq, Repr

/-- The node a walk begins with. -/
def Node.root : Node := { p := 0, pre := [], repeated := false }

/-- A sweep in progress (05 R168): the nodes not yet walked, nodes abandoned, its number. -/
structure Sweep where
  stack : List Node
  abandoned : Nat
  number : Word
  deriving DecidableEq, Repr

/-- What the device keeps of a service (12 R359). -/
structure Svc where
  n : Nat
  defined : Bool
  deferrals : Nat
  drops : Nat
  deferred : Bool
  started : Bool
  crossings : Nat
  demands : List Demand
  sweep : Option Sweep
  /-- roster handle of the entry HITCHED to this service (06 R202). -/
  hitched : Option Nat
  fails : Nat
  /-- status the tag gave in the last operation that ended in ST_ILK_TAG_STATUS (04 R153; no result format has a field for it). -/
  tagStatus : Nat
  /-- position in counts on the service's source up to which its entries have been taken as crossed (model's own; 02 R59). -/
  crossed : Int
  /-- the next block of this IMMO_AUTH selects by walk (04 R155). -/
  byWalk : Bool
  /-- chain transfer open on the hitched implement: next stream offset and bus address of the target (15 R436, R437). -/
  chain : Option (Nat × Nat)
  deriving DecidableEq, Repr

/-- What the scheduler has decided of a candidate (02 R58, 13 R375). -/
inductive Decision where
  | waiting | admitted | refused
  deriving DecidableEq, Repr

/-- A candidate block (02 R58). `svc` 256 is the calibration sweep (16 R454). -/
structure Cand where
  svc : Nat
  opp : Nat
  route : Nat
  lines : BitVec 24
  span : Nat
  priceUw : Nat
  priority : Nat
  decision : Decision
  final : Bool
  /-- displaced after admission: it left the ledger and is deferred at its crossing (01 R27). -/
  displaced : Bool
  /-- source of the entry, position in counts at which the entry is crossed, and predicted clock of that (R58, R59). -/
  src : Nat
  target : Int
  crossing : Nat
  engine : Bool
  slot : Nat
  uid : Option Dword
  /-- challenge chosen at submission (04 R148, 07 R220). -/
  rb : Word
  deriving DecidableEq, Repr

/-- A command of the base station on the air (04 R135). -/
inductive AirCmd where
  | invWalk (mask : BitVec 4) (slow : Bool) (p : Nat) (pre : List Bool)
  | invAssign (direct slow : Bool) (uid : Dword) (handle : Nat)
  | read (handle addr count : Nat) (slow : Bool)
  | measure (handle : Nat) (chmask count : Nat) (slow : Bool)
  | auth1 (handle : Nat) (rb : Word) (slow : Bool)
  | auth1u (uid : Dword) (rb : Word)
  | auth2 (confirm : Bool) (bp : Word) (slow : Bool)
  | hStatus (handle : Nat) (slow : Bool)
  | hChain (handle op : Nat) (payload : List Byte) (mac : Word) (slow : Bool)
  deriving DecidableEq, Repr

/-- A running block (01 R26 to R28) and its exchange so far (04). -/
structure Block where
  svc : Nat
  type : Nat
  route : Nat
  lines : BitVec 24
  /-- members driven: tx_amp above 0 at the start, faulted ones left out (03 R83, R95). -/
  driven : BitVec 24
  /-- members driven at the start, which ZONE_TRACK gives a burst each (08 R237). -/
  bursts : BitVec 24
  /-- members whose burst has been quenched, and the flags of R93 judged. -/
  quenched : BitVec 24
  span : Nat
  div : Nat
  priceUw : Nat
  engine : Bool
  startClk : Nat
  startAngle : Nat
  startRevs : Nat
  slot : Nat
  uid : Option Dword
  /-- cyc used from the block's start to the end of the last command or window. -/
  used : Nat
  /-- downlink frames sent, newest first: cyc of the first cycle of the lead, and bits (04 R110, R115). -/
  frames : List (Nat × List Bool)
  cmd : Option AirCmd
  attempt : Nat
  step : Nat
  finished : Bool
  stack : List Node
  /-- the node in hand has been repeated. -/
  repeated : Bool
  abandoned : Nat
  /-- number of the sweep this block is of, and the nodes its earlier blocks abandoned (05 R168, R169). -/
  sweepNo : Word
  sweepLost : Nat
  toAssign : List Dword
  /-- tags found: UID, session handle, descriptor. -/
  found : List (Dword × Nat × Word)
  /-- gap words of a sweep's failed assignments, each with the number of tags found before it (05 R175). -/
  gaps : List (Nat × Word)
  /-- status of the last assignment of the walk that failed (04 R155). -/
  walkStatus : Nat
  rb : Word
  /-- challenges sent in this block (04 R148). -/
  rbs : List Word
  rt : Word
  kt : List Byte
  ks : List Byte
  ctr : Nat
  authOk : Bool
  status : Nat
  /-- status of the tag where an operation ended in ST_ILK_TAG_STATUS (04 R153). -/
  tagStatus : Nat
  readOk : Bool
  data : List Word
  samples : List Nat
  island : Word
  islandOk : Bool
  chainOk : Bool
  /-- the OFFER was accepted (15 R436). -/
  accepted : Bool
  /-- chain transfer of this block: next stream offset, and the target's bus address (254 none). -/
  chainNext : Nat
  chainAddr : Nat
  /-- any operation of the block failed (05 R157). -/
  failed : Bool
  /-- result words formed so far (05 R175). -/
  recs : List Word
  faulted : Bool
  /-- BLOCK_END has come, with what it measured, while a block of lower instance ends in the same cycle (05 R161). -/
  ended : Option BlockMeas
  /-- a parameter snapshot: the geometry in force at the start (08 R249, R258). -/
  geom : Cells
  deriving DecidableEq, Repr

/-- Results of a block that come in after its end: the fix records of ZONE_TRACK, the answers to a KEY_POLL. They go out together, to the ring
that its service had (11 R334, 12 R348). -/
structure BlockRes where
  svc : Nat
  startClk : Nat
  ring : Nat
  words : List Word
  deriving DecidableEq, Repr

/-- Services, candidates, running blocks, session handles (01, 02, 04 R144, R155). -/
structure Sched where
  svcs : List Svc
  cands : List Cand
  blocks : List Block
  results : List BlockRes
  handleCtr : Nat
  barred : List Nat
  /-- UIDs with a clean IMMO_AUTH of the last 10 s, and its clock (07 R208). -/
  proofs : List (Dword × Nat)
  deriving DecidableEq, Repr

/-- A line (03 R74, R95, R96, R99). -/
structure Line where
  fault : Nat
  flags : BitVec 5
  phasorI : Word
  phasorV : Word
  calSteps : Word
  lastStep : Option Nat
  deriving DecidableEq, Repr

/-- A roster entry (05 R157); status as R158. -/
structure Entry where
  handle : Nat
  uid : Dword
  desc : Word
  status : Nat
  pinned : Bool
  route : Nat
  chanPresent : Byte
  chanSigned : Byte
  miss : Nat
  seenSweep : Half
  seenRevs : Half
  lastData : Word
  readsOk : Nat
  readsBad : Nat
  owner : Word
  deriving DecidableEq, Repr

/-- The roster (05 R156, R178): entries that are not FREE, by rising handle. -/
structure Roster where
  entries : List Entry
  sweeps : Word
  fullEvents : Word
  deriving DecidableEq, Repr

/-- Tag states (04 R132). -/
inductive TagState where
  | off | ready | inventoried | authWait | authenticated | quiet
  deriving DecidableEq, Repr

/-- A shadow slot of the island (06 R189). -/
structure Shadow where
  blk : Nat
  data : Word
  seq : Nat
  deriving DecidableEq, Repr

/-- A block of a host write that waits (06 R196, R197), with the place and sequence number of its command; ring 64 is the device's own
writing of blocks 8 to 10 (R187). -/
structure StagedBlk where
  blk : Nat
  data : Word
  seq : Nat
  ring : Nat
  idx : Nat
  deriving DecidableEq, Repr

/-- The hitch island (06; tag states of 04). -/
structure Island where
  mem : Cells
  keyCell : List Byte
  /-- an enrolment that waits for the session to close (10 R291): usage, owner and key of slot 5. -/
  enrolWait : Option (Nat × Nat × List Byte)
  /-- the island runs, on either source (R180). -/
  powered : Bool
  field : Bool
  reservoirMv : Nat
  fieldLevel : Nat
  shadow : List Shadow
  shadowSeq : Nat
  /-- the commit flag of R189, naming the shadow entry to copy. -/
  flag : Option Shadow
  /-- a roll forward runs; frames are ignored until it completes (R191). -/
  rolling : Bool
  tag : TagState
  /-- state and handle before AUTH_1 or AUTH_1U (04 R133). -/
  prevTag : TagState
  prevHandle : Nat
  handle : Nat
  slow : Bool
  hasRate : Bool
  mark : Bool
  rb : Word
  rt : Word
  ks : List Byte
  ctr : Nat
  /-- last secure frame accepted and the reply it got (04 R150). -/
  lastFrame : List Bool
  lastReply : List Bool
  rejects : Nat
  /-- the lead of a frame has been accepted since the island left OFF. -/
  session : Bool
  wrote : Bool
  reachedAuth : Bool
  coupled : Bool
  /-- the last reply, preamble and CRC included, and its rate; empty when none was sent (04 R116 to R118). -/
  reply : List Bool
  replySlow : Bool
  /-- sessions that closed while the device could not post their HITCH_SESSION: field level, and whether a block was written (R203). -/
  sessionsDue : List (Nat × Bool)
  staged : List StagedBlk
  applying : Bool
  /-- blocks of host writes taken with no session open, not yet past step 2 (R196). -/
  writing : List StagedBlk
  authFrom : Nat
  sessions : Word
  torn : Word
  refused : Word
  deriving DecidableEq, Repr

/-- A fix (07 R215, 08 R249 to R254). -/
structure Fix where
  clk : Nat
  zone : Nat
  verdict : Nat
  reused : Bool
  /-- the fix record of R254. -/
  words : List Word
  deriving DecidableEq, Repr

/-- The last measured range of a key (08 R248, R252). -/
structure RangeHist where
  clk : Nat
  rCm : Nat
  far : Bool
  resid10 : Nat
  verdict : Nat
  deriving DecidableEq, Repr

/-- What the device keeps of a key slot in SRAM (07 R207, R210 to R222). -/
structure Key where
  status : Nat
  fix : Option Fix
  /-- zone of the latest fix (R207 item 7). -/
  zone : Nat
  position : Option (Int × Int × Int)
  authClk : Option Nat
  heardClk : Option Nat
  ctrLast : Word
  refused : Word
  relayRun : Nat
  entryPosted : Bool
  resyncClk : Option Nat
  ahead : Option Word
  dlCtr : Word
  port : Nat
  range : Option RangeHist
  exch : Option (Nat × List Tone)
  deriving DecidableEq, Repr

/-- Items of lock[n] in force for a decision (07 R227). -/
structure LockItems where
  zones : BitVec 3
  needRequest : Bool
  hold : Bool
  confirmMs : Nat
  authAgeMs : Nat
  needIlk0 : Bool
  speedSrc : Nat
  speedMax : Nat
  requestMs : Nat
  deriving DecidableEq, Repr

/-- An interlock output (07 R227 to R231). State: 0 LOCKED, 1 NOTIFY, 2 CHARGING, 3 RELEASED, 4 FAULT. -/
structure Lock where
  state : Nat
  holder : Nat
  fault : Nat
  releases : Word
  items : LockItems
  notifyClk : Nat
  /-- first period of the pulse train in progress. -/
  pulseClk : Option Nat
  /-- end of the period in which a pulse train stops (07 R223). -/
  stopClk : Nat
  /-- slot whose qualifying fix led to the decision. -/
  chosen : Nat
  deriving DecidableEq, Repr

/-- A radio sequence of R239 waiting for, or in, the radio. -/
structure ZtSeq where
  id : Nat
  svc : Nat
  slot : Nat
  lines : List Nat
  endClk : Nat
  geom : Cells
  startClk : Nat
  /-- start angle and revolution half of the block (12 R348). -/
  angle : Nat
  revs : Nat
  /-- clocks per cyc on the block's route. -/
  div : Nat
  route : Nat
  polled : Bool
  seed : Word
  /-- axes reported per burst, once ZT_REPORT is in. -/
  bursts : List (Nat × Nat × Nat)
  tauKeyPs : Nat
  reported : Bool
  port : Nat
  status : Nat
  deriving DecidableEq, Repr

/-- Proximity engine (08). -/
structure Prox where
  seqs : List ZtSeq
  /-- number of the next sequence. -/
  nextSeq : Nat
  devDelayPs : Nat
  /-- own transmissions in band 1: clock of the end and µs (R256). -/
  duty : List (Nat × Nat)
  fixes : Word
  relayVerdicts : Word
  deriving DecidableEq, Repr

/-- A transmit request (09 R266). Kind: 0 ZT_POLL, 1 RANGE, 2 FOB_ACK, 3 RESYNC, 4 RADIO_CW. -/
structure TxReq where
  kind : Nat
  slot : Nat
  /-- sequence it belongs to (ZT_POLL and RANGE). -/
  seq : Nat
  arg : Word
  deadline : Nat
  taken : Nat
  /-- frequency and power asked for: of RANGE the first tone, of RADIO_CW its arguments. -/
  khz : Nat
  dbm : Int
  deriving DecidableEq, Repr

/-- A packet of the device's on the air (09 R272 to R274): port, power, frequency, preamble bits, sync word, type byte, clear fields,
payload, MIC. -/
structure AirPacket where
  port : Nat
  dbm : Int
  khz : Nat
  preamble : Nat
  sync : Half
  type : Byte
  clear : List Byte
  payload : List Byte
  mic : List Byte
  deriving DecidableEq, Repr

/-- A KEY_POLL listen window (09 R278): the block it is of, and its start and end. -/
structure Listen where
  svc : Nat
  startClk : Nat
  opens : Nat
  closes : Nat
  /-- the window has begun, and the items of class 15 were taken for it (R280). -/
  began : Bool
  deriving DecidableEq, Repr

/-- Radio (09). State: 0 SLEEP, 1 IDLE, 2 SYNTH, 3 RX, 4 TX, 5 RANGE. -/
structure Radio where
  on : Bool
  state : Nat
  locked : Bool
  /-- clock of the last declaration of lock (R266). -/
  lockClk : Nat
  /-- channel the synthesiser stands on, in kHz (R264). -/
  chan : Nat
  /-- port and output power of the transmitter (R260, R273). -/
  port : Nat
  dbm : Int
  /-- the items of class 15 in force for the operation (R280). -/
  conf : Cells
  /-- requests not yet taken by the radio. -/
  wants : List TxReq
  /-- requests taken, the first being the operation in hand. -/
  queue : List TxReq
  coexReq : Bool
  coexPrio : Bool
  coexReqClk : Nat
  /-- the operation in hand found COEX_REQ high, so that its lead counts as passed (R268). -/
  leadPassed : Bool
  grant : Bool
  paOn : Bool
  /-- clock at which the transmission on the air began. -/
  airClk : Nat
  /-- KEY_POLL listen windows not yet closed, in the order their blocks started (R278). -/
  listen : List Listen
  preamble : Bool
  lastPort : Nat
  calItem : Nat
  calSlice : Nat
  calRunning : Bool
  /-- a background round asked for at once (RADIO_CAL): items left. -/
  calRound : Nat
  /-- clock at which the last background item started, and the sensors at the last complete round (R270). -/
  bgClk : Nat
  bgTemp : List Int
  /-- tone slots silent for want of lock, the slot in which lock was lost, and µs of tones it cut short (R265). -/
  silent : List Nat
  lostSlot : Option Nat
  cutUs : Nat
  cwEnd : Option Nat
  fgCals : Word
  bgCals : Word
  txLate : Word
  coexDenied : Word
  unlocks : Word
  rxPackets : Word
  rxBadMic : Word
  /-- packets sent, newest first. -/
  sent : List AirPacket
  deriving DecidableEq, Repr

/-- A job of an engine (10 R292 to R299). -/
structure Job where
  id : Nat
  pk : Bool
  running : Bool
  parts : Nat
  slot : Nat
  /-- descriptor the job serves; ring 255 for a verification of the device's own (15 R438). -/
  ring : Nat
  idx : Nat
  key : List Byte
  opcode : Nat
  /-- parts that have ended. -/
  past : Nat
  /-- nonce of KEY_CCM_ENC, made as the job starts (10 R300). -/
  nonce : List Byte
  /-- serial of the context saved between two parts, and the context, wrapped (10 R293, R296, R298). -/
  serial : Option Nat
  ctx : List Byte
  /-- piece of a chain transfer that the job decrypts: index, and the bytes as they came (15 R436). -/
  unit : Option (Nat × List Byte)
  deriving DecidableEq, Repr

/-- Data flash work that something waits for (10 R301, 07 R211, 09 R275). -/
inductive FlashWork where
  /-- a mark for a fob counter; the message's type code (0 for an ahead counter), data and end, and the blocks in whose listen windows it was
  heard (service and start). -/
  | fobMark (slot : Nat) (ctr : Word) (type : Nat) (data : List Byte) (ended : Nat) (heard : List (Nat × Nat))
  | dlMark (slot : Nat)
  | counter (n : Nat) (value : Word) (ring idx : Nat)
  | patrol
  deriving DecidableEq, Repr

/-- Secure store and engines (10). -/
structure Sec where
  jobs : List Job
  nextJob : Nat
  flash : List FlashWork
  /-- work that waits for the twin's acknowledgement of a mark: mirror sequence and work (14 R396). -/
  awaiting : List (Nat × FlashWork)
  bootCount : Word
  nonceCtr : Nat
  /-- live values of the monotonic counters (R301). -/
  live : Cells
  ek : List Byte
  xport : Option Nat
  saveSerial : Nat
  /-- save serials of CCM contexts not yet restored (R298). -/
  ccmSaved : List Nat
  /-- mirrored slots whose rewrite waits for the jobs that hold the slot's key (R287): slot and record as the twin wrapped it. -/
  slotWrites : List (Nat × List Byte) := []
  engineJobs : Word
  ctxRefused : Word
  zeroised : Word
  retired : Word
  trngFailed : Bool
  deriving DecidableEq, Repr

/-- Power, wake and heat (13; 11 R324). -/
structure Pwr where
  lastWake : Nat
  replayed : Bool
  wakeEn : BitVec 5
  wakeSrc : BitVec 5
  wakeTmr : Word
  heatDefer : Nat
  brownout : Bool
  vbatHigh : Bool
  sleepAborted : Bool
  /-- P_filt in 1/2^32 µW (13 R373). -/
  pFilt : Nat
  pNowUw : Nat
  /-- Ta_est in units of 0.1 µ°C (θ in 0.1 K/W times µW is 0.1 µ°C). -/
  taEst : Int
  hot : Bool
  tPeak : Int
  deferHeat : Word
  deferVbat : Word
  sleepEntries : Word
  sleepAborts : Word
  wakeReplays : Word
  lastRefuser : Word
  /-- clocks spent in STABLED since reset. -/
  stabledClk : Nat
  wakeUs : Word
  sensorOk : Byte
  ledgerClk : Nat
  /-- items 0 to 5 of the class as the ledger works with them: a write takes effect at the next ledger step (R381). -/
  conf : List Nat
  /-- items 6 to 9 as the last PWR_SLEEP took them (R381). -/
  sleepConf : List Nat
  /-- a ledger step has read the sensors and the supply since reset (11 R324, R381). -/
  stepped : Bool
  /-- state asked for by PWR_SLEEP (2 STABLED, 1 HALT). -/
  target : Nat
  latched : BitVec 5
  asleepClk : Nat
  wakeStep : Nat
  /-- clock at which the wake order began. -/
  wokeClk : Nat
  prepareClk : Nat
  /-- clock at which the last sleep entry aborted (R372). -/
  abortClk : Option Nat
  preambleSeen : Bool
  busFrameSeen : Bool
  noticeSeen : Bool
  deriving DecidableEq, Repr

/-- What is sent over the twin link (14 R388, R395). -/
inductive TwinMsg where
  | hello (nonce echo : List Byte) (role lastRole : Nat)
  | heartbeat
  | mirror (seq : Nat) (recs : List MirrorRec)
  | mirrorAck (seq : Nat)
  | notify (out : Nat)
  | notifyAck (out : Nat)
  | drop (out : Nat)
  | noticeTable (outs : BitVec 4)
  | sleep (target : Nat)
  | sleepAck (target : Nat)
  | failed (code arg : Half)
  | resetReq
  | unpair
  | forceLock (out : Nat)
  | resync
  | pairHello (msg : List Byte)
  | pairKey (msg : List Byte)
  | pairConfirm (mac : List Byte)
  | pairDone
  deriving DecidableEq, Repr

/-- A frame sent (14 R387): purpose byte, boot count and per-boot counter of its nonce, 0 for the pairing messages, which travel in clear, and the
session nonce whose key protects it. -/
structure TwinFrame where
  purpose : Nat
  boot : Nat
  ctr : Nat
  nonce : List Byte
  msg : TwinMsg
  deriving DecidableEq, Repr

/-- A result withheld until the twin acknowledges a mirrored change (14 R396). -/
structure Withheld where
  seq : Nat
  ring : Nat
  idx : Nat
  status : Nat
  w4 : Word
  w5 : Word
  w6 : Word
  rlen : Nat
  deriving DecidableEq, Repr

/-- Twin supervisor (14). Role: 0 unpaired, 1 ACTIVE, 2 SIDING. -/
structure Twin where
  role : Nat
  deciding : Bool
  linkUp : Bool
  mirrored : Bool
  twinFailed : Bool
  flags : BitVec 4
  linkErr : Nat
  takeovers : Nat
  hbSeen : Bool
  hbClk : Nat
  /-- role and stored last role in the twin's last HELLO (R388, R392). -/
  peerRole : Nat
  peerLast : Nat
  frameClk : Nat
  myNonce : List Byte
  peerNonce : List Byte
  /-- the peer's HELLO echoed our nonce. -/
  echoed : Bool
  rxBoot : Nat
  rxCtr : Nat
  rxAny : Bool
  mirrorSeq : Nat
  ackedSeq : Nat
  appliedSeq : Nat
  /-- changes sent or to be sent and not yet acknowledged. -/
  backlog : List (Nat × List MirrorRec)
  overflowed : Bool
  resyncDue : Bool
  withheld : List Withheld
  /-- notices of the twin that stand (14 R398). -/
  notices : BitVec 4
  dropClk : List (Nat × Nat)
  tableSeen : Bool
  /-- a SLEEP notice of the twin stands. -/
  sleepStands : Bool
  sleepAcked : Bool
  sleepSentClk : Option Nat
  pairing : Option Nat
  pairStep : Nat
  pairClk : Nat
  peerUid : Dword
  /-- DEV_ID public key that the twin's certificate gives (R390). -/
  peerKey : List Byte
  peerChallenge : List Byte
  /-- pairing messages of steps 1 and 3, this device's and the twin's (R390 step 5). -/
  said : List (List Byte)
  heard : List (List Byte)
  challenge : List Byte
  ephemeral : Nat
  takeoverCause : Option Nat
  takeoverClk : Nat
  takeoverUs : Nat
  framesBad : Word
  forceLocks : Word
  resyncs : Word
  resyncSeq : Option Nat
  hbTimerClk : Nat
  /-- MIRROR frames sent within the last second: clock and sequence number (14 R403 item 9). -/
  mirrorSent : List (Nat × Nat)
  /-- clock at which a paired device came out of boot and began to decide its role (14 R392). -/
  decideClk : Nat
  /-- as SIDING: the next MIRROR frame opens the sequence of this session, whatever its number (R396; model's own). -/
  mirrorOpen : Bool
  /-- a PAIR_HELLO heard before this device was asked to pair, and when (R389; model's own). -/
  early : Option (Nat × PairHelloMsg)
  /-- the twin has asked for a resynchronisation (R397). -/
  askedResync : Bool
  /-- the last MIRROR sent: a later change in the backlog waits for an engine or a resynchronisation (10 R293; model's own). -/
  sentSeq : Nat
  /-- from when the echoes may be static low in a takeover (R401; model's own). -/
  echoClk : Nat
  /-- frames sent, newest first. -/
  out : List TwinFrame
  deriving DecidableEq, Repr

/-- A frame waiting to be sent on the bus, with the descriptor it completes (14 R409). -/
structure BusTx where
  frame : CanFrame
  ref : Option (Nat × Nat)
  last : Bool
  deriving DecidableEq, Repr

/-- A transport session (14 R405, R406). Stage: 0 waiting for CTS, 1 sending, 2 waiting for the end
acknowledgement, 3 receiving, 4 BAM sending, 5 waiting its turn. -/
structure BusSess where
  id : Nat
  send : Bool
  ext : Bool
  bam : Bool
  peer : Nat
  pgn : Nat
  prio : Nat
  total : Nat
  data : List Byte
  next : Nat
  /-- receiving: last packet asked for, and packets before the data frames in hand (ETP's offset). -/
  grant : Nat
  base : Nat
  /-- most packets the sender gives at a time. -/
  most : Nat
  stage : Nat
  ref : Option (Nat × Nat)
  deadline : Nat
  deriving DecidableEq, Repr

/-- Vehicle bus (14 R404 to R414). -/
structure Bus where
  sessionName : Option Dword
  addr : Nat
  /-- address of the ACTIVE as mirrored; 254 none (14 R395, R401). -/
  twinAddr : Nat
  state : Nat
  claimClk : Option Nat
  seen : List Nat
  off : Bool
  txErr : Nat
  rxErr : Nat
  busoffCount : Word
  rxFrames : Word
  txFrames : Word
  tpAborts : Word
  rxDropped : Word
  tx : List BusTx
  sess : List BusSess
  nextSess : Nat
  deriving DecidableEq, Repr

/-- Update (15), the part that is not in flash. -/
structure Upd where
  bank : Bool
  trialNow : Nat
  unconfirmed : Bool
  reverts : Word
  piecesBad : Word
  chainRole : Nat
  chainBytes : Word
  /-- the chain stream gathered for the blob or the piece in progress (R436). -/
  gather : List Byte
  gatherAt : Nat
  offerClk : Nat
  confirmClk : Nat
  deriving DecidableEq, Repr

/-- Maintenance (16 R451 to R457, 12 R354). -/
structure Maint where
  running : Nat
  /-- a request waiting for the token: activity and, for the sweep, its mask. -/
  queue : List (Nat × BitVec 24)
  sweepLeft : List Nat
  calibrated : BitVec 24
  skipped : BitVec 24
  patrolDue : Nat
  pagesChecked : Word
  pagesRefreshed : Word
  calRuns : Word
  calLast : Word
  calFail : Word
  compactRuns : Word
  lastActivity : Nat
  lastStatus : Nat
  cancelled : Word
  deviceStarted : Word
  checkS : Nat
  saveS : Nat
  deriving DecidableEq, Repr

/-- The machine. -/
structure State where
  /-- commands waiting, first in first out (model's own). -/
  pending : List Instr
  /-- 32 MHz clocks since VBAT came on (model's own time base). -/
  clk : Nat
  /-- argument of the next free value of Config (model's own). -/
  free : Nat
  /-- flags and counts set in the present clock since the last host access: register address and bits, or 1 for a count (01 R16;
  model's own). -/
  fresh : List (Nat × Nat)
  dev : Dev
  nv : Nv
  port : Port
  win : Mem
  /-- read-write parameters that differ from their table reset value (12 R342, R358). -/
  par : Cells
  /-- host writes staged for a line or a route (03 R76, R84). -/
  staged : Cells
  tb : TimeBase
  sched : Sched
  lines : List Line
  roster : Roster
  isl : Island
  keys : List Key
  locks : List Lock
  /-- ILK_EVENTS (11 R325). -/
  ilkEvents : BitVec 12
  prox : Prox
  radio : Radio
  sec : Sec
  pwr : Pwr
  twin : Twin
  bus : Bus
  upd : Upd
  mnt : Maint
  deriving DecidableEq, Repr

/-- Reasons the machine stops: none. What the spec calls a device fault makes the device FAILED (16 R445), which is
state and no stop, and every command has an effect in every mode. -/
inductive Fault where
  deriving DecidableEq, Repr

/-- Reasons a command has no meaning. -/
inductive Refusal where
  /-- The command's arm is not written. Safe. -/
  | notModelled (mnemonic : String)
  deriving DecidableEq, Repr

/-- Items of an output at reset: instance `n` of the table of 07 R227. -/
def LockItems.reset (n : Nat) : LockItems where
  zones := if n = 1 then 4#3 else 1#3
  needRequest := n ≠ 1
  hold := n = 1 || n = 2
  confirmMs := if n = 0 then 0 else if n = 1 then 250 else 1000
  authAgeMs := 2000
  needIlk0 := n = 2
  speedSrc := 7
  speedMax := 0
  requestMs := 3000

/-- An output after reset: LOCKED, holder 255 (07 R227). -/
def Lock.reset (n : Nat) : Lock :=
  { state := 0, holder := 255, fault := 0, releases := 0, items := LockItems.reset n, notifyClk := 0,
    pulseClk := none, stopClk := 0, chosen := 255 }

/-- A ring after reset (11 R326): rings 0 to 3 have 64 descriptors from 0x0800 × n, the rest none. -/
def Ring.reset (n : Nat) : Ring :=
  { base := if n < 4 then 2048 * n else 0, size := if n < 4 then 64 else 0, tail := 0, take := 0, free := 0, stalled := false }

/-- An angle source after reset (02 R50 to R52): everything 0 but tt_en. -/
def AngleSrc.reset : AngleSrc :=
  { kind := 0, en := false, ttEn := true, wakeEn := false, dirInv := false, syncIe := false, pos := 0, frac := 0, rate := 0,
    synced := false, stalled := false, reverse := false, syncGain := false, syncLost := false, syncJump := false,
    glitch := false, lastEdge := none, interval := 0, arcNum := 0, arcDen := 1, startClk := 0, edgeIdx := 0, indexPos := 0, edgePos := 0, sinceGap := none,
    indexPending := false, highMark := 0, ierr := 0, wakeEdges := [], sleepEdge := none }

/-- A timer channel after reset (02 R64 to R66). -/
def Tmr.reset : Tmr :=
  { ctrl := 0, cnt := 0, cc := 0, hit := false, ovf := false, cap := false, capLost := false, rem := 0, clrDue := false, trigClk := none }

/-- A line after reset (03 R74): items 13 to 17 are 0; the last step counts as far in the past (R99). -/
def Line.reset : Line :=
  { fault := 0, flags := 0, phasorI := 0, phasorV := 0, calSteps := 0, lastStep := none }

/-- A key slot's SRAM part after reset (07 R207, R216): BARRED survives, ctr_last is the mark (R211). -/
def Key.reset (r : KeyNv) : Key :=
  { status := if r.barred then 3 else 0, fix := none, zone := 0, position := none, authClk := none, heardClk := none,
    ctrLast := r.ctrMark, refused := 0, relayRun := 0, entryPosted := false, resyncClk := none, ahead := none,
    dlCtr := r.dlMark, port := 0, range := none, exch := none }

/-- An EMPTY slot of the key table. -/
def KeyNv.empty : KeyNv := { state := 0, uid := 0, rights := 0, ctrMark := 0, dlMark := 0, barred := false }

def Port.reset : Port :=
  { rings := (List.range 64).map Ring.reset, lastRing := 0, held := [], ringDone := 0, ringDoneEn := 0, irqEnable := 0,
    hirqCtrl := 0, spiErr := 0, tokenViol := false, asleepAccess := false, violAddr := 0, violWrite := false,
    violCount := 0, tokenProbe := 0, ringErr := 0, evtLost := 0, evtQ := [], quarantine := [], spiOut := [] }

def TimeBase.reset : TimeBase :=
  { src := List.replicate 5 AngleSrc.reset, tmr := List.replicate 16 Tmr.reset, ttIe := false, ttLate := 0, ttSkip := 0 }

def Sched.reset : Sched := { svcs := [], cands := [], blocks := [], results := [], handleCtr := 0, barred := [], proofs := [] }

def Roster.reset : Roster := { entries := [], sweeps := 0, fullEvents := 0 }

/-- The island with an empty array and no key, on VBAT (06 R180, R186; 10 R291; assumption log 2). -/
def Island.reset : Island :=
  { mem := [], keyCell := [], enrolWait := none, powered := true, field := false, reservoirMv := 0, fieldLevel := 0,
    shadow := [], shadowSeq := 0, flag := none, rolling := false, tag := .off, prevTag := .off, prevHandle := 0,
    handle := 0, slow := false, hasRate := false, mark := false, rb := 0, rt := 0, ks := [], ctr := 0, lastFrame := [],
    lastReply := [], rejects := 0, session := false, wrote := false, reachedAuth := false, coupled := false, reply := [], replySlow := false, sessionsDue := [],
    staged := [], applying := false, writing := [], authFrom := 64, sessions := 0, torn := 0, refused := 0 }

def Prox.reset : Prox := { seqs := [], nextSeq := 0, devDelayPs := 0, duty := [], fixes := 0, relayVerdicts := 0 }

def Radio.reset : Radio :=
  { on := false, state := 0, locked := false, lockClk := 0, chan := 0, port := 0, dbm := 0, conf := [], wants := [], queue := [],
    coexReq := false, coexPrio := false, coexReqClk := 0, leadPassed := false, grant := false, paOn := false, airClk := 0, listen := [], preamble := false, lastPort := 0, calItem := 0,
    calSlice := 0, calRunning := false, calRound := 0, bgClk := 0, bgTemp := List.replicate 8 50, silent := [], lostSlot := none,
    cutUs := 0, cwEnd := none, fgCals := 0, bgCals := 0, txLate := 0, coexDenied := 0,
    unlocks := 0, rxPackets := 0, rxBadMic := 0, sent := [] }

def Sec.reset : Sec :=
  { jobs := [], nextJob := 0, flash := [], awaiting := [], bootCount := 0, nonceCtr := 0, live := [], ek := [], xport := none, saveSerial := 0,
    ccmSaved := [], engineJobs := 0, ctxRefused := 0, zeroised := 0, retired := 0, trngFailed := false }

/-- Power after reset (11 R324, 13 R381): WAKE_EN is 0b00111. -/
def Pwr.reset : Pwr :=
  { lastWake := 0, replayed := false, wakeEn := 0b00111, wakeSrc := 0, wakeTmr := 0, heatDefer := 0, brownout := false,
    vbatHigh := false, sleepAborted := false, pFilt := 0, pNowUw := 0, taEst := 0, hot := false, tPeak := 0, deferHeat := 0,
    deferVbat := 0, sleepEntries := 0, sleepAborts := 0, wakeReplays := 0, lastRefuser := 0, stabledClk := 0, wakeUs := 0,
    sensorOk := 0, ledgerClk := 0, conf := [150, 110, 9500, 600, 40, 5500], sleepConf := [200, 0, 0, 4], stepped := false, target := 0, latched := 0, asleepClk := 0, wakeStep := 0, wokeClk := 0, prepareClk := 0, abortClk := none,
    preambleSeen := false, busFrameSeen := false, noticeSeen := false }

def Twin.reset : Twin :=
  { role := 0, deciding := false, linkUp := false, mirrored := false, twinFailed := false, flags := 0, linkErr := 0,
    takeovers := 0, hbSeen := false, hbClk := 0, frameClk := 0, myNonce := [], peerNonce := [], echoed := false, rxBoot := 0,
    rxCtr := 0, rxAny := false, mirrorSeq := 0, ackedSeq := 0, appliedSeq := 0, backlog := [], overflowed := false,
    resyncDue := false, withheld := [], notices := 0, dropClk := [], tableSeen := false, sleepStands := false,
    sleepAcked := false, sleepSentClk := none, pairing := none, pairStep := 0, pairClk := 0, peerUid := 0, peerKey := [],
    peerRole := 0, peerLast := 0, peerChallenge := [], said := [], heard := [], challenge := [], ephemeral := 0, takeoverCause := none, takeoverClk := 0,
    takeoverUs := 0, framesBad := 0, forceLocks := 0, resyncs := 0, resyncSeq := none, hbTimerClk := 0, mirrorSent := [], decideClk := 0, mirrorOpen := true, early := none, askedResync := false, sentSeq := 0, echoClk := 0, out := [] }

/-- Bus after reset (14 R414): no address. -/
def Bus.reset : Bus :=
  { sessionName := none, addr := 254, twinAddr := 254, state := 0, claimClk := none, seen := [], off := false, txErr := 0,
    rxErr := 0, busoffCount := 0, rxFrames := 0, txFrames := 0, tpAborts := 0, rxDropped := 0, tx := [], sess := [], nextSess := 0 }

def Upd.reset : Upd :=
  { bank := false, trialNow := 0, unconfirmed := false, reverts := 0, piecesBad := 0, chainRole := 0, chainBytes := 0, gather := [],
    gatherAt := 0, offerClk := 0, confirmClk := 0 }

def Maint.reset : Maint :=
  { running := 0, queue := [], sweepLeft := [], calibrated := 0, skipped := 0, patrolDue := 0,
    pagesChecked := 0, pagesRefreshed := 0, calRuns := 0, calLast := 0, calFail := 0, compactRuns := 0,
    lastActivity := 0, lastStatus := 0, cancelled := 0, deviceStarted := 0, checkS := 0, saveS := 0 }

/-- Non-volatile memory of an unprogrammed device that carries a good image of release 4.1 in bank A
(the spec gives no contents; assumption log 2). -/
def Nv.reset : Nv :=
  { otp := [], lifecycle := 0, returnEpoch := 0, slots := [], generations := [], intent := none, intentCert := [], intentKey := [], mctr := [],
    keyTab := List.replicate 32 KeyNv.empty, pinned := [], log := [], logCount := 0, wdResets := 0,
    areaA := { version := 0, imageId := 0, generation := 0, items := [], unmigrated := false },
    areaB := { version := 0, imageId := 0, generation := 0, items := [], unmigrated := false },
    boot0 := { bank := false, trial := false, count := 0, previous := false, imageId := 0, seq := 1 },
    boot1 := { bank := false, trial := false, count := 0, previous := false, imageId := 0, seq := 0 },
    bankA := { blob := [], pieces := [], good := true }, bankB := { blob := [], pieces := [], good := false },
    updStage := 0, bitmap := [], lastRevert := 0, failedImageLo := 0, revertDue := false, pair := none, received := [], lastActive := false,
    elapsedS := 0, opS := 0, patrolLastS := 0, patrolLastOpS := 0, patrolPos := 0, patrolRuns := 0, refreshedTotal := 0,
    sectorsRefreshed := 0, spareLeft := 64, refreshBuffer := false }

/-- The device level right after a power-on reset: booting, RESET_CAUSE bit 0 (11 R317). -/
def Dev.reset : Dev :=
  { mode := .boot, ready := false, failed := false, faultCode := 0, faultArg := 0, resetCause := 1, bootPhase := 0, scratch := 0,
    bootClk := 0, bootMs := 0, elapsedBase := 0, opBase := 0, bootTests := 0, lastTest := 0, testsRun := 0, nextTest := 0, selftestClk := 0, sramCorrected := 0,
    eccEventClk := none, part := .tapeReel, defects := 0, bootFault := none, vbatMv := 14000, vioMv := 3300, vio33 := true,
    sensors := List.replicate 8 50, echo := 0, kill := false }

/-- The machine right after reset. -/
def State.reset : State :=
  { pending := [], clk := 0, free := 0, fresh := [], dev := Dev.reset, nv := Nv.reset, port := Port.reset, win := [], par := [], staged := [],
    tb := TimeBase.reset, sched := Sched.reset, lines := List.replicate 24 Line.reset, roster := Roster.reset,
    isl := Island.reset, keys := List.replicate 32 (Key.reset KeyNv.empty), locks := (List.range 4).map Lock.reset,
    ilkEvents := 0, prox := Prox.reset, radio := Radio.reset, sec := Sec.reset, pwr := Pwr.reset, twin := Twin.reset,
    bus := Bus.reset, upd := Upd.reset, mnt := Maint.reset }

end Sys2Proof.Machine
end

