-- ==== Sys2Proof/Machine/Params.lean ====
section
/-!
DEFINITION. Sys2Proof/Machine/Params.lean: the parameter classes (12 R358, R359; 02 R48; 03 R74, R81; 05 R178;
06 R205; 07 R207, R227; 08 R258; 09 R280; 10 R307; 13 R381; 14 R403, R414; 15 R441; 16 R456, R457): which IDs exist,
their ranges and their reset values, and the live value of a read-write item.
-/
namespace Sys2Proof.Machine

/-- What the tables say of an ID. `fixed`: a write is refused and the value is the one given (07 R227). -/
inductive ParamKind where
  | unassigned
  | readOnly
  | clear
  | fixed (v : Word)
  | rw (lo hi : Int) (reset : Word)
  deriving DecidableEq, Repr

/-- A read-write item with a plain range. -/
def rwItem (lo hi : Int) (reset : Int) : ParamKind := .rw lo hi (BitVec.ofInt 32 reset)

def word32 (reset : Nat) : ParamKind := .rw 0 4294967295 (BitVec.ofNat 32 reset)

/-- sys, class 0 (16 R456). -/
def sysItem : Nat → ParamKind
  | 0 => rwItem 10 3600 60
  | 10 => rwItem 0 65535 0
  | i => if i < 12 then .readOnly else .unassigned

/-- pwr, class 1 (13 R381). -/
def pwrItem : Nat → ParamKind
  | 0 => rwItem 100 150 150
  | 1 => rwItem 50 400 110
  | 2 => rwItem 1000 9500 9500
  | 3 => rwItem 600 2000 600
  | 4 => rwItem 5 300 40
  | 5 => rwItem 5000 8000 5500
  | 6 => rwItem 10 2000 200
  | 7 => rwItem 0 1 0
  | 8 => rwItem 0 1 0
  | 9 => rwItem 1 255 4
  | i => if i < 24 then .readOnly else .unassigned

/-- line, class 2 (03 R74). -/
def lineItem : Nat → ParamKind
  | 0 => rwItem 0 1 0
  | 1 => rwItem 213 320 256
  | 2 => rwItem 0 3 1
  | 3 => rwItem 0 1200 150
  | 4 => rwItem 100 1500 1400
  | 5 => rwItem 0 63 32
  | 6 => rwItem (-64) 63 0
  | 7 => rwItem 0 2 1
  | 8 => rwItem 1 64 3
  | 9 => rwItem 1 64 2
  | 10 => rwItem 0 7 3
  | 11 => rwItem 200 20000 1000
  | 12 => rwItem 100 65535 5000
  | 14 => .clear
  | i => if i < 18 then .readOnly else .unassigned

/-- route, class 3 (03 R81). -/
def routeItem (i : Nat) : ParamKind :=
  if i < 24 then word32 0
  else if i = 24 then rwItem 0 0xFFFFFF 0
  else if i = 25 then rwItem 0 1 0
  else if i = 26 then .readOnly
  else .unassigned

/-- bus, class 4 (14 R414). -/
def busItem : Nat → ParamKind
  | 0 => rwItem 0 2 0
  | 1 => word32 0
  | 2 => word32 0
  | 3 => rwItem 0 253 128
  | 4 => rwItem 0 1 0
  | 5 => rwItem 0 1 1
  | 6 => rwItem 0 0x3FFFF 0x3FFFF
  | 7 => rwItem 0 0x3FFFF 0x3FFFF
  | 8 => rwItem 0 0x3FFFF 0x3FFFF
  | 9 => rwItem 0 0x3FFFF 0x3FFFF
  | 10 => rwItem 8 1016 1016
  | 11 => rwItem 125 1000 500
  | 12 => rwItem 1000 2000 2000
  | i => if i < 22 then .readOnly else .unassigned

/-- twin, class 5 (14 R403). -/
def twinItem : Nat → ParamKind
  | 0 => rwItem 2 50 5
  | 1 => rwItem 50 5000 500
  | 2 => rwItem 50 2000 200
  | 3 => rwItem 16 128 64
  | i => if i < 14 then .readOnly else .unassigned

/-- anglesrc, class 6 (02 R48). -/
def angleItem (src : Nat) : Nat → ParamKind
  | 0 => rwItem 0 4 (if src = 4 then 4 else 0)
  | 1 => rwItem 1 16384 60
  | 2 => rwItem 0 3 2
  | 3 => rwItem 0 1 0
  | 4 => rwItem 0 10000 200
  | 5 => rwItem 0 65535 500
  | 6 => rwItem 0 65535 0
  | 7 => rwItem 1 65535 1000
  | 8 => rwItem 0 1000000 50000
  | 9 => rwItem 1 65535 7692
  | 10 => rwItem 100 20000 2000
  | _ => .unassigned

/-- upd, class 7 (15 R441). -/
def updItem : Nat → ParamKind
  | 0 => rwItem 0 65535 0
  | 1 => rwItem 0 1 0
  | 2 => rwItem 0 1 0
  | 3 => rwItem 0 254 254
  | 4 => rwItem 10 86400 600
  | 5 => rwItem 0 1 0
  | i => if i < 20 then .readOnly else .unassigned

/-- maint, class 8 (16 R457). -/
def maintItem : Nat → ParamKind
  | 0 => rwItem 30 182 182
  | 1 => rwItem 100 1000 1000
  | 2 => rwItem 64 1023 256
  | i => if i < 24 then .readOnly else .unassigned

/-- roster, class 10 (05 R178). -/
def rosterItem : Nat → ParamKind
  | 0 => rwItem 1 255 3
  | 1 => rwItem 1 255 20
  | 2 => rwItem 0 1 1
  | 3 => rwItem 1 1023 24
  | i => if i < 9 then .readOnly else .unassigned

/-- hitch, class 11 (06 R205). -/
def hitchItem : Nat → ParamKind
  | 0 => rwItem 0 1 1
  | 1 => rwItem 0 255 0xA5
  | 2 => rwItem 16 128 64
  | 3 => rwItem 2600 5000 3000
  | i => if i < 10 then .readOnly else .unassigned

/-- lock[n], class 12 (07 R227). -/
def lockItem (n : Nat) : Nat → ParamKind
  | 0 => rwItem 0 1 (if n < 2 then 1 else 0)
  | 1 => if n = 0 then .fixed 1 else if n = 1 then .fixed 4 else rwItem 0 7 1
  | 2 => if n = 0 then .fixed 1 else rwItem 0 1 (if n = 1 then 0 else 1)
  | 3 => if n = 0 then .fixed 0 else if n = 1 then .fixed 1 else rwItem 0 1 (if n = 2 then 1 else 0)
  | 4 => if n = 0 then .fixed 0 else if n = 1 then .fixed 250 else rwItem 100 2000 1000
  | 5 => if n = 0 then .fixed 2000 else rwItem 500 10000 2000
  | 6 => if n = 0 then .fixed 0 else rwItem 0 1 (if n = 2 then 1 else 0)
  | 7 => if n = 0 then .fixed 7 else rwItem 0 7 7
  | 8 => rwItem 0 65535 0
  | 9 => rwItem 200 10000 3000
  | i => if i < 14 then .readOnly else .unassigned

/-- The common items of class 12, instance 4. -/
def lockCommon : Nat → ParamKind
  | 0 => rwItem 1 0xFE 0x5C
  | 1 => rwItem 500 10000 2000
  | 2 => rwItem 16 65536 4096
  | 3 => rwItem 0 1 1
  | 4 => rwItem 10 600 60
  | _ => .unassigned

/-- prox.line[m], class 14 (08 R258). -/
def proxLine : Nat → ParamKind
  | 0 => rwItem (-32768) 32767 0
  | 1 => rwItem (-32768) 32767 0
  | 2 => rwItem (-32768) 32767 0
  | 3 => rwItem 0 1023 0
  | 4 => rwItem 200 900 600
  | _ => .unassigned

/-- The zones of class 14, instance 24. -/
def proxZone (i : Nat) : ParamKind :=
  if i < 21 then rwItem (-32768) 32767 0 else if i = 21 then rwItem 5 50 15 else .unassigned

/-- The common items of class 14, instance 25. -/
def proxCommon : Nat → ParamKind
  | 0 => rwItem 0 1 0
  | 1 => rwItem 902000 902720 902400
  | 2 => rwItem 863000 863680 863500
  | 3 => rwItem 50 500 100
  | 4 => rwItem 100 800 200
  | 5 => rwItem 10 90 30
  | 6 => rwItem 1 3 1
  | 7 => rwItem 20 200 50
  | 8 => rwItem 5 40 12
  | 9 => rwItem 0 5000 0
  | 10 => rwItem 1 100 10
  | 11 => rwItem 500 10000 3000
  | 12 => rwItem 20 200 60
  | i => if i < 19 then rwItem (-32768) 32767 0 else if i < 23 then .readOnly else .unassigned

/-- radio, class 15 (09 R280). The range of data_khz depends on the region and is checked at the write. -/
def radioItem : Nat → ParamKind
  | 0 => rwItem 0 2 0
  | 1 => rwItem 0 1000000 0
  | 2 => rwItem (-10) 20 0
  | 3 => rwItem (-10) 20 0
  | 4 => rwItem 0 2 2
  | 5 => rwItem 0 1 1
  | 6 => rwItem 0 1 1
  | 7 => rwItem 0 20000 2000
  | 8 => rwItem 0 500 20
  | 9 => rwItem 0 15 2
  | 10 => rwItem 10 10000 1000
  | 11 => rwItem 2 20 10
  | i => if i < 21 then .readOnly else .unassigned

/-- svc[n], classes 20 to 23 (12 R359). -/
def svcItem : Nat → ParamKind
  | 0 => rwItem 0 6 0
  | 1 => rwItem 0 15 0
  | 2 => rwItem 4 63 4
  | 3 => rwItem 0 4 4
  | 4 => rwItem 0 65535 0
  | 5 => rwItem 0 65536 65536
  | 6 => rwItem 0 64 8
  | 7 => rwItem 0 65535 0
  | 8 => rwItem 0 15 8
  | 9 => rwItem 0 2 1
  | 10 => rwItem 0 65535 1
  | 11 => rwItem 0 7 0
  | 12 => word32 0
  | 13 => word32 0
  | 14 => .readOnly
  | _ => .unassigned

/-- What the tables say of a parameter ID (00 R19, 12 R358). -/
def paramKind (id : Nat) : ParamKind :=
  let cls := id / 2048
  let off := id % 2048
  let inst := off / 32
  let item := off % 32
  if 20 ≤ cls ∧ cls < 24 then svcItem item
  else match cls with
    | 0 => sysItem off
    | 1 => pwrItem off
    | 2 => if inst < 24 then lineItem item else .unassigned
    | 3 => if inst < 16 then routeItem item else .unassigned
    | 4 => busItem off
    | 5 => twinItem off
    | 6 => if inst < 5 then angleItem inst item else .unassigned
    | 7 => updItem off
    | 8 => maintItem off
    | 10 => rosterItem off
    | 11 => hitchItem off
    | 12 => if inst < 4 then lockItem inst item else if inst = 4 then lockCommon item else .unassigned
    | 13 => if item < 11 ∧ inst < 32 then .readOnly else .unassigned
    | 14 => if inst < 24 then proxLine item else if inst = 24 then proxZone item
            else if inst = 25 then proxCommon item else .unassigned
    | 15 => radioItem off
    | 16 => if off < 11 ∨ (32 ≤ off ∧ off < 224) then .readOnly else .unassigned
    | _ => .unassigned

/-! ## Sparse word stores -/

/-- The entry of a key, if listed. -/
def Cells.find? (c : Cells) (k : Nat) : Option Word :=
  match c with
  | [] => none
  | (j, v) :: rest => if j = k then some v else Cells.find? rest k

/-- Put an entry into a store, keys rising. -/
def Cells.put (c : Cells) (k : Nat) (v : Word) : Cells :=
  match c with
  | [] => [(k, v)]
  | (j, u) :: rest => if k < j then (k, v) :: (j, u) :: rest else if k = j then (k, v) :: rest else (j, u) :: Cells.put rest k v

/-- Take an entry out of a store. -/
def Cells.drop (c : Cells) (k : Nat) : Cells := c.filter fun e => e.1 ≠ k

/-- A store in which an unlisted key reads `dflt`. -/
def Cells.getD (c : Cells) (k : Nat) (dflt : Word) : Word := (Cells.find? c k).getD dflt

/-- Store a value; storing the default removes the entry. -/
def Cells.putD (c : Cells) (k : Nat) (v dflt : Word) : Cells := if v = dflt then Cells.drop c k else Cells.put c k v

/-! ## Live values of read-write items -/

/-- The reset value the tables give an ID; 0 where they give none. -/
def paramReset (id : Nat) : Word :=
  match paramKind id with
  | .rw _ _ r => r
  | .fixed v => v
  | _ => 0

/-- Live value of a read-write or fixed item. -/
def liveParam (s : State) (id : Nat) : Word :=
  match paramKind id with
  | .fixed v => v
  | _ => Cells.getD s.par id (paramReset id)

def setLive (id : Nat) (v : Word) (s : State) : State := { s with par := Cells.putD s.par id v (paramReset id) }

def sysId (i : Nat) : Nat := i
def pwrId (i : Nat) : Nat := 0x0800 + i
def lineId (l i : Nat) : Nat := 0x1000 + 32 * l + i
def routeId (r i : Nat) : Nat := 0x1800 + 32 * r + i
def busId (i : Nat) : Nat := 0x2000 + i
def twinId (i : Nat) : Nat := 0x2800 + i
def angleId (n i : Nat) : Nat := 0x3000 + 32 * n + i
def updId (i : Nat) : Nat := 0x3800 + i
def maintId (i : Nat) : Nat := 0x4000 + i
def rosterId (i : Nat) : Nat := 0x5000 + i
def hitchId (i : Nat) : Nat := 0x5800 + i
def lockId (n i : Nat) : Nat := 0x6000 + 32 * n + i
def proxLineId (m i : Nat) : Nat := 0x7000 + 32 * m + i
def proxZoneId (i : Nat) : Nat := 0x7300 + i
def proxId (i : Nat) : Nat := 0x7320 + i
def radioId (i : Nat) : Nat := 0x7800 + i
def svcId (n i : Nat) : Nat := 0xA000 + 32 * n + i

/-- Live value as an unsigned number. -/
def par (s : State) (id : Nat) : Nat := (liveParam s id).toNat

/-- Live value of an item with a signed range. -/
def parInt (s : State) (id : Nat) : Int := (liveParam s id).toInt

/-- Item `i` of service `n`. -/
def svcPar (s : State) (n i : Nat) : Nat := par s (svcId n i)

/-- Item `i` of line `l`. -/
def linePar (s : State) (l i : Nat) : Nat := par s (lineId l i)

/-- Member lines of a route (03 R81). -/
def routeMembers (s : State) (r : Nat) : BitVec 24 := BitVec.ofNat 24 (par s (routeId r 24))

/-- The lines of a mask, in line order. -/
def linesOf (m : BitVec 24) : List Nat := (List.range 24).filter fun l => m.getLsbD l

/-- Every read-write ID, in ascending order of ID, that PARAM_SAVE writes (12 R343): instance by instance. -/
def savedIds : List Nat :=
  let blk (base insts : Nat) := (List.range insts).flatMap fun n => (List.range 32).map fun i => base + 32 * n + i
  (blk 0x0000 1 ++ blk 0x0800 1 ++ blk 0x1000 24 ++ blk 0x1800 16 ++ blk 0x2000 1 ++ blk 0x2800 1 ++ blk 0x3000 5 ++
    blk 0x3800 1 ++ blk 0x4000 1 ++ blk 0x5000 1 ++ blk 0x5800 1 ++ blk 0x6000 5 ++ blk 0x7000 26 ++ blk 0x7800 1 ++
    blk 0xA000 256).filter fun id =>
      match paramKind id with
      | .rw .. => true
      | _ => false

end Sys2Proof.Machine
end

