-- ==== Sys2Proof/Machine/Ops.lean ====
section
/-!
DEFINITION. Sys2Proof/Machine/Ops.lean: the named operations over the state: fields, the window and its tokens, rings,
completion, events, free values, the fault log.
-/
namespace Sys2Proof.Machine

/-! ## Fields by subsystem -/

def modDev (f : Dev → Dev) (s : State) : State := { s with dev := f s.dev }
def modNv (f : Nv → Nv) (s : State) : State := { s with nv := f s.nv }
def modPort (f : Port → Port) (s : State) : State := { s with port := f s.port }
def modTb (f : TimeBase → TimeBase) (s : State) : State := { s with tb := f s.tb }
def modSched (f : Sched → Sched) (s : State) : State := { s with sched := f s.sched }
def modRoster (f : Roster → Roster) (s : State) : State := { s with roster := f s.roster }
def modIsl (f : Island → Island) (s : State) : State := { s with isl := f s.isl }
def modProx (f : Prox → Prox) (s : State) : State := { s with prox := f s.prox }
def modRadio (f : Radio → Radio) (s : State) : State := { s with radio := f s.radio }
def modSec (f : Sec → Sec) (s : State) : State := { s with sec := f s.sec }
def modPwr (f : Pwr → Pwr) (s : State) : State := { s with pwr := f s.pwr }
def modTwin (f : Twin → Twin) (s : State) : State := { s with twin := f s.twin }
def modBus (f : Bus → Bus) (s : State) : State := { s with bus := f s.bus }
def modUpd (f : Upd → Upd) (s : State) : State := { s with upd := f s.upd }
def modMnt (f : Maint → Maint) (s : State) : State := { s with mnt := f s.mnt }
def modPar (f : Cells → Cells) (s : State) : State := { s with par := f s.par }
def modStaged (f : Cells → Cells) (s : State) : State := { s with staged := f s.staged }
def modIlk (f : BitVec 12 → BitVec 12) (s : State) : State := { s with ilkEvents := f s.ilkEvents }
def modKeys (f : List Key → List Key) (s : State) : State := { s with keys := f s.keys }
def modLine (l : Nat) (f : Line → Line) (s : State) : State := { s with lines := modNth s.lines l f }
def modKey (k : Nat) (f : Key → Key) (s : State) : State := { s with keys := modNth s.keys k f }
def modKeyNv (k : Nat) (f : KeyNv → KeyNv) (s : State) : State := modNv (fun n => { n with keyTab := modNth n.keyTab k f }) s
def modLock (o : Nat) (f : Lock → Lock) (s : State) : State := { s with locks := modNth s.locks o f }
def modRing (r : Nat) (f : Ring → Ring) (s : State) : State := modPort (fun p => { p with rings := modNth p.rings r f }) s
def modSrc (n : Nat) (f : AngleSrc → AngleSrc) (s : State) : State := modTb (fun t => { t with src := modNth t.src n f }) s
def modTmr (n : Nat) (f : Tmr → Tmr) (s : State) : State := modTb (fun t => { t with tmr := modNth t.tmr n f }) s

def getRing (s : State) (r : Nat) : Ring := s.port.rings.getD r (Ring.reset 63)
def getLine (s : State) (l : Nat) : Line := s.lines.getD l Line.reset
def getKey (s : State) (k : Nat) : Key := s.keys.getD k (Key.reset KeyNv.empty)
def getKeyNv (s : State) (k : Nat) : KeyNv := s.nv.keyTab.getD k KeyNv.empty
def getLock (s : State) (o : Nat) : Lock := s.locks.getD o (Lock.reset 0)
def getSrc (s : State) (n : Nat) : AngleSrc := s.tb.src.getD n AngleSrc.reset
def getTmr (s : State) (n : Nat) : Tmr := s.tb.tmr.getD n Tmr.reset

/-! ## Flags set in the present clock (01 R16) -/

/-- The device sets bits of a W1C register, or counts 1 in an RC one: noted for a host access in the same clock. -/
def raise (a bits : Nat) (s : State) : State := { s with fresh := (a, bits) :: s.fresh }

/-- The same where a condition holds. -/
def raiseIf (c : Bool) (a bits : Nat) (s : State) : State := { s with fresh := if c then (a, bits) :: s.fresh else s.fresh }

/-- Bits of a register that the device has set in the present clock. -/
def freshBits (s : State) (a : Nat) : Nat := (s.fresh.filter fun p => p.1 == a).foldl (fun m p => m ||| p.2) 0

/-- Counts of a register in the present clock. -/
def freshCount (s : State) (a : Nat) : Nat := ((s.fresh.filter fun p => p.1 == a).map fun p => p.2).sum

/-- The bits that a host write of `v` clears in a W1C register: a setting in the same clock wins (R16). -/
def w1c (s : State) (a v : Nat) : Nat := v ^^^ (v &&& freshBits s a)

/-- A bit of ILK_EVENTS is set (11 R325). -/
def raiseIlk (bit : Nat) (s : State) : State := raise 0x1A5 (2 ^ bit) (modIlk (fun e => e ||| (1 <<< bit)) s)

/-- A bit of TWIN_FLAGS is set (11 R325). -/
def raiseTwin (bit : Nat) (s : State) : State := raise 0x1A1 (2 ^ bit) (modTwin (fun t => { t with flags := t.flags ||| (1 <<< bit) }) s)

/-- Bits of WAKE_SRC are set (11 R324). -/
def raiseWake (bits : BitVec 5) (s : State) : State := raise 0x182 bits.toNat (modPwr (fun p => { p with wakeSrc := p.wakeSrc ||| bits }) s)

/-! ## Byte memory in canonical form -/

/-- The canonical form from address `lo` on: addresses rising, no entry 0. -/
def Mem.wfFrom : Nat → Mem → Bool
  | _, [] => true
  | lo, (a, v) :: rest => lo ≤ a && v != 0 && Mem.wfFrom (a + 1) rest

def Mem.wf (m : Mem) : Bool := Mem.wfFrom 0 m

/-- Read one byte: an unlisted address reads 0. -/
def Mem.read : Mem → Nat → Byte
  | [], _ => 0
  | (b, v) :: rest, a => if b = a then v else Mem.read rest a

/-- Write one byte, keeping the canonical form. -/
def Mem.write : Mem → Nat → Byte → Mem
  | [], a, v => if v = 0 then [] else [(a, v)]
  | (b, u) :: rest, a, v =>
    if a < b then (if v = 0 then (b, u) :: rest else (a, v) :: (b, u) :: rest)
    else if a = b then (if v = 0 then rest else (a, v) :: rest)
    else (b, u) :: Mem.write rest a v

/-- Write bytes from an address up. -/
def Mem.writeBytes : Mem → Nat → List Byte → Mem
  | m, _, [] => m
  | m, a, v :: vs => Mem.writeBytes (Mem.write m a v) (a + 1) vs

def Mem.readBytes (m : Mem) (a n : Nat) : List Byte := (List.range n).map fun i => Mem.read m (a + i)

/-! ## The window (11 R326) -/

/-- Size of the window in bytes (R326). -/
def windowBytes : Nat := 0x40000

/-- A write of the device into the window; bytes beyond its end go nowhere. -/
def winWrite (a : Nat) (bs : List Byte) (s : State) : State :=
  { s with win := Mem.writeBytes s.win a (bs.take (windowBytes - a)) }

/-- A 32-bit word of the window (R13). -/
def winWord (s : State) (a : Nat) : Word := BitVec.ofNat 32 (leNat (Mem.readBytes s.win a 4))

def winRead (s : State) (a n : Nat) : List Byte := Mem.readBytes s.win a n

def wordsBytes (ws : List Word) : List Byte := ws.flatMap fun w => leBytes 4 w.toNat

/-! ## Time -/

/-- 32 MHz clocks in a µs, a ms, a s. -/
def clkUs (n : Nat) : Nat := 32 * n
def clkMs (n : Nat) : Nat := 32000 * n
def clkS (n : Nat) : Nat := 32000000 * n

/-- µs since boot, which counts from the last reset (11 R334, 16 R450). -/
def bootUs (s : State) : Nat := (s.clk - s.dev.bootClk) / 32

/-- Seconds since boot (16 R456). -/
def uptimeS (s : State) : Nat := (s.clk - s.dev.bootClk) / clkS 1

/-- Elapsed seconds, counted in RUN, HALT and STABLED on the always-on domain (16 R452). -/
def elapsedNow (s : State) : Nat := s.dev.elapsedBase + uptimeS s

/-- Clocks spent in STABLED since boot, the stay that still lasts among them; one ends as a wake begins. -/
def stabledNow (s : State) : Nat :=
  s.pwr.stabledClk + match s.dev.mode with
    | .stabled => s.clk - s.pwr.asleepClk
    | .waking => if s.pwr.target = 2 then s.pwr.wokeClk - s.pwr.asleepClk else 0
    | _ => 0

/-- Operating seconds: RUN and HALT (16 R452). -/
def opNow (s : State) : Nat := s.dev.opBase + (uptimeS s - stabledNow s / clkS 1)

/-! ## Conditions of the device -/

/-- The signal box works: boot complete and the device in no sleep state (13 R361, R368). -/
def boxRuns (s : State) : Bool :=
  s.dev.ready && (match s.dev.mode with
    | .run => true
    | .prepare => true
    | .commit => true
    | _ => false)

/-- Descriptors are taken: in RUN only, since sleep entry stops the taking (13 R368). -/
def takesDescriptors (s : State) : Bool := s.dev.ready && s.dev.mode == .run

/-- The signal box works in a whole device: the state in which blocks, radio and outputs work (01 R34, 13 R361). -/
def isRunning (s : State) : Bool := boxRuns s && !s.dev.failed

def isActive (s : State) : Bool := s.twin.role == 1
def isSiding (s : State) : Bool := s.twin.role == 2

/-- Lifecycle codes of 10 R303. -/
def lcBlank : Nat := 0
def lcProvisioned : Nat := 1
def lcField : Nat := 2
def lcReturned : Nat := 3

/-! ## Statuses (12 R356 and the chapters that allocate codes) -/

def ST_OK : Nat := 0x0000
def ST_QUEUED : Nat := 0x0001
def ST_BAD_OPCODE : Nat := 0x0010
def ST_BAD_ARG : Nat := 0x0011
def ST_ASLEEP : Nat := 0x0020
def ST_AUTH_FAIL : Nat := 0x0030
def ST_CTR_EXHAUSTED : Nat := 0x0031
def ST_TX_LATE : Nat := 0x0040
def ST_COEX_DENIED : Nat := 0x0041
def ST_MAINT_QUEUED : Nat := 0x0050
def ST_SLEEP_ABORTED : Nat := 0x0060
def ST_MIGRATION_FAILED : Nat := 0x0070
def ST_DEVICE_FAILED : Nat := 0x00F0
def ST_TOKEN_HELD : Nat := 0x0100
def ST_RING_BUSY : Nat := 0x0101
def ST_EVT_TRUNCATED : Nat := 0x0102
def ST_PARAM_UNKNOWN : Nat := 0x0103
def ST_SVC_BUSY : Nat := 0x0104
def ST_CANCELLED : Nat := 0x0105
def ST_TT_FULL : Nat := 0x0200
def ST_LINE_FAULT : Nat := 0x0201
def ST_ILK_NO_REPLY : Nat := 0x0300
def ST_ILK_CORRUPT : Nat := 0x0301
def ST_ILK_COLLISION : Nat := 0x0302
def ST_ILK_TAG_STATUS : Nat := 0x0303
def ST_ILK_NO_SPAN : Nat := 0x0304
def ST_ROSTER_UNKNOWN : Nat := 0x0310
def ST_ROSTER_FULL : Nat := 0x0311
def ST_ROSTER_BOUND : Nat := 0x0312
def ST_XPM_FULL : Nat := 0x0320
def ST_HITCH_NONE : Nat := 0x0321
def ST_HITCH_AMBIGUOUS : Nat := 0x0322
def ST_KEY_NEEDS_MASTER : Nat := 0x0400
def ST_LOCK_FB_FAULT : Nat := 0x0410
def ST_LOCK_DISABLED : Nat := 0x0411
def ST_LOCK_CANCELLED : Nat := 0x0412
def ST_LOCK_RELAY : Nat := 0x0413
def ST_LOCK_CONDITION : Nat := 0x0414
def ST_LOCK_NO_KEY : Nat := 0x0415
def ST_TWIN_NO_ACK : Nat := 0x0416
def ST_PROX_FEW_LINES : Nat := 0x0420
def ST_RANGE_DUTY : Nat := 0x0421
def ST_RANGE_TIMEOUT : Nat := 0x0422
def ST_RADIO_UNLOCK : Nat := 0x0430
def ST_KEY_USAGE : Nat := 0x0500
def ST_KEY_EMPTY : Nat := 0x0501
def ST_KEY_CORRUPT : Nat := 0x0502
def ST_CTX_STALE : Nat := 0x0503
def ST_LC_REFUSED : Nat := 0x0504
def ST_TWIN_SIDING : Nat := 0x0700

/-! ## Tokens (11 R331) -/

/-- Granules of a byte area; an area of length 0 touches none. -/
def areaTouches (off len g : Nat) : Bool := 0 < len && off / 32 ≤ g && g ≤ (off + len - 1) / 32

/-- The granule of a descriptor (R326). -/
def descGranule (s : State) (h : Held) : Nat := ((getRing s h.ring).base + 32 * h.idx) / 32

def heldTouches (s : State) (h : Held) (g : Nat) : Bool :=
  descGranule s h == g || h.areas.any fun a => areaTouches a.1 a.2 g

/-- The held descriptor whose token covers a granule, the first taken where tokens share it. -/
def granuleHolder (s : State) (g : Nat) : Option Held := s.port.held.find? fun h => heldTouches s h g

/-- Whether any granule of an area is held. -/
def areaHeld (s : State) (off len : Nat) : Bool :=
  0 < len && s.port.held.any fun h =>
    (off / 32 ≤ descGranule s h && descGranule s h ≤ (off + len - 1) / 32) ||
    h.areas.any fun a => 0 < a.2 && a.1 / 32 ≤ (off + len - 1) / 32 && off / 32 ≤ (a.1 + a.2 - 1) / 32

/-- TOKEN_HELD (R323): how many granules the device holds. -/
def heldGranules (s : State) : Nat :=
  (s.port.held.flatMap fun h => descGranule s h :: h.areas.flatMap fun a =>
    (List.range (if a.2 = 0 then 0 else (a.1 + a.2 - 1) / 32 - a.1 / 32 + 1)).map fun i => a.1 / 32 + i).eraseDups.length

/-- Whether an area lies inside the window and outside every ring area (R328 check 3). -/
def areaAllowed (s : State) (off len : Nat) : Bool :=
  off + len ≤ windowBytes && s.port.rings.all fun r => r.size == 0 || off + len ≤ r.base || r.base + 32 * r.size ≤ off

/-! ## Completion (11 R330) -/

/-- free moves past every descriptor no longer held: to the first still held at or after it, else to take. -/
def freeAdvance (held : List Held) (ring : Nat) (r : Ring) : Nat :=
  ((List.range ((r.take + r.size - r.free) % r.size)).map fun k => (r.free + k) % r.size).find? (fun i =>
    held.any fun h => h.ring == ring && h.idx == i) |>.getD r.take

/-- Write words 4 to 7 of a descriptor, its word 1 where the device replaces it, then word 0. -/
def writeBack (off : Nat) (w0 : Word) (w1 : Option Word) (w4 w5 w6 w7 : Word) (s : State) : State :=
  let s := winWrite (off + 16) (wordsBytes [w4, w5, w6, w7]) s
  let s := match w1 with
    | some w => winWrite (off + 4) (wordsBytes [w]) s
    | none => s
  winWrite off (wordsBytes [w0]) s

/-- Release a descriptor's tokens, set the ring's done bit where irq asks, move free on. -/
def releaseHeld (h : Held) (s : State) : State :=
  let held := s.port.held.filter fun x => !(x.ring == h.ring && x.idx == h.idx)
  let s := modPort (fun p => { p with held := held,
                                      ringDone := if h.irq then p.ringDone ||| (1 <<< h.ring) else p.ringDone }) s
  let s := raiseIf h.irq (0x0C2 + h.ring / 16) (2 ^ (h.ring % 16)) s
  modRing h.ring (fun r => { r with free := freeAdvance held h.ring r }) s

/-- Completion of a held descriptor with result words, rlen and status (R330, R338). Not held any more: nothing. -/
def finish (h : Held) (status : Nat) (w4 w5 w6 : Word) (rlen : Nat) (s : State) : State :=
  let off := (getRing s h.ring).base + 32 * h.idx
  let w0 := BitVec.ofNat 32 (h.seq * 65536 + h.opcode)
  let w7 := BitVec.ofNat 32 (rlen * 65536 + status)
  releaseHeld h (writeBack off w0 none w4 w5 w6 w7 s)

/-- The held descriptor at a place of a ring. -/
def findHeld (s : State) (ring idx : Nat) : Option Held :=
  s.port.held.find? fun h => h.ring == ring && h.idx == idx

/-- Completion by ring and index. -/
def complete (ring idx status : Nat) (w4 w5 w6 : Word) (rlen : Nat) (s : State) : State :=
  match findHeld s ring idx with
  | some h => finish h status w4 w5 w6 rlen s
  | none => s

/-- Completion with no results. -/
def done (h : Held) (status : Nat) (s : State) : State := finish h status 0 0 0 0 s

/-- Completion with one result word. -/
def done1 (h : Held) (status : Nat) (w4 : Word) (s : State) : State := finish h status w4 0 0 0 s

/-- Complete every held descriptor of a kind, in the order taken. -/
def completeWhere (p : Held → Bool) (status : Nat) (w4 w5 w6 : Word) (s : State) : State :=
  (s.port.held.filter p).foldl (fun s h => finish h status w4 w5 w6 0 s) s

/-- Change what a held descriptor waits for. -/
def setKind (h : Held) (k : HeldKind) (s : State) : State :=
  modPort (fun p => { p with held := p.held.map fun x => if x.ring == h.ring && x.idx == h.idx then { x with kind := k } else x }) s

/-- A descriptor needs its buffers no more: their tokens return. -/
def returnAreas (h : Held) (s : State) : State :=
  modPort (fun p => { p with held := p.held.map fun x => if x.ring == h.ring && x.idx == h.idx then { x with areas := [] } else x }) s

/-! ## Events (11 R334) -/

/-- Complete a RING3 descriptor with an event. -/
def deliverEvent (h : Held) (e : Event) (s : State) : State :=
  let off := (getRing s h.ring).base + 32 * h.idx
  let rest := e.payload.drop 8
  let n := min rest.length h.len
  let s := winWrite h.buf (rest.take n) s
  let w0 := BitVec.ofNat 32 (h.seq * 65536 + e.code)
  let w1 := BitVec.ofNat 32 ((if h.irq then 65536 else 0) + e.payload.length)
  let st := if n < rest.length then ST_EVT_TRUNCATED else ST_OK
  releaseHeld h (writeBack off w0 (some w1) (BitVec.ofNat 32 e.timeUs) (BitVec.ofNat 32 (leNat (e.payload.take 4)))
    (BitVec.ofNat 32 (leNat ((e.payload.drop 4).take 4))) (BitVec.ofNat 32 (n * 65536 + st)) s)

/-- The oldest RING_POST descriptor held on a ring. -/
def firstPost (s : State) (ring : Nat) : Option Held :=
  s.port.held.find? fun h => h.ring == ring && (match h.kind with
    | .post _ => true
    | _ => false)

/-- An event occurs: it completes the oldest descriptor posted on RING3, waits in the queue of 256, or is dropped and
counted (R334). -/
def postEvent (code : Nat) (payload : List Byte) (s : State) : State :=
  let e : Event := { code := code, payload := payload, timeUs := bootUs s % 2 ^ 32 }
  match firstPost s 3 with
  | some h => deliverEvent h e s
  | none =>
    if s.port.evtQ.length < 256 then modPort (fun p => { p with evtQ := p.evtQ ++ [e] }) s
    else raise 0x0E7 1 (modPort (fun p => { p with evtLost := satSucc 0xFFFF p.evtLost }) s)

/-- Bytes of an event payload from numbers 0 to 255. -/
def payload (bs : List Nat) : List Byte := bs.map (BitVec.ofNat 8)

/-! ## Free values -/

/-- `n` bytes of the random source (10 R299): free values. -/
def drawBytes (n : Nat) (s : State) : List Byte := (List.range n).map fun i => Config.randomByte (s.free + i)

/-- The draw is used up. -/
def used (n : Nat) (s : State) : State := { s with free := s.free + n }

end Sys2Proof.Machine
end

