-- ==== Sys2Proof/Machine/Time.lean ====
section
/-!
DEFINITION. Sys2Proof/Machine/Time.lean: the passing of 32 MHz clocks: the timer channels (02 R67), the interpolating angle
sources (R39, R45, R484) and ANGLE4 (R47), in closed form. Commands that stand for an expiry move the clock to their moment
with `advanceTo` (DESIGN CHOICE, assumption log 4).
-/
namespace Sys2Proof.Machine

/-- The timebase is clocked: not in reset, OFF or STABLED, nor before the logic step of a wake from it (13 R361, R362). -/
def timebaseRuns (s : State) : Bool :=
  match s.dev.mode with
  | .run => true
  | .prepare => true
  | .commit => true
  | .halt => true
  | .waking => s.pwr.target == 1
  | _ => false

/-! ## Timer channels (02 R64 to R67) -/

def tmrEn (t : Tmr) : Bool := t.ctrl.getLsbD 0
def tmrCapture (t : Tmr) : Bool := t.ctrl.getLsbD 1
def tmrClk (t : Tmr) : Nat := (t.ctrl.extractLsb' 2 3).toNat
def tmrTrig (t : Tmr) : Nat := (t.ctrl.extractLsb' 5 4).toNat

/-- Clocks per tick of the counter clocks 0 to 2; 0 for the others. The 32 kHz RC is taken at its nominal rate. -/
def tmrPrescale (t : Tmr) : Nat :=
  match tmrClk t with
  | 0 => 1
  | 1 => 32
  | 2 => 1000
  | _ => 0

/-- Ticks until the counter next meets cc in compare mode (R67, R68): from cc itself, a whole round. -/
def ticksToMatch (t : Tmr) : Nat := (t.cc.toNat + 2 ^ 32 - t.cnt.toNat - 1) % 2 ^ 32 + 1

/-- `n` ticks of R67. -/
def tmrTicks (n : Nat) (t : Tmr) : Tmr :=
  let c := t.cnt.toNat
  if n = 0 then t
  else if tmrCapture t then { t with cnt := BitVec.ofNat 32 (c + n), ovf := t.ovf || (2 ^ 32 ≤ c + n) }
  else if t.cc = 0 then { t with cnt := 0 }
  else
    let k := ticksToMatch t
    if n < k then { t with cnt := BitVec.ofNat 32 (c + n), ovf := t.ovf || (2 ^ 32 ≤ c + n) }
    else { t with cnt := BitVec.ofNat 32 ((n - k) % t.cc.toNat), hit := true, ovf := t.ovf || (2 ^ 32 ≤ c + k) }

/-- `k` clocks of a channel on one of the clocks 0 to 2, with no clr due. -/
def tmrRun (k : Nat) (t : Tmr) : Tmr :=
  let p := tmrPrescale t
  if !tmrEn t || p = 0 then t
  else { tmrTicks ((t.rem + k) / p) t with rem := (t.rem + k) % p }

/-- `k` clocks of a channel. A clr that is due puts the counter to 0 in the first of them, in place of what a tick would do, and
sets no flag (R64). -/
def tmrAdvance (k : Nat) (t : Tmr) : Tmr :=
  if t.clrDue && k ≠ 0 then
    let rem := if tmrEn t && tmrPrescale t ≠ 0 then (t.rem + 1) % tmrPrescale t else t.rem
    tmrRun (k - 1) { t with cnt := 0, clrDue := false, rem := rem }
  else tmrRun k t

/-- A channel with no flag set. -/
def tmrNoFlags (t : Tmr) : Tmr := { t with hit := false, ovf := false, cap := false, capLost := false }

/-- TMRn_STAT bits 3:0 (02 R65). -/
def tmrFlags (t : Tmr) : Nat := t.hit.toNat + 2 * t.ovf.toNat + 4 * t.cap.toNat + 8 * t.capLost.toNat

/-- Flags that the last of `k` clocks sets. -/
def tmrLastFlags (k : Nat) (t : Tmr) : Nat := if k = 0 then 0 else tmrFlags (tmrAdvance 1 (tmrNoFlags (tmrAdvance (k - 1) t)))

/-- A capture (R70): in capture mode the counter goes to CC. -/
def tmrCaptureNow (t : Tmr) : Tmr :=
  if tmrCapture t then { t with cc := t.cnt, cap := true, capLost := t.capLost || t.cap } else t

/-- Flags that a capture sets. -/
def tmrCaptureFlags (t : Tmr) : Nat := if tmrCapture t then 4 + 8 * t.cap.toNat else 0

/-- Address of TMRn_STAT (R49). -/
def tmrStatAddr (n : Nat) : Nat := 0x100 + 8 * n + 1

/-- A trigger reaches a channel (R70); once in a clock. -/
def tmrTriggered (trig clk : Nat) (t : Tmr) : Bool := tmrTrig t == trig && tmrCapture t && t.trigClk != some clk

/-- A trigger arrives (R64, R70): every channel that selects it captures. -/
def captureTrig (trig : Nat) (s : State) : State :=
  let hits := s.tb.tmr.zipIdx.filter fun p => tmrTriggered trig s.clk p.1
  let s := hits.foldl (fun s p => raise (tmrStatAddr p.2) (tmrCaptureFlags p.1) s) s
  let take := fun (t : Tmr) => if tmrTriggered trig s.clk t then { tmrCaptureNow t with trigClk := some s.clk } else t
  modTb (fun x => { x with tmr := x.tmr.map take }) s

/-- One tick of the channels that count the edges of a source (R64, clk 3 to 6). -/
def tmrEdge (src : Nat) (t : Tmr) : Tmr := if tmrEn t && tmrClk t == src + 3 && src < 4 then tmrTicks 1 t else t

/-- A counted edge of a source ticks the channels that count it. -/
def tickEdges (src : Nat) (s : State) : State :=
  let s := s.tb.tmr.zipIdx.foldl (fun s p => raise (tmrStatAddr p.2) (tmrFlags (tmrEdge src (tmrNoFlags p.1))) s) s
  modTb (fun t => { t with tmr := t.tmr.map (tmrEdge src) }) s

/-! ## Angle sources -/

/-- One turn in 1/65,536 count. -/
def turn : Nat := 2 ^ 32

/-- Lines, positions and missing teeth of a source. -/
def anglePar (s : State) (n i : Nat) : Nat := par s (angleId n i)

/-- Angle of the k-th counted edge after the index angle, in 1/65,536 count (R37, R39): whole multiples of S, with no error
accumulated. A change of S on a running source the rules do not follow: every edge since the index angle is counted with the S in force
(DESIGN CHOICE, assumption log 13). -/
def edgeOffset (s : State) (n kind : Nat) (k : Int) : Int :=
  match kind with
  | 1 => k * turn / (4 * anglePar s n 1 : Nat)
  | 2 => k * turn / anglePar s n 1
  | 3 => k * turn * anglePar s n 9 / (1000 * anglePar s n 7 : Nat)
  | _ => 0

/-- Number of the next counted edge after number `k`: on a tooth wheel the edge after the last tooth is the one that closes
the gap (R42). -/
def nextEdge (s : State) (n kind : Nat) (k : Int) : Int :=
  if kind = 2 ∧ k + 1 = (anglePar s n 1 - anglePar s n 2 : Nat) then anglePar s n 1 else k + 1

/-- Position of the next counted edge going forward. -/
def nextEdgePos (s : State) (n : Nat) (a : AngleSrc) : Int :=
  a.indexPos + edgeOffset s n a.kind (nextEdge s n a.kind a.edgeIdx)

/-- Whether a source interpolates between edges (R39, R44, R45, R484). -/
def interpolates (a : AngleSrc) : Bool :=
  a.en && a.synced && !a.stalled && !a.reverse && a.interval ≠ 0 && 1 ≤ a.kind && a.kind ≤ 3

/-- Interpolated position at clock `t` (R39): A / T counts per clock from the last edge, clamped one count short of the
next edge. -/
def interpAt (s : State) (n : Nat) (a : AngleSrc) (t : Nat) : Int :=
  match a.lastEdge with
  | none => a.pos
  | some e =>
    if interpolates a then
      max a.edgePos (min (a.edgePos + (turn * a.arcNum * (t - e) / (a.arcDen * a.interval) : Nat)) (nextEdgePos s n a - 65536))
    else a.pos

/-- `k` clocks of ANGLE4 at `rate` thousandths of a turn per second: exact (R40). -/
def synthStep (rate k : Nat) (a : AngleSrc) : AngleSrc :=
  let x := a.frac + k * rate * 2 ^ 18
  { a with pos := a.pos + (x / 1953125 : Nat), frac := x % 1953125 }

/-- Clocks of ANGLE4 until its next count boundary at the rate in force. -/
def toBoundary (a : AngleSrc) : Nat :=
  if a.rate = 0 then 0
  else ceilDiv ((65536 - a.pos % 65536).toNat * 1953125 - a.frac) (a.rate * 2 ^ 18)

/-- `k` clocks of ANGLE4 when `rate` is the rate written: it takes effect at the next count boundary (R47). -/
def synthAdvance (rate k : Nat) (a : AngleSrc) : AngleSrc :=
  if a.rate = rate then synthStep rate k a
  else
    let b := toBoundary a
    if k < b then synthStep a.rate k a else synthStep rate (k - b) { synthStep a.rate b a with rate := rate }

/-- A source brought to clock `t`, `k` clocks on. -/
def srcAdvance (s : State) (t k : Nat) (n : Nat) (a : AngleSrc) : AngleSrc :=
  if !a.en then a
  else if a.kind = 4 then synthAdvance (anglePar s 4 8) k a
  else { a with pos := max a.pos (interpAt s n a t) }

/-- First count at or above `c` whose angle half is `angle`. -/
def nextAt (c : Int) (angle : Nat) : Int :=
  let x := c / 65536 * 65536 + angle
  if c ≤ x then x else x + 65536

/-- A source's accumulator without its wrap at 32 bits, in counts. -/
def counts (a : AngleSrc) : Int := a.pos / 65536

/-- Clock at which the motion a source is in brings it to a position ahead of it in counts (R39, R47): ANGLE4 by its rate, the others by
interpolation from the last edge; none where it does not move. The clamp of R39 is not looked at. -/
def reachClk (s : State) (a : AngleSrc) (target : Int) : Option Nat :=
  if !a.en then none
  else if a.kind = 4 then
    let rate := anglePar s 4 8
    let b := if a.rate = rate then 0 else toBoundary a
    let x := synthStep a.rate b a
    if target ≤ counts x then some (s.clk + ceilDiv ((target * 65536 - a.pos).toNat * 1953125 - a.frac) (a.rate * 2 ^ 18))
    else if rate = 0 then none
    else some (s.clk + b + ceilDiv ((target * 65536 - x.pos).toNat * 1953125 - x.frac) (rate * 2 ^ 18))
  else if !interpolates a || a.arcNum = 0 then none
  else a.lastEdge.map fun e => e + ceilDiv ((target * 65536 - a.edgePos).toNat * (a.arcDen * a.interval)) (turn * a.arcNum)

/-- Forward wraps of a source in going from one position to another (R41): how many, and the last of them. -/
def wraps (p q : Int) : Nat := (q / turn - p / turn).toNat

/-- Clocks from now to the last forward wrap of a source within `k` clocks, and how many there are. -/
def lastWrap (s : State) (k n : Nat) : Option (Nat × Nat) :=
  let a := s.tb.src.getD n AngleSrc.reset
  let q := (srcAdvance s (s.clk + k) k n a).pos
  let m := wraps a.pos q
  if m = 0 then none else some (min k (((reachClk s a (q / turn * 65536)).getD (s.clk + k)) - s.clk), m)

/-- The captures that forward wraps of ANGLE0 to ANGLE4 bring a channel within `k` clocks (R64): clocks to the last, and how many. -/
def wrapCaptures (s : State) (k : Nat) (t : Tmr) : Option (Nat × Nat) :=
  if tmrCapture t && 1 ≤ tmrTrig t && tmrTrig t ≤ 5 then lastWrap s k (tmrTrig t - 1) else none

/-- `k` clocks of a channel, with those captures (R70). -/
def tmrPass (s : State) (k : Nat) (t : Tmr) : Tmr :=
  match wrapCaptures s k t with
  | some (j, m) =>
    let u := tmrCaptureNow (tmrAdvance j t)
    tmrAdvance (k - j) { u with capLost := u.capLost || 1 < m, trigClk := some (s.clk + j) }
  | none => tmrAdvance k t

/-- Flags that the last of `k` clocks sets on a channel. -/
def tmrPassFlags (s : State) (k : Nat) (t : Tmr) : Nat :=
  tmrLastFlags k t ||| (match wrapCaptures s k t with
    | some (j, m) => if j = k then 4 + 8 * (t.cap || 1 < m).toNat else 0
    | none => 0)

/-- `k` clocks pass. What a host access would coincide with is what the last of them sets. -/
def advance (k : Nat) (s : State) : State :=
  let t := s.clk + k
  if k = 0 then s
  else if timebaseRuns s then
    { s with tb := { s.tb with tmr := s.tb.tmr.map (tmrPass s k),
                               src := s.tb.src.zipIdx.map fun p => srcAdvance s t k p.2 p.1 },
             clk := t,
             fresh := (s.tb.tmr.zipIdx.map fun p => (tmrStatAddr p.2, tmrPassFlags s k p.1)).filter fun p => p.2 != 0 }
  else { s with clk := t, fresh := [] }

/-- The clock moves to `t` where that lies ahead. -/
def advanceTo (t : Nat) (s : State) : State := if s.clk < t then advance (t - s.clk) s else s

/-- The accumulator of R10, 32 bits. -/
def accumulator (a : AngleSrc) : Nat := (a.pos / 65536 % 2 ^ 32).toNat

def angleHalf (a : AngleSrc) : Nat := accumulator a % 65536
def revsHalf (a : AngleSrc) : Nat := accumulator a / 65536

/-- ANGn_SPEED (R52): turns per minute from the last edge interval, rounded down, saturating; 0 when stalled. A source that is not
enabled reads 0 too, which the rule does not say (DESIGN CHOICE, assumption log 13). -/
def angleSpeed (a : AngleSrc) : Nat :=
  if !a.en || a.stalled then 0
  else if a.kind = 4 then min 0xFFFF (a.rate * 60 / 1000)
  else if a.interval = 0 then 0
  else min 0xFFFF (a.arcNum * (60 * 32000000) / (a.arcDen * a.interval))

end Sys2Proof.Machine
end

