-- ==== Sys2Proof/Machine/Angle.lean ====
section
/-!
DEFINITION. Sys2Proof/Machine/Angle.lean: the angle sources and timer channels as edges, index edges, stalls, matches and
captures reach them (02 R37 to R48, R63 to R71, R484).
-/
namespace Sys2Proof.Machine

/-! ## Flags, wraps and entries a source moves past -/

/-- Address of ANGn_STAT (R49). -/
def angleStatAddr (n : Nat) : Nat := 0x100 + 8 * (3 * n + 1) + 7

/-- A source with no flag set. -/
def srcNoFlags (a : AngleSrc) : AngleSrc := { a with syncGain := false, syncLost := false, syncJump := false, glitch := false }

/-- ANGn_STAT bits 6:3 as bits 6:3 of a number (R51). -/
def srcFlags (a : AngleSrc) : Nat := 8 * a.syncGain.toNat + 16 * a.syncLost.toNat + 32 * a.syncJump.toNat + 64 * a.glitch.toNat

/-- A source changes as `f` says: the flags it sets join those that stand and are noted as set now (01 R16), and a forward wrap is a
trigger of the timer channels (R41, R64). -/
def actSrc (n : Nat) (f : AngleSrc → AngleSrc) (s : State) : State :=
  let a := getSrc s n
  let b := f (srcNoFlags a)
  let s := modSrc n (fun _ => { b with syncGain := a.syncGain || b.syncGain, syncLost := a.syncLost || b.syncLost,
                                       syncJump := a.syncJump || b.syncJump, glitch := a.glitch || b.glitch }) s
  let s := if srcFlags b = 0 then s else raise (angleStatAddr n) (srcFlags b) s
  if wraps a.pos b.pos = 0 then s else captureTrig (n + 1) s

/-- Start angle of entry `k` of a service (R55). -/
def entryAngle (s : State) (svc k : Nat) : Nat := (svcPar s svc 4 + k * svcPar s svc 5 / svcPar s svc 6) % 65536

/-- Entries of a service (R55): none where window_len or opportunities is 0. -/
def entryCount (s : State) (svc : Nat) : Nat := if svcPar s svc 5 = 0 then 0 else svcPar s svc 6

def definedSvcs (s : State) : List Nat := (s.sched.svcs.filter fun v => v.defined).map fun v => v.n

/-- A source's accumulator has moved without crossing entries (R484, R50): what it has passed is not crossed, and candidates for it
are gone. -/
def skipEntries (n : Nat) (s : State) : State :=
  let c := counts (getSrc s n)
  modSched (fun d => { d with cands := d.cands.filter fun x => x.src != n || c < x.target,
                              svcs := d.svcs.map fun v => if svcPar s v.n 3 = n then { v with crossed := c } else v }) s

/-- A source has moved back past entries: they are ahead of it again, and are crossed again as it goes forward (R59, R60). -/
def retreat (n : Nat) (s : State) : State :=
  let c := counts (getSrc s n)
  modSched (fun d => { d with svcs := d.svcs.map fun v => if svcPar s v.n 3 = n then { v with crossed := min c v.crossed } else v }) s

/-! ## Starting, stopping and searching -/

/-- A source as it stands when en goes from 0 to 1 (R37, R41, R46, R50): the stored kind takes effect and both halves are 0; ground and
synthetic sources are synced at once. -/
def startedSource (s : State) (n : Nat) (a : AngleSrc) : AngleSrc :=
  let kind := anglePar s n 0
  let now := kind == 3 || kind == 4
  { AngleSrc.reset with
    kind := kind, en := true, ttEn := a.ttEn, wakeEn := a.wakeEn, dirInv := a.dirInv, syncIe := a.syncIe,
    rate := anglePar s n 8, synced := now, syncGain := now, ierr := a.ierr, startClk := s.clk }

/-- en from 0 to 1 (R50): entries armed on the old accumulator are gone with it; that its halves go to 0 is no wrap. -/
def enableSource (n : Nat) (s : State) : State :=
  let s := actSrc n (startedSource s n) (modSrc n (fun a => { a with pos := 0 }) s)
  skipEntries n (modSched (fun d => { d with cands := d.cands.filter fun x => x.src != n }) s)

/-- en written 0 (R50): the source stops, the accumulator holds, synced clears. Whether that counts as sync being lost for sync_lost the
spec does not say: the flag stays as it is (DESIGN CHOICE, assumption log 13). -/
def disableSource (a : AngleSrc) : AngleSrc := { a with en := false, synced := false }

/-- Search again as at start (R42). -/
def searchAgain (a : AngleSrc) : AngleSrc :=
  { a with synced := false, sinceGap := none, indexPending := false, reverse := false }

/-- Sync is lost (R42, R51). -/
def loseSync (a : AngleSrc) : AngleSrc := { searchAgain a with syncLost := a.syncLost || a.synced }

/-- resync (R50, R51): quadrature and tooth wheel sources lose their sync and search again; the others have no search. -/
def resyncSource (a : AngleSrc) : AngleSrc := if a.kind = 1 ∨ a.kind = 2 then loseSync a else a

/-- The position a source takes as it becomes synced (R484): the first count at or above its own whose angle half is `index`. -/
def syncPos (pos : Int) (index : Nat) : Int := 65536 * nextAt (pos / 65536) index

/-- The source becomes synced at an index angle (R42, R43, R484). -/
def gainSync (index : Nat) (a : AngleSrc) : AngleSrc :=
  let p := syncPos a.pos index
  { a with synced := true, syncGain := true, pos := p, indexPos := p, edgePos := p, edgeIdx := 0 }

/-- The position nearest to `p` whose angle half is `index`. -/
def nearAngle (p : Int) (index : Nat) : Int :=
  let up := syncPos p index
  if up - p ≤ turn / 2 then up else up - turn

/-! ## Counted edges -/

/-- ANGn_IERR (R39, R52): the edge's angle less the interpolated value, in counts, saturating. -/
def edgeError (angle interp : Int) : Int := max (-512) (min 511 (angle / 65536 - interp / 65536))

/-- The source stands at counted edge `idx` after the index angle at `base` (R39). -/
def landEdge (s : State) (n : Nat) (dated : Nat) (idx base : Int) (a : AngleSrc) : AngleSrc :=
  let p := base + edgeOffset s n a.kind idx
  { a with pos := max a.pos p, ierr := edgeError p (interpAt s n a dated), indexPos := base, edgePos := p, edgeIdx := idx }

/-- The interval an edge closes: none for a first edge and for the edge that ends a stall (R39, R44). -/
def edgeInterval (a : AngleSrc) (dated : Nat) : Nat :=
  match a.lastEdge with
  | some e => if a.stalled then 0 else dated - e
  | none => 0

/-- A gap (R42): an interval above (missing_teeth + 0.5) times the one before it. -/
def isGap (missing t prev : Nat) : Bool := t ≠ 0 && prev ≠ 0 && (2 * missing + 1) * prev < 2 * t

/-- A counted edge of a tooth wheel with a gap (R42). The edge that closes a gap has the angle index_angle as it stands. A gap that loses
sync counts as the first gap of the search it begins, which the rule does not say (DESIGN CHOICE, assumption log 13). -/
def gapWheelEdge (s : State) (n dated t : Nat) (a : AngleSrc) : AngleSrc :=
  let positions := anglePar s n 1
  let missing := anglePar s n 2
  let gap := isGap missing t a.interval
  let b :=
    if a.synced then
      let due := a.edgeIdx + 1 == (positions - missing : Nat)
      if gap && due then landEdge s n dated 0 (nearAngle (a.indexPos + turn) (anglePar s n 6)) a
      else if gap then { loseSync a with sinceGap := some 0 }
      else if due then loseSync a
      else landEdge s n dated (a.edgeIdx + 1) a.indexPos a
    else if gap then
      if a.sinceGap.map (· + 1) = some (positions - missing) then gainSync (anglePar s n 6) { a with sinceGap := some 0 }
      else { a with sinceGap := some 0 }
    else { a with sinceGap := a.sinceGap.map (· + 1) }
  { b with arcNum := if gap then missing + 1 else 1, arcDen := positions }

/-- A counted edge of a tooth wheel that syncs on ANGn_Z (R42, missing_teeth 0). A mismatch loses sync at the counted edge after the
index edge, and that index edge does not open the new search; the rule says neither (DESIGN CHOICE, assumption log 13). -/
def indexWheelEdge (s : State) (n dated : Nat) (a : AngleSrc) : AngleSrc :=
  let positions := anglePar s n 1
  let b :=
    if !a.synced then
      if a.indexPending then gainSync (anglePar s n 6) a else a
    else if a.indexPending then
      if a.edgeIdx + 1 = positions then landEdge s n dated 0 (nearAngle (a.indexPos + turn) (anglePar s n 6)) a else loseSync a
    else if positions ≤ a.edgeIdx + 1 then loseSync a
    else landEdge s n dated (a.edgeIdx + 1) a.indexPos a
  { b with indexPending := false, arcNum := 1, arcDen := positions }

/-- A counted edge of a quadrature source (R39, R45): forward by whole multiples of S; backward one count per edge. Turning forward
again below the high-water mark it takes the edges' angles without interpolation and never decreases, and passes the mark at the first
edge beyond it (DEDUCED, assumption log 13). A source that is not synced holds its accumulator (R484), and reads no reverse either
(DESIGN CHOICE, assumption log 13). -/
def quadratureEdge (s : State) (n dated : Nat) (forward : Bool) (a : AngleSrc) : AngleSrc :=
  let p := a.indexPos + edgeOffset s n 1 (a.edgeIdx + 1)
  let b :=
    if !a.synced then a
    else if !forward then
      { a with reverse := true, highMark := if a.reverse then a.highMark else a.pos, edgeIdx := a.edgeIdx - 1, pos := a.pos - 65536 }
    else if a.reverse && p ≤ a.highMark then { a with edgeIdx := a.edgeIdx + 1, pos := max a.pos p }
    else landEdge s n dated (a.edgeIdx + 1) a.indexPos { a with reverse := false }
  { b with arcNum := 1, arcDen := 4 * anglePar s n 1 }

/-- A counted edge of a ground pulse source (R46). The rule gives the first one no angle: the source starts at 0x0000 and the model takes that
edge as S further on (DESIGN CHOICE, assumption log 13). -/
def groundEdge (s : State) (n dated : Nat) (a : AngleSrc) : AngleSrc :=
  { landEdge s n dated (a.edgeIdx + 1) a.indexPos a with arcNum := anglePar s n 9, arcDen := 1000 * anglePar s n 7 }

/-- A counted edge acts on a source, with the effect it has at its dated instant (R38, R39). -/
def countEdge (s : State) (n dated : Nat) (forward : Bool) (a : AngleSrc) : AngleSrc :=
  let t := edgeInterval a dated
  let b := match a.kind with
    | 1 => quadratureEdge s n dated (forward != a.dirInv) a
    | 2 => if anglePar s n 2 = 0 then indexWheelEdge s n dated a else gapWheelEdge s n dated t a
    | 3 => groundEdge s n dated a
    | _ => a
  let c := { b with lastEdge := some dated, interval := t, stalled := false }
  { c with pos := max c.pos (interpAt s n c s.clk) }

/-- Clocks by which the glitch filter delays the action of an edge, and the least length of a pulse it keeps (R38):
ceil(filter_ns / 31.25). -/
def filterClocks (s : State) (n : Nat) : Nat := ceilDiv (4 * anglePar s n 4) 125

/-- A source counts an edge of this polarity (R38): both on a quadrature source, else the one anglesrc[n].edge selects. -/
def countsEdge (s : State) (n kind : Nat) (rising : Bool) : Bool := kind == 1 || rising == (anglePar s n 3 == 0)

/-- Clocks of the 30 µs below which a pulse is ignored in STABLED (13 R366). -/
def wakePulse : Nat := 960

/-- Edges of the last second that count towards a wake (13 R366). In STABLED the two edges of a pulse shorter than 30 µs do not. -/
def recordWakeEdge (stabled counted : Bool) (dated : Nat) (a : AngleSrc) : AngleSrc :=
  let short := stabled && a.sleepEdge.any fun e => decide (dated < e + wakePulse)
  let seen := if short then a.wakeEdges.filter fun e => some e != a.sleepEdge else a.wakeEdges
  if !a.wakeEn then a
  else
    { a with sleepEdge := if stabled then some dated else none,
             wakeEdges := if counted && !short then (dated :: seen).filter fun e => dated ≤ e + clkS 1 else seen }

/-- Interpolation runs on from an index angle at its dated instant (R39, R43): the position that the last counted edge would have had. -/
def rebase (dated : Nat) (a : AngleSrc) : AngleSrc :=
  match a.lastEdge with
  | some e => if a.interval = 0 then a else { a with edgePos := a.edgePos - (turn * a.arcNum * (dated - e) / (a.arcDen * a.interval) : Nat) }
  | none => a

/-- The index angle nearest to where a source stands at the dated instant of an index edge (R38, R43). -/
def nearestIndex (s : State) (n dated : Nat) (a : AngleSrc) : Int := nearAngle (interpAt s n a dated) (anglePar s n 6)

/-- Whether an index edge of a synced source corrects it by more than S (R43). -/
def indexJumps (s : State) (n dated : Nat) (a : AngleSrc) : Bool :=
  a.synced && turn / (4 * anglePar s n 1) < (nearestIndex s n dated a - interpAt s n a dated).natAbs

/-- An index edge of a quadrature source (R43): the first syncs it; every later one sets its angle, as an edge correction up to S and as a
sync jump beyond, in reverse too. Where the first counted edge after it lies the rule does not say: the model takes index_angle + S
(DESIGN CHOICE, assumption log 13). -/
def quadratureIndex (s : State) (n dated : Nat) (a : AngleSrc) : AngleSrc :=
  if !a.synced then
    let c := rebase dated (gainSync (anglePar s n 6) a)
    { c with pos := max c.pos (interpAt s n c s.clk) }
  else
    let p := nearestIndex s n dated a
    let jump := indexJumps s n dated a
    let b := { a with indexPos := p, edgePos := p, edgeIdx := 0, syncJump := a.syncJump || jump,
                      ierr := if jump then a.ierr else edgeError p (interpAt s n a dated) }
    if a.reverse then { b with pos := p }
    else
      let c := rebase dated b
      { c with pos := max (if jump then p else max a.pos p) (interpAt s n { c with pos := p } s.clk) }

/-- ANGLE_GLITCH (R38): a pulse of so many clocks; one shorter than the filter is discarded and flagged, a longer one is kept, and its
edges arrive as such. With filter_ns 0 there is no filter. -/
def execAngleGlitch (src clocks : Nat) (s : State) : Host.Outcome State Fault Refusal :=
  if src < 4 && timebaseRuns s && decide (clocks < filterClocks s src) then .next (actSrc src (fun a => { a with glitch := true }) s)
  else .next s

/-! ## Timer channels -/

/-- Clocks until `n` ticks of a channel have passed. -/
def tmrClocks (t : Tmr) (n : Nat) : Nat := n * tmrPrescale t - t.rem

/-- A clr that is due has its clock first (R64). -/
def passClr (chan : Nat) (s : State) : State := if (getTmr s chan).clrDue then advance 1 s else s

/-- TMR_COMPARE_MATCH (R67): time passes until the counter of the channel next meets CC. -/
def execTmrCompareMatch (chan : Nat) (s : State) : Host.Outcome State Fault Refusal :=
  let s := passClr chan s
  let t := getTmr s chan
  if chan < 16 && timebaseRuns s && tmrEn t && !tmrCapture t && t.cc ≠ 0 && tmrPrescale t ≠ 0 then
    .next (advance (tmrClocks t (ticksToMatch t)) s)
  else .next s

/-- TMR_OVERFLOW (R67): time passes until the counter wraps from 0xFFFF_FFFF to 0. -/
def execTmrOverflow (chan : Nat) (s : State) : Host.Outcome State Fault Refusal :=
  let s := passClr chan s
  let t := getTmr s chan
  if chan < 16 && timebaseRuns s && tmrEn t && tmrPrescale t ≠ 0 && (tmrCapture t || (t.cc ≠ 0 && t.cc.toNat ≤ t.cnt.toNat)) then
    .next (advance (tmrClocks t (2 ^ 32 - t.cnt.toNat)) s)
  else .next s

/-- TMR_CAPTURE_TRIGGER (R64, R70): the trigger reaches every channel that selects it. A wrap, a block start or a hitch field detect that
the device has itself seen in this clock is the same trigger, taken already. -/
def execTmrCaptureTrigger (trig : Nat) (s : State) : Host.Outcome State Fault Refusal :=
  if 1 ≤ trig && trig ≤ 8 && timebaseRuns s then .next (captureTrig trig s) else .next s

end Sys2Proof.Machine
end

