-- ==== Sys2Proof/Machine/Flags.lean ====
section
/-!
DEFINITION. Sys2Proof/Machine/Flags.lean: the status values that are computed from the rest of the state (11 R318, R321,
R322, R324, R325), and the fault log entry that quotes them (16 R450).
-/
namespace Sys2Proof.Machine

/-- HOST_STATUS.pwr (11 R318): 0 RUN, 1 HALT, 2 STABLED, 3 entering or leaving a sleep state. -/
def pwrCode (s : State) : Nat :=
  match s.dev.mode with
  | .halt => 1
  | .stabled => 2
  | .prepare => 3
  | .commit => 3
  | .waking => 3
  | _ => 0

/-- Hottest sensor and its index, the lowest where several read the same (11 R324). -/
def hottest (l : List Int) : Int × Nat :=
  l.zipIdx.foldl (fun best p => if best.1 < p.1 then p else best) (l.headD 0, 0)

/-- TEMP_MAX (R324). -/
def tempMax (s : State) : Nat := unsigned 10 (hottest s.dev.sensors).1 + 1024 * (hottest s.dev.sensors).2

/-- T_hot in 0.1 °C (13 R373): the sensors read 0.5 °C per count. -/
def tHot (s : State) : Int := 5 * (hottest s.dev.sensors).1

/-- VBAT_MON (R324): 50 mV per count. -/
def vbatMon (s : State) : Nat := min 1023 (s.dev.vbatMv / 50)

/-- A channel asks for an interrupt (11 R321). -/
def tmrAsks (t : Tmr) : Bool :=
  (t.hit && t.ctrl.getLsbD 9) || (t.ovf && t.ctrl.getLsbD 10) || (t.cap && t.ctrl.getLsbD 11)

/-- A list of bits as a number, bit 0 first. -/
def ofBits (l : List Bool) : Nat := l.foldr (fun b n => b.toNat + 2 * n) 0

/-- TMR_IRQ (R321). -/
def tmrIrq (s : State) : Nat := ofBits (s.tb.tmr.map tmrAsks)

/-- ANG_IRQ (R321). -/
def angIrq (s : State) : Nat :=
  ofBits (s.tb.src.map fun a => a.syncIe && (a.syncGain || a.syncLost || a.syncJump)) +
    (if s.tb.ttIe && (s.tb.ttLate ≠ 0 || s.tb.ttSkip ≠ 0) then 256 else 0)

/-- PWR_FLAGS (R324). -/
def pwrFlags (s : State) : Nat := ofBits [s.pwr.brownout, s.pwr.vbatHigh, s.pwr.sleepAborted]

/-- RING_ERR.valid. -/
def ringErrValid (s : State) : Bool := s.port.ringErr.getLsbD 15

/-- IRQ_STATUS (R321). -/
def irqStatus (s : State) : Nat :=
  ofBits [(s.port.ringDone &&& s.port.ringDoneEn) ≠ 0, !s.port.evtQ.isEmpty,
    ringErrValid s || s.port.tokenViol || s.port.asleepAccess || s.port.spiErr ≠ 0, angIrq s ≠ 0, tmrIrq s ≠ 0,
    s.pwr.wakeSrc ≠ 0 || pwrFlags s ≠ 0, s.twin.flags ≠ 0 || s.ilkEvents ≠ 0, s.dev.failed]

/-- HIRQ_N asserted (R322): released in reset, OFF, STABLED and until ready. -/
def hirq (s : State) : Bool :=
  s.port.hirqCtrl.getLsbD 0 && s.dev.ready && s.dev.mode != .stabled && irqStatus s &&& s.port.irqEnable.toNat ≠ 0

/-- HOST_STATUS (R318). -/
def hostStatus (s : State) : Nat :=
  ofBits [s.dev.ready, s.dev.failed] + 4 * pwrCode s + 16 * s.twin.role + 64 * s.nv.lifecycle +
    256 * ofBits [hirq s, ringErrValid s, s.port.tokenViol, s.port.asleepAccess, s.port.spiErr ≠ 0]

/-- Append a fault log entry (16 R450): code and detail, boot count, µs since boot, and role, power state and temperature;
the ring keeps the last 64. -/
def logFault (code arg : Nat) (s : State) : State :=
  let e : LogEntry :=
    { w0 := BitVec.ofNat 32 (arg % 65536 * 65536 + code), w1 := s.sec.bootCount, w2 := BitVec.ofNat 32 (bootUs s),
      w3 := BitVec.ofNat 32 (s.twin.role + 4 * pwrCode s + 16 * (tempMax s % 1024)), atS := elapsedNow s }
  modNv (fun n => { n with log := (n.log ++ [e]).drop (n.log.length + 1 - 64), logCount := n.logCount + 1 }) s

/-! ## The twin as the other operations need it (14 R386, R395, R396) -/

/-- The twin stands (R393): its heartbeat is seen and no SLEEP notice of it stands. -/
def twinStands (s : State) : Bool := s.twin.role != 0 && s.twin.hbSeen && !s.twin.sleepStands

/-! ## Nonces (10 R300, R302) -/

/-- Retire the key context that would have repeated (R302). -/
def retire (s : State) : State := modSec (fun x => { x with retired := x.retired + 1 }) s

/-- Whether the per-boot counter can still be used. -/
def nonceLeft (s : State) : Bool := s.sec.nonceCtr < 2 ^ 64 - 1

def bumpNonce (s : State) : State := modSec (fun x => { x with nonceCtr := x.nonceCtr + 1 }) s

/-- Purpose byte of a nonce of the twin link: from ACTIVE, or from SIDING and any other (10 R300, 14 R387). -/
def twinPurpose (active : Bool) : Nat := if active then 0x20 else 0x21

/-- A MIRROR frame counts towards the mirror traffic of the last second (R403). -/
def noteMirror (m : TwinMsg) (s : State) : State :=
  match m with
  | .mirror q _ => modTwin (fun t => { t with sentSeq := max t.sentSeq q, mirrorSent := (s.clk, q) :: t.mirrorSent.filter fun x => s.clk < x.1 + clkS 1 }) s
  | _ => s

/-- A short job of the AES engines, which begins and ends at once, is counted (10 R293, R307 item 6). -/
def aesJob (s : State) : State := modSec (fun x => { x with engineJobs := x.engineJobs + 1 }) s

/-- A frame goes out on the twin link under a nonce of its own (R387); none goes out once the per-boot counter is spent (10 R302). -/
def sendTwin (m : TwinMsg) (s : State) : State :=
  if nonceLeft s then
    let f : TwinFrame := { purpose := twinPurpose (isActive s), boot := s.sec.bootCount.toNat, ctr := s.sec.nonceCtr, nonce := s.twin.myNonce, msg := m }
    bumpNonce (aesJob (modTwin (fun t => { t with out := f :: t.out }) (noteMirror m s)))
  else retire s

/-- A pairing message goes out in clear (R387). -/
def sendClear (m : TwinMsg) (s : State) : State := modTwin (fun t => { t with out := { purpose := 0, boot := 0, ctr := 0, nonce := [], msg := m } :: t.out }) s

/-- A frame goes out where the link is up. -/
def sendTwinUp (m : TwinMsg) (s : State) : State := if s.twin.linkUp then sendTwin m s else s

/-- Bytes of the backlog (R396). -/
def backlogBytes (s : State) : Nat := (s.twin.backlog.map fun b => Config.mirrorBytes b.1).sum

/-- A MIRROR frame goes out where the link is up and one of the three engines for background jobs is free (10 R293); a change made while a
resynchronisation is due waits for its snapshot (R396, R397). -/
def sendMirror (q : Nat) (recs : List MirrorRec) (s : State) : State :=
  let full := 3 ≤ s.sec.jobs.countP fun j => !j.pk && j.running
  let due := s.twin.resyncSeq.isNone && (s.twin.resyncDue || s.twin.overflowed)
  if full || due then s else sendTwinUp (.mirror q recs) s

/-- Changes that waited go out, in order (10 R293). -/
def sendWaiting (s : State) : State :=
  if twinStands s then
    (s.twin.backlog.filter fun b => s.twin.sentSeq < b.1).foldl (fun s b => if s.twin.sentSeq < b.1 then sendMirror b.1 b.2 s else s) s
  else s

/-- The ACTIVE mirrors a change (R395, R396): it joins the changes not yet acknowledged, and goes out where the twin stands
and the link is up; a solo device's backlog may overflow. -/
def mirrorChange (recs : List MirrorRec) (s : State) : State :=
  if !(isActive s || (s.twin.pairing == some 1 && s.twin.pairStep == 5)) then s
  else
    let q := s.twin.mirrorSeq + 1
    let s := modTwin (fun t => { t with mirrorSeq := q, backlog := t.backlog ++ [(q, recs)] }) s
    if twinStands s then sendMirror q recs s
    else if 1024 * par s (twinId 3) < backlogBytes s then
      modTwin (fun t => { t with backlog := [], overflowed := true, mirrored := false }) s
    else s

/-- Complete a descriptor whose command began when the mirror sequence stood at `seq0`: while the twin stands, a result that
reports a mirrored change waits for the acknowledgement (R396). -/
def finishMirrored (seq0 : Nat) (h : Held) (status : Nat) (w4 w5 w6 : Word) (rlen : Nat) (s : State) : State :=
  if isActive s && twinStands s && seq0 < s.twin.mirrorSeq then
    let q := s.twin.mirrorSeq
    setKind h (.mirror q) (modTwin (fun t => { t with withheld := t.withheld ++
      [{ seq := q, ring := h.ring, idx := h.idx, status := status, w4 := w4, w5 := w5, w6 := w6, rlen := rlen }] }) s)
  else finish h status w4 w5 w6 rlen s

end Sys2Proof.Machine
end

