-- ==== Sys2Proof/Machine/Bus.lean ====
section
/-!
DEFINITION. Sys2Proof/Machine/Bus.lean: the vehicle bus as the device sends on it: identifiers, address claims, transport
sessions, frames sent, bus-off (14 R404 to R414). The byte layouts of transport, claim and request messages are those of ISO
11783-3 and 11783-5, which R405 and R406 name (PRESUMED, assumption log 6).
-/
namespace Sys2Proof.Machine

def ST_BUS_NO_ADDRESS : Nat := 0x0710
def ST_BUS_ABORTED : Nat := 0x0711
def ST_BUS_OFF : Nat := 0x0712

/-! ## Identifiers -/

/-- 29-bit identifier: priority, PGN, destination in the PGNs that have one, source. -/
def canId (prio pgn dest src : Nat) : Nat :=
  prio % 8 * 2 ^ 26 + (if pgn / 256 % 256 < 240 then pgn / 256 * 65536 + dest % 256 * 256 else pgn * 256) + src % 256

/-- PGN of a frame. -/
def framePgn (f : CanFrame) : Nat :=
  let x := f.id / 256 % 2 ^ 18
  if x / 256 % 256 < 240 then x / 256 * 256 else x

def frameDest (f : CanFrame) : Nat := if f.id / 65536 % 256 < 240 then f.id / 256 % 256 else 255
def frameSrc (f : CanFrame) : Nat := f.id % 256
def framePrio (f : CanFrame) : Nat := f.id / 2 ^ 26 % 8

def PGN_REQUEST : Nat := 59904
def PGN_ACK : Nat := 59392
def PGN_CLAIM : Nat := 60928
def PGN_TP_CM : Nat := 60416
def PGN_TP_DT : Nat := 60160
def PGN_ETP_CM : Nat := 51200
def PGN_ETP_DT : Nat := 50944
def PGN_COMMANDED : Nat := 65240
def PGN_PROP_A : Nat := 61184

/-! ## Conditions -/

def busMode (s : State) : Nat := par s (busId 0)

/-- NAME in force: that of SYS_BUS_CLAIM for the session, else that of the parameters (R407). -/
def busName (s : State) : Dword :=
  s.bus.sessionName.getD (BitVec.ofNat 64 (par s (busId 2) * 2 ^ 32 + par s (busId 1)))

/-- The controller may transmit: it is neither off, listen-only (R401) nor bus-off. -/
def busTalks (s : State) : Bool := isRunning s && !isSiding s && !s.twin.deciding && !s.bus.off

def isClaimFrame (f : CanFrame) : Bool := f.ext && framePgn f == PGN_CLAIM

/-- A queued frame may go out: in mode 0 only address claims do before the hold-off ends (R407). -/
def sendable (s : State) (t : BusTx) : Bool := busTalks s && (busMode s != 0 || s.bus.state == 2 || isClaimFrame t.frame)

/-! ## Sending -/

def queueTx (t : BusTx) (s : State) : State := modBus (fun b => { b with tx := b.tx ++ [t] }) s

/-- Queue a frame of the device's own. -/
def sendPgn (prio pgn dest : Nat) (data : List Byte) (s : State) : State :=
  queueTx { frame := { id := canId prio pgn dest s.bus.addr, ext := true, data := data }, ref := none, last := false } s

/-- The device has no address any more: each send in hand completes with ST_BUS_NO_ADDRESS (R409); what stays is address claims still to go out and
BAM sessions being received, which need no address (DEDUCED, assumption log 38). -/
def loseSends (s : State) : State :=
  let refs := s.bus.tx.filterMap (fun t => t.ref) ++ s.bus.sess.filterMap (fun x => x.ref)
  let s := modBus (fun b => { b with tx := b.tx.filter fun t => isClaimFrame t.frame, sess := b.sess.filter fun x => !x.send && x.bam }) s
  refs.foldl (fun s r => complete r.1 r.2 ST_BUS_NO_ADDRESS 0 0 0 0 s) s

/-- bus.addr changes: posted (R407) and mirrored (R395). -/
def setAddr (addr cause : Nat) (s : State) : State :=
  if s.bus.addr = addr then s
  else
    let s := mirrorChange [.busAddr addr] (postEvent 0x8211 (payload [addr, cause]) (modBus (fun b => { b with addr := addr }) s))
    if addr = 254 then loseSends s else s

def claimFrame (s : State) : State := sendPgn 6 PGN_CLAIM 255 (leBytes 8 (busName s).toNat) s

/-- Claim an address (R407). -/
def claimAddress (addr cause : Nat) (s : State) : State :=
  claimFrame (modBus (fun b => { b with state := 1, claimClk := some s.clk }) (setAddr addr cause s))

/-- Cannot Claim (R407): bus.addr becomes 254. -/
def cannotClaim (s : State) : State :=
  claimFrame (modBus (fun b => { b with state := 3, claimClk := none }) (setAddr 254 2 s))

/-- The controller starts in the mode in force (R404, R407): in mode 0 it claims, with a NAME that is not 0. -/
def busStart (addr : Nat) (s : State) : State :=
  if isSiding s || s.twin.deciding then modBus (fun b => { b with state := 7, claimClk := none }) s
  else match busMode s with
    | 0 => if busName s = 0 then modBus (fun b => { b with state := 3, claimClk := none }) s else claimAddress addr 1 s
    | 1 => modBus (fun b => { b with state := 4, claimClk := none }) s
    | _ => modBus (fun b => { b with state := 5, claimClk := none }) s

/-! ## Sessions (R405, R406) -/

/-- 24-bit PGN as transport messages carry it. -/
def pgnBytes (pgn : Nat) : List Byte := leBytes 3 pgn

def tpPackets (total : Nat) : Nat := ceilDiv total 7

/-- Timeouts of R406 in ms. -/
def t1 : Nat := 750
def t3 : Nat := 1250
def t4 : Nat := 1050

def modSess (id : Nat) (f : BusSess → BusSess) (s : State) : State :=
  modBus (fun b => { b with sess := b.sess.map fun x => if x.id == id then f x else x }) s

def dropSess (id : Nat) (s : State) : State := modBus (fun b => { b with sess := b.sess.filter fun x => x.id != id }) s

def findSess (s : State) (id : Nat) : Option BusSess := s.bus.sess.find? fun x => x.id == id

/-- Connection management message of a session. -/
def sendCm (ext : Bool) (dest : Nat) (data : List Nat) (pgn : Nat) (s : State) : State :=
  sendPgn 7 (if ext then PGN_ETP_CM else PGN_TP_CM) dest (data.map (BitVec.ofNat 8) ++ pgnBytes pgn) s

def sendAbort (x : BusSess) (reason : Nat) (s : State) : State := sendCm x.ext x.peer [255, reason, 255, 255, 255] x.pgn s

/-- Open a sending session that waited its turn: RTS or BAM. -/
def openSess (x : BusSess) (s : State) : State :=
  let n := tpPackets x.total
  let head := if x.ext then [20] ++ (leBytes 4 x.total).map BitVec.toNat
    else if x.bam then [32, x.total % 256, x.total / 256, n, 255] else [16, x.total % 256, x.total / 256, n, 255]
  let s := modSess x.id (fun x => { x with stage := if x.bam then 4 else 0,
                                           deadline := s.clk + clkMs (if x.bam then 50 else t3) }) s
  sendCm x.ext x.peer head x.pgn s

/-- Sending sessions open. -/
def openSends (s : State) : List BusSess := s.bus.sess.filter fun x => x.send && x.stage != 5

/-- Start every waiting send that has its turn: four at once, one per destination (R406). -/
def startWaiting (s : State) : State :=
  (s.bus.sess.filter fun x => x.send && x.stage == 5).foldl (fun s x =>
    if (openSends s).length < 4 && !(openSends s).any fun y => y.peer == x.peer then openSess x s else s) s

/-- A session of the sending side ends. -/
def endSend (x : BusSess) (status : Nat) (s : State) : State :=
  let s := dropSess x.id s
  let s := if status = ST_BUS_ABORTED then modBus (fun b => { b with tpAborts := b.tpAborts + 1 }) s else s
  let s := match x.ref with
    | some r => complete r.1 r.2 status 0 0 0 0 s
    | none => s
  startWaiting s

/-- Data frame number `k`, from 1, of a session. -/
def dataFrame (x : BusSess) (seq k : Nat) : List Byte :=
  let d := (x.data.drop (7 * (k - 1))).take 7
  BitVec.ofNat 8 seq :: d ++ List.replicate (7 - d.length) 0xFF

/-- Send a message in mode 0 (R405, R409): a single frame, transport or extended transport protocol. -/
def sendMessage (ref : Option (Nat × Nat)) (prio pgn dest : Nat) (data : List Byte) (s : State) : State :=
  if data.length ≤ 8 then
    queueTx { frame := { id := canId prio pgn dest s.bus.addr, ext := true, data := data }, ref := ref, last := true } s
  else
    let x : BusSess := { id := s.bus.nextSess, send := true, ext := 1785 < data.length, bam := dest == 255, peer := dest, pgn := pgn,
                         prio := prio, total := data.length, data := data, next := 1, grant := 0, base := 0, most := 0, stage := 5, ref := ref, deadline := 0 }
    startWaiting (modBus (fun b => { b with sess := b.sess ++ [x], nextSess := b.nextSess + 1 }) s)

/-! ## Mode changes and bus-off (R404, R413) -/

/-- Every send in hand ends with a status; nothing more of it is sent. -/
def clearBus (status : Nat) (s : State) : State :=
  let refs := s.bus.tx.filterMap (fun t => t.ref) ++ s.bus.sess.filterMap (fun x => x.ref)
  let n := (s.bus.sess.filter fun x => x.send).length
  let s := modBus (fun b => { b with tx := [], sess := [],
                                     tpAborts := if status = ST_BUS_ABORTED then b.tpAborts + BitVec.ofNat 32 n else b.tpAborts }) s
  refs.foldl (fun s r => complete r.1 r.2 status 0 0 0 0 s) s

/-- A write of bus.mode, already stored, takes effect (R404). The address is kept only where the new mode claims one at once. -/
def busRestart (s : State) : State :=
  let s := clearBus ST_BUS_ABORTED s
  let s := modBus (fun b => { b with sessionName := none }) s
  let s := if busMode s = 0 ∧ busName s ≠ 0 then s else setAddr 254 2 s
  if s.bus.off then s else busStart (par s (busId 3)) s

/-- BUS_OFF_ENTRY (R413): sends in hand complete with ST_BUS_OFF (R409). -/
def execBusOffEntry (s : State) : Host.Outcome State Fault Refusal :=
  if !isRunning s || s.bus.off then .next s
  else
    let s := modBus (fun b => { b with off := true, state := 6, busoffCount := b.busoffCount + 1, txErr := 256, claimClk := none }) s
    .next (postEvent 0x8212 (payload [1]) (clearBus ST_BUS_OFF s))

/-- BUS_OFF_RECOVERY (R413): the address is claimed again (R407). -/
def execBusOffRecovery (s : State) : Host.Outcome State Fault Refusal :=
  if !isRunning s || !s.bus.off then .next s
  else
    let s := modBus (fun b => { b with off := false, txErr := 0, rxErr := 0 }) s
    .next (busStart (par s (busId 3)) (postEvent 0x8212 (payload [0]) s))

/-- CLAIM_HOLDOFF_EXPIRY (R407): 250 ms after a claim that stands. -/
def execClaimHoldoffExpiry (s : State) : Host.Outcome State Fault Refusal :=
  match s.bus.claimClk with
  | some t =>
    if isRunning s && s.bus.state == 1 then
      .next (modBus (fun b => { b with state := 2, claimClk := none }) (advanceTo (t + clkMs 250) s))
    else .next s
  | none => .next s

/-- CAN_FRAME_SENT (R409): the first frame that may go out has been sent. -/
def execCanFrameSent (s : State) : Host.Outcome State Fault Refusal :=
  match s.bus.tx.find? (sendable s) with
  | none => .next s
  | some t =>
    let s := modBus (fun b => { b with tx := b.tx.eraseP (sendable s), txFrames := b.txFrames + 1 }) s
    match t.ref with
    | some r => if t.last then .next (complete r.1 r.2 ST_OK 0 0 0 0 s) else .next s
    | none => .next s

/-- BAM_FRAME_TIMER (R406): the next data frame of the BAM session whose turn comes first. -/
def execBamFrameTimer (s : State) : Host.Outcome State Fault Refusal :=
  match s.bus.sess.find? fun x => x.stage == 4 with
  | none => .next s
  | some x =>
    if !busTalks s then .next s
    else
      let s := advanceTo x.deadline s
      let last := tpPackets x.total ≤ x.next
      let f : CanFrame := { id := canId 7 PGN_TP_DT 255 s.bus.addr, ext := true, data := dataFrame x x.next x.next }
      let s := queueTx { frame := f, ref := if last then x.ref else none, last := last } s
      if last then .next (startWaiting (dropSess x.id s))
      else .next (modSess x.id (fun y => { y with next := y.next + 1, deadline := s.clk + clkMs 50 }) s)

/-- TP_TIMEOUT (R406): T1 to T4 run out; the session aborts with reason 3. -/
def execTpTimeout (session : Nat) (s : State) : Host.Outcome State Fault Refusal :=
  match findSess s session with
  | none => .next s
  | some x =>
    if x.stage = 4 || x.stage = 5 || !isRunning s then .next s
    else
      let s := advanceTo x.deadline s
      let s := if x.bam then s else sendAbort x 3 s
      if x.send then .next (endSend x ST_BUS_ABORTED s) else .next (dropSess x.id s)

end Sys2Proof.Machine
end

