-- ==== Sys2Proof/Machine/Crypto.lean ====
section
/-!
DEFINITION. Sys2Proof/Machine/Crypto.lean: the algorithms the spec names by their standards (10 R288,
R294, R296, R299, R390): AES of FIPS 197, CMAC of SP 800-38B, CCM of SP 800-38C, key wrap of RFC 3394, the
counter-mode KDF of R288, SHA-384 of FIPS 180-4 and ECDSA and ECDH over P-384 of FIPS 186.
The spec names these standards and does not restate them: assumption log 6.
-/

namespace Sys2Proof.Machine

/-! ## AES -/

/-- The S-box as one number, entry x in bits 8x + 7 : 8x. -/
def sboxTable : Nat :=
  0x16bb54b00f2d99416842e6bf0d89a18cdf2855cee9871e9b948ed9691198f8e19e1dc186b95735610ef6034866b53e708a8bbd4b1f74dde8c6b4a61c2e2578ba08ae7a65eaf4566ca94ed58d6d37c8e779e4959162acd3c25c2406490a3a32e0db0b5ede14b8ee4688902a22dc4f816073195d643d7ea7c41744975fec130ccdd2f3ff1021dab6bcf5389d928f40a351a89f3c507f02f94585334d43fbaaefd0cf584c4a39becb6a5bb1fc20ed00d153842fe329b3d63b52a05a6e1b1a2c830975b227ebe28012079a059618c323c7041531d871f1e5a534ccf73f362693fdb7c072a49cafa2d4adf04759fa7dc982ca76abd7fe2b670130c56f6bf27b777c63

def invSboxTable : Nat :=
  0x7d0c2155631469e126d677ba7e042b17619953833cbbebc8b0f52aae4d3be0a0ef9cc9939f7ae52d0d4ab519a97f51605fec8027591012b131c7078833a8dd1ff45acd78fec0db9a2079d2c64b3e56fc1bbe18aa0e62b76f89c5291d711af1476edf751ce837f9e28535ade72274ac9673e6b4f0cecff297eadc674f4111913a6b8a130103bdafc1020f3fca8f1e2cd00645b3b80558e4f70ad3bc8c00abd890849d8da75746155edab9edfd5048706c92b6655dcc5ca4d41698688664f6f87225d18b6d49a25b76b224d92866a12e084ec3fa420b954cee3d23c2a632947b54cbe9dec444438e3487ff2f9b8239e37cfbd7f3819ea340bf38a53630d56a0952

/-- Exclusive or of two strings, as long as the shorter. -/
def xorBytes (a b : List Byte) : List Byte := List.zipWith (· ^^^ ·) a b

/-- Byte `i` of a block held as a number, the first byte the most significant. -/
def blockByte (x i : Nat) : Nat := (x >>> (8 * (15 - i))) % 256

/-- The table's entry for a byte. -/
def lookup (table b : Nat) : Nat := (table >>> (8 * b)) % 256

/-- Bytes replaced by the table, and rows shifted; `d` is 1 to encrypt, 3 to decrypt. -/
def subShift (table d x : Nat) : Nat :=
  (List.range 16).foldl (fun acc i => 256 * acc + lookup table (blockByte x (i % 4 + 4 * ((i / 4 + d * (i % 4)) % 4)))) 0

/-- Every byte of a block doubled in the field of AES. -/
def xtimes (x : Nat) : Nat :=
  ((x &&& 0x7f7f7f7f7f7f7f7f7f7f7f7f7f7f7f7f) <<< 1) ^^^ (((x >>> 7) &&& 0x01010101010101010101010101010101) * 0x1b)

/-- Every column turned up by one byte. -/
def turnUp (x : Nat) : Nat :=
  ((x &&& 0x00ffffff00ffffff00ffffff00ffffff) <<< 8) ||| ((x >>> 24) &&& 0x000000ff000000ff000000ff000000ff)

/-- MixColumns. -/
def mixColumns (x : Nat) : Nat :=
  let t := turnUp x
  xtimes (x ^^^ t) ^^^ t ^^^ turnUp t ^^^ turnUp (turnUp t)

/-- MixColumns undone, by the factor 5, 0, 4, 0 that turns one circulant into the other. -/
def unmixColumns (x : Nat) : Nat := mixColumns (x ^^^ xtimes (xtimes (x ^^^ turnUp (turnUp x))))

/-- The table on each byte of a word. -/
def subWord (x : Nat) : Nat := (List.range 4).foldl (fun acc i => 256 * acc + lookup sboxTable ((x >>> (8 * (3 - i))) % 256)) 0

/-- Key schedule: words, newest first; `fuel` are added. -/
def expandKey (nk : Nat) : Nat → Nat → Nat → List Nat → List Nat
  | 0, _, _, ws => ws
  | fuel + 1, i, rcon, ws =>
    let prev := ws.headD 0
    let t :=
      if i % nk = 0 then subWord (prev % 2 ^ 24 * 256 + prev / 2 ^ 24) ^^^ (rcon * 2 ^ 24)
      else if nk = 8 ∧ i % 8 = 4 then subWord prev else prev
    expandKey nk fuel (i + 1) (if i % nk = 0 then (if rcon < 128 then 2 * rcon else (2 * rcon) % 256 ^^^ 0x1b) else rcon)
      ((ws.getD (nk - 1) 0 ^^^ t) :: ws)

/-- Words to round keys, from newest words first to oldest key first. -/
def gatherKeys : List Nat → List Nat → List Nat
  | d :: c :: b :: a :: rest, acc => gatherKeys rest ((((a * 2 ^ 32 + b) * 2 ^ 32 + c) * 2 ^ 32 + d) :: acc)
  | _, acc => acc

/-- Round keys of a 16-byte or 32-byte key. -/
def roundKeys (key : List Byte) : List Nat :=
  let nk := key.length / 4
  gatherKeys (expandKey nk (4 * (nk + 7) - nk) nk 1 ((List.range nk).map fun i => beNat ((key.drop (4 * (nk - 1 - i))).take 4))) []

/-- Rounds from the second key on; the last has no mixing. -/
def encRounds : List Nat → Nat → Nat
  | [], x => x
  | [k], x => subShift sboxTable 1 x ^^^ k
  | k :: ks, x => encRounds ks (mixColumns (subShift sboxTable 1 x) ^^^ k)

/-- The same undone: the keys in reverse. -/
def decRounds : List Nat → Nat → Nat
  | [], x => x
  | [k], x => subShift invSboxTable 3 x ^^^ k
  | k :: ks, x => decRounds ks (unmixColumns (subShift invSboxTable 3 x ^^^ k))

/-- AES of FIPS 197: one block under a key of 16 or 32 bytes. -/
def aesEnc (key blk : List Byte) : List Byte :=
  let ks := roundKeys key
  beBytes 16 (encRounds ks.tail (beNat blk ^^^ ks.headD 0))

/-- Its inverse. -/
def aesDec (key blk : List Byte) : List Byte :=
  let ks := (roundKeys key).reverse
  beBytes 16 (decRounds ks.tail (beNat blk ^^^ ks.headD 0))

/-! ## CMAC, KDF, CCM, key wrap -/

def zeros (n : Nat) : List Byte := List.replicate n 0

/-- Doubling of a 16-byte string (SP 800-38B subkeys). -/
def dbl (b : List Byte) : List Byte :=
  let v := beNat b
  let d := (2 * v) % 2 ^ 128
  beBytes 16 (if v.testBit 127 then d ^^^ 0x87 else d)

/-- The 16-byte blocks of a message; the last may be short. -/
def chunks (n : Nat) (m : List Byte) : List (List Byte) :=
  (List.range (ceilDiv m.length n)).map fun k => (m.drop (n * k)).take n

/-- CBC-MAC chain over whole blocks from a running value. -/
def cbcMac (key : List Byte) (start : List Byte) (blocks : List (List Byte)) : List Byte :=
  blocks.foldl (fun x b => aesEnc key (xorBytes x b)) start

/-- The last step of CMAC: `pend` is the last block, whole or short, of the message (R294, R296). -/
def cmacLast (key run pend : List Byte) : List Byte :=
  let k1 := dbl (aesEnc key (zeros 16))
  let last :=
    if pend.length = 16 then xorBytes pend k1
    else xorBytes (pend ++ [0x80] ++ zeros (15 - pend.length)) (dbl k1)
  aesEnc key (xorBytes run last)

/-- CMAC per SP 800-38B. -/
def cmac (key msg : List Byte) : List Byte :=
  let bs := chunks 16 msg
  cmacLast key (cbcMac key (zeros 16) bs.dropLast) (bs.getLastD [])

/-- KDF message of iteration `i` (10 R288). -/
def kdfMessage (i : Nat) (label context : List Byte) (bits : Nat) : List Byte :=
  BitVec.ofNat 8 i :: label ++ [0] ++ context ++ beBytes 2 bits

/-- 128-bit derivation: iteration 1 (R288). -/
def kdf128 (root label context : List Byte) : List Byte := cmac root (kdfMessage 1 label context 128)

/-- 256-bit derivation: iteration 1 then iteration 2 (R288). -/
def kdf256 (root label context : List Byte) : List Byte :=
  cmac root (kdfMessage 1 label context 256) ++ cmac root (kdfMessage 2 label context 256)

/-- ASCII bytes of a label (R289). -/
def ascii (s : String) : List Byte := s.toList.map fun c => BitVec.ofNat 8 c.toNat

/-- Filled up with zeros to whole blocks. -/
def padBlock (m : List Byte) : List Byte := m ++ zeros ((16 - m.length % 16) % 16)

/-- CCM formatting of SP 800-38C for a 13-byte nonce and a length field of 2 bytes (09 R275): the first block, then the associated data's
length and what of the data is given. -/
def ccmHead (nonce : List Byte) (adLen : Nat) (ad : List Byte) (msgLen tagLen : Nat) : List Byte :=
  let flags : Nat := (if adLen = 0 then 0 else 64) + 8 * ((tagLen - 2) / 2) + 1
  let shown := if adLen = 0 then [] else if adLen < 0xFF00 then beBytes 2 adLen else [0xFF, 0xFE] ++ beBytes 4 adLen
  BitVec.ofNat 8 flags :: nonce ++ beBytes 2 msgLen ++ shown ++ ad

/-- The CBC-MAC of CCM. -/
def ccmMac (key nonce ad msg : List Byte) (tagLen : Nat) : List Byte :=
  cbcMac key (zeros 16) (chunks 16 (padBlock (ccmHead nonce ad.length ad msg.length tagLen) ++ padBlock msg))

/-- CCM counter block `i`. -/
def ccmCtr (nonce : List Byte) (i : Nat) : List Byte := (1 : Byte) :: nonce ++ beBytes 2 i

/-- The CCM key stream applied to a message. -/
def ccmStream (key nonce msg : List Byte) : List Byte :=
  ((chunks 16 msg).zipIdx.map fun b => xorBytes b.1 (aesEnc key (ccmCtr nonce (b.2 + 1)))).flatten

/-- CCM tag. -/
def ccmTag (key nonce ad msg : List Byte) (tagLen : Nat) : List Byte :=
  (xorBytes (ccmMac key nonce ad msg tagLen) (aesEnc key (ccmCtr nonce 0))).take tagLen

/-- CCM encryption: ciphertext, then tag. -/
def ccmSeal (key nonce ad msg : List Byte) (tagLen : Nat) : List Byte :=
  ccmStream key nonce msg ++ ccmTag key nonce ad msg tagLen

/-- CCM decryption: the plaintext where the tag matches. -/
def ccmOpen (key nonce ad ct tag : List Byte) : Option (List Byte) :=
  let msg := ccmStream key nonce ct
  if ccmTag key nonce ad msg tag.length = tag then some msg else none

/-- One step of the wrap of RFC 3394: A, the semiblocks R, step counter. -/
def wrapStep (key : List Byte) (n t : Nat) (ar : List Byte × List (List Byte)) : List Byte × List (List Byte) :=
  let i := t % n
  let b := aesEnc key (ar.1 ++ ar.2.getD i [])
  (xorBytes (b.take 8) (beBytes 8 (t + 1)), ar.2.set i (b.drop 8))

/-- Key wrap of RFC 3394. -/
def keyWrap (kek plain : List Byte) : List Byte :=
  let r := chunks 8 plain
  let out := (List.range (6 * r.length)).foldl (fun ar t => wrapStep kek r.length t ar) (List.replicate 8 0xA6, r)
  out.1 ++ out.2.flatten

def unwrapStep (key : List Byte) (n t : Nat) (ar : List Byte × List (List Byte)) : List Byte × List (List Byte) :=
  let i := t % n
  let b := aesDec key (xorBytes ar.1 (beBytes 8 (t + 1)) ++ ar.2.getD i [])
  (b.take 8, ar.2.set i (b.drop 8))

/-- Key unwrap of RFC 3394: none where the integrity check fails. -/
def keyUnwrap (kek wrapped : List Byte) : Option (List Byte) :=
  let c := chunks 8 wrapped
  let n := c.length - 1
  let out := (List.range (6 * n)).foldl (fun ar t => unwrapStep kek n (6 * n - 1 - t) ar) (c.getD 0 [], c.drop 1)
  if out.1 = List.replicate 8 0xA6 then some out.2.flatten else none

/-! ## SHA-384 -/

def shaK0 : List Dword := [0x428a2f98d728ae22, 0x7137449123ef65cd, 0xb5c0fbcfec4d3b2f, 0xe9b5dba58189dbbc, 0x3956c25bf348b538, 0x59f111f1b605d019, 0x923f82a4af194f9b, 0xab1c5ed5da6d8118, 0xd807aa98a3030242, 0x12835b0145706fbe]
def shaK1 : List Dword := [0x243185be4ee4b28c, 0x550c7dc3d5ffb4e2, 0x72be5d74f27b896f, 0x80deb1fe3b1696b1, 0x9bdc06a725c71235, 0xc19bf174cf692694, 0xe49b69c19ef14ad2, 0xefbe4786384f25e3, 0x0fc19dc68b8cd5b5, 0x240ca1cc77ac9c65]
def shaK2 : List Dword := [0x2de92c6f592b0275, 0x4a7484aa6ea6e483, 0x5cb0a9dcbd41fbd4, 0x76f988da831153b5, 0x983e5152ee66dfab, 0xa831c66d2db43210, 0xb00327c898fb213f, 0xbf597fc7beef0ee4, 0xc6e00bf33da88fc2, 0xd5a79147930aa725]
def shaK3 : List Dword := [0x06ca6351e003826f, 0x142929670a0e6e70, 0x27b70a8546d22ffc, 0x2e1b21385c26c926, 0x4d2c6dfc5ac42aed, 0x53380d139d95b3df, 0x650a73548baf63de, 0x766a0abb3c77b2a8, 0x81c2c92e47edaee6, 0x92722c851482353b]
def shaK4 : List Dword := [0xa2bfe8a14cf10364, 0xa81a664bbc423001, 0xc24b8b70d0f89791, 0xc76c51a30654be30, 0xd192e819d6ef5218, 0xd69906245565a910, 0xf40e35855771202a, 0x106aa07032bbd1b8, 0x19a4c116b8d2d0c8, 0x1e376c085141ab53]
def shaK5 : List Dword := [0x2748774cdf8eeb99, 0x34b0bcb5e19b48a8, 0x391c0cb3c5c95a63, 0x4ed8aa4ae3418acb, 0x5b9cca4f7763e373, 0x682e6ff3d6b2b8a3, 0x748f82ee5defb2fc, 0x78a5636f43172f60, 0x84c87814a1f0ab72, 0x8cc702081a6439ec]
def shaK6 : List Dword := [0x90befffa23631e28, 0xa4506cebde82bde9, 0xbef9a3f7b2c67915, 0xc67178f2e372532b, 0xca273eceea26619c, 0xd186b8c721c0c207, 0xeada7dd6cde0eb1e, 0xf57d4f7fee6ed178, 0x06f067aa72176fba, 0x0a637dc5a2c898a6]
def shaK7 : List Dword := [0x113f9804bef90dae, 0x1b710b35131c471b, 0x28db77f523047d84, 0x32caab7b40c72493, 0x3c9ebe0a15c9bebc, 0x431d67c49c100d4c, 0x4cc5d4becb3e42b6, 0x597f299cfc657e2a, 0x5fcb6fab3ad6faec, 0x6c44198c4a475817]

def shaK : List Dword := shaK0 ++ shaK1 ++ shaK2 ++ shaK3 ++ shaK4 ++ shaK5 ++ shaK6 ++ shaK7

def shaInit : List Dword :=
  [0xcbbb9d5dc1059ed8, 0x629a292a367cd507, 0x9159015a3070dd17, 0x152fecd8f70e5939,
   0x67332667ffc00b31, 0x8eb44a8768581511, 0xdb0c2e0d64f98fa7, 0x47b5481dbefa4fa4]

def shaPad (m : List Byte) : List Byte :=
  m ++ [0x80] ++ zeros ((240 - (m.length + 1) % 128) % 128) ++ beBytes 16 (8 * m.length)

/-- Message schedule, newest word first, extended to 80 words. -/
def shaExpand : Nat → List Dword → List Dword
  | 0, w => w
  | fuel + 1, w =>
    let s0 (x : Dword) : Dword := x.rotateRight 1 ^^^ x.rotateRight 8 ^^^ (x >>> 7)
    let s1 (x : Dword) : Dword := x.rotateRight 19 ^^^ x.rotateRight 61 ^^^ (x >>> 6)
    shaExpand fuel ((s1 (w.getD 1 0) + w.getD 6 0 + s0 (w.getD 14 0) + w.getD 15 0) :: w)

/-- One round on the eight working words. -/
def shaRound (v : List Dword) (kw : Dword × Dword) : List Dword :=
  let a := v.getD 0 0
  let b := v.getD 1 0
  let c := v.getD 2 0
  let e := v.getD 4 0
  let t1 := v.getD 7 0 + (e.rotateRight 14 ^^^ e.rotateRight 18 ^^^ e.rotateRight 41) +
    ((e &&& v.getD 5 0) ^^^ (~~~e &&& v.getD 6 0)) + kw.1 + kw.2
  let t2 := (a.rotateRight 28 ^^^ a.rotateRight 34 ^^^ a.rotateRight 39) + ((a &&& b) ^^^ (a &&& c) ^^^ (b &&& c))
  [t1 + t2, a, b, c, v.getD 3 0 + t1, e, v.getD 5 0, v.getD 6 0]

def shaBlock (h : List Dword) (blk : List Byte) : List Dword :=
  let w := shaExpand 64 ((chunks 8 blk).map fun b => BitVec.ofNat 64 (beNat b)).reverse
  List.zipWith (· + ·) h ((shaK.zip w.reverse).foldl shaRound h)

/-- SHA-384, 48 bytes. -/
def sha384 (m : List Byte) : List Byte :=
  (((chunks 128 (shaPad m)).foldl shaBlock shaInit).take 6).flatMap fun x => beBytes 8 x.toNat

/-! ## P-384 -/

def p384 : Nat := 0xfffffffffffffffffffffffffffffffffffffffffffffffffffffffffffffffeffffffff0000000000000000ffffffff
def n384 : Nat := 0xffffffffffffffffffffffffffffffffffffffffffffffffc7634d81f4372ddf581a0db248b0a77aecec196accc52973
def b384 : Nat := 0xb3312fa7e23ee7e4988e056be3f82d19181d9c6efe8141120314088f5013875ac656398d8a2ed19d2a85c8edd3ec2aef
def gx384 : Nat := 0xaa87ca22be8b05378eb1c71ef320ad746e1d3b628ba79b9859f741e082542a385502f25dbf55296c3a545e3872760ab7
def gy384 : Nat := 0x3617de4a96262c6f5d9e98bf9292dc29f8f41dbd289a147ce9da3113b5f0b8c00a60b1ce1d7e819d7a431d7c90ea0e5f

/-- `a ^ e mod m`, with `e` given by its bits, most significant first. -/
def powMod (a m : Nat) (e : List Bool) : Nat :=
  e.foldl (fun r b => let r2 := r * r % m; if b then r2 * a % m else r2) 1

/-- Inverse modulo a prime of 384 bits. -/
def invMod (a m : Nat) : Nat := powMod (a % m) m (bitsOf 384 (m - 2))

/-- A point in Jacobian coordinates; z = 0 is the point at infinity. -/
structure EcPoint where
  x : Nat
  y : Nat
  z : Nat
  deriving DecidableEq, Repr

def EcPoint.inf : EcPoint := { x := 1, y := 1, z := 0 }

def subP (a b : Nat) : Nat := (a + p384 - b % p384) % p384

def ecDouble (a : EcPoint) : EcPoint :=
  if a.z = 0 ∨ a.y = 0 then EcPoint.inf
  else
    let z2 := a.z * a.z % p384
    let m := 3 * (subP a.x z2) * (a.x + z2) % p384
    let y2 := a.y * a.y % p384
    let s := 4 * a.x * y2 % p384
    let x := subP (m * m) (2 * s)
    { x := x, y := subP (m * subP s x) (8 * y2 * y2), z := 2 * a.y * a.z % p384 }

def ecAdd (a b : EcPoint) : EcPoint :=
  if a.z = 0 then b
  else if b.z = 0 then a
  else
    let za := a.z * a.z % p384
    let zb := b.z * b.z % p384
    let u1 := a.x * zb % p384
    let u2 := b.x * za % p384
    let s1 := a.y * (zb * b.z % p384) % p384
    let s2 := b.y * (za * a.z % p384) % p384
    if u1 = u2 then (if s1 = s2 then ecDouble a else EcPoint.inf)
    else
      let h := subP u2 u1
      let r := subP s2 s1
      let h2 := h * h % p384
      let h3 := h * h2 % p384
      let v := u1 * h2 % p384
      let x := subP (subP (r * r) h3) (2 * v)
      { x := x, y := subP (r * subP v x) (s1 * h3), z := h * (a.z * b.z % p384) % p384 }

/-- Scalar multiple. -/
def ecMul (k : Nat) (a : EcPoint) : EcPoint :=
  (bitsOf 384 k).foldl (fun r b => let d := ecDouble r; if b then ecAdd d a else d) EcPoint.inf

/-- Affine coordinates, none at infinity. -/
def ecAffine (a : EcPoint) : Option (Nat × Nat) :=
  if a.z = 0 then none
  else
    let zi := invMod a.z p384
    let z2 := zi * zi % p384
    some (a.x * z2 % p384, a.y * (z2 * zi % p384) % p384)

def ecG : EcPoint := { x := gx384, y := gy384, z := 1 }

/-- A 96-byte public key read as a point of the curve. -/
def ecPoint (pub : List Byte) : Option EcPoint :=
  let x := beNat (pub.take 48)
  let y := beNat (pub.drop 48)
  if pub.length = 96 ∧ x < p384 ∧ y < p384 ∧ y * y % p384 = (x * x % p384 * x + (p384 - 3) * x + b384) % p384
  then some { x := x, y := y, z := 1 } else none

/-- The public key of a private scalar, 96 bytes. -/
def ecPublic (d : Nat) : List Byte :=
  match ecAffine (ecMul d ecG) with
  | some (x, y) => beBytes 48 x ++ beBytes 48 y
  | none => zeros 96

/-- A private scalar from 48 random bytes. -/
def ecScalar (random : List Byte) : Nat := beNat random % (n384 - 1) + 1

/-- ECDSA signature r then s over a digest, with nonce k. -/
def ecdsaSign (d k : Nat) (digest : List Byte) : List Byte :=
  match ecAffine (ecMul k ecG) with
  | some (x, _) =>
    let r := x % n384
    let s := invMod k n384 * ((beNat digest + r * d) % n384) % n384
    beBytes 48 r ++ beBytes 48 s
  | none => zeros 96

/-- ECDSA verification of a signature over a digest. -/
def ecdsaVerify (pub digest sig : List Byte) : Bool :=
  match ecPoint pub with
  | none => false
  | some q =>
    let r := beNat (sig.take 48)
    let s := beNat (sig.drop 48)
    if sig.length ≠ 96 ∨ r = 0 ∨ s = 0 ∨ n384 ≤ r ∨ n384 ≤ s then false
    else
      let w := invMod s n384
      match ecAffine (ecAdd (ecMul (beNat digest * w % n384) ecG) (ecMul (r * w % n384) q)) with
      | some (x, _) => x % n384 = r
      | none => false

/-- ECDH: the x-coordinate, 48 bytes. -/
def ecdh (d : Nat) (pub : List Byte) : Option (List Byte) :=
  match ecPoint pub with
  | none => none
  | some q => (ecAffine (ecMul d q)).map fun xy => beBytes 48 xy.1

/-- Condensed ECDH secret (10 R289): first 32 bytes of SHA-384 of the x-coordinate. -/
def condense (z : List Byte) : List Byte := (sha384 z).take 32

end Sys2Proof.Machine
end

