-- ==== Sys2Proof/Machine/KeyStore.lean ====
section
/-!
DEFINITION. Sys2Proof/Machine/KeyStore.lean: OTP, key slots, derivations, nonces, monotonic counters and root signatures (10
R281 to R305).
-/
namespace Sys2Proof.Machine

/-! ## OTP (R282) -/

def otpRead (s : State) (a n : Nat) : List Byte := Mem.readBytes s.nv.otp a n

/-- Burn bytes: bits go from 0 to 1 and never back (R282). -/
def otpBurn (a : Nat) (bs : List Byte) (s : State) : State :=
  modNv (fun n => { n with otp := Mem.writeBytes n.otp a (bs.zipIdx.map fun p => p.1 ||| Mem.read n.otp (a + p.2)) }) s

/-- Device UID, U0 to U7 (R282, 06 R187). -/
def uidBytes (s : State) : List Byte := otpRead s 0x40 8

def deviceUid (s : State) : Dword := BitVec.ofNat 64 (beNat (uidBytes s))

def hukBytes (s : State) : List Byte := otpRead s 0x60 32

def brixquaHash (s : State) : List Byte := otpRead s 0x80 48

def oemHash (s : State) : List Byte := otpRead s 0xB0 48

/-- The OEM root hash is burnt (R283): it is all 0 until then. -/
def oemRootSet (s : State) : Bool := oemHash s != zeros 48

/-- Security version: burnt bits of the thermometer (R282). -/
def secver (s : State) : Nat := ((otpRead s 0xE0 128).map fun b => (bitsOf 8 b.toNat).countP (· == true)).sum

/-- The thermometer burnt up to a version (15 R427): its first `v` bits. -/
def burnSecver (v : Nat) (s : State) : State :=
  otpBurn 0xE0 ((List.range 128).map fun i => BitVec.ofNat 8 (2 ^ (min 8 (v - 8 * i)) - 1)) s

/-- Debug port open (R304, 00 R3). -/
def debugOpen (s : State) : Bool :=
  s.nv.lifecycle == lcBlank || s.nv.lifecycle == lcReturned || s.dev.part == .sample

/-! ## Slots (R284 to R287) -/

def KEY_AES128 : Nat := 1
def KEY_AES256 : Nat := 2
def KEY_P384 : Nat := 3

/-- Attribute semiblock (R285). -/
def slotAttr (slot type usage owner : Nat) (gen : Word) : Dword :=
  BitVec.ofNat 64 (slot + 256 * type + 65536 * usage + 2 ^ 24 * owner + 2 ^ 32 * gen.toNat)

def attrSlot (a : Dword) : Nat := a.toNat % 256
def attrType (a : Dword) : Nat := a.toNat / 256 % 256
def attrUsage (a : Dword) : BitVec 8 := BitVec.ofNat 8 (a.toNat / 65536)
def attrOwner (a : Dword) : Nat := a.toNat / 2 ^ 24 % 256
def attrGen (a : Dword) : Word := BitVec.ofNat 32 (a.toNat / 2 ^ 32)

/-- Key bytes of a type. -/
def keyBytes (type : Nat) : Nat := if type = KEY_AES128 then 16 else if type = KEY_AES256 then 32 else 48

/-- Slot KEKs (R288, R289): the device's for slots 0 and 1, the OEM's for the rest (owners of R284). -/
def slotKek (s : State) (slot : Nat) : List Byte :=
  if slot < 2 then kdf256 (hukBytes s) (ascii "ILK-SLOT") []
  else kdf256 (hukBytes s) (ascii "ILK-SLOT-OEM") [BitVec.ofNat 8 s.nv.returnEpoch]

/-- What a slot gives (R286). -/
inductive SlotRead where
  | empty
  | corrupt
  | key (attr : Dword) (bytes : List Byte)
  deriving DecidableEq, Repr

def slotRecord (s : State) (slot : Nat) : Option (List Byte) := (s.nv.slots.find? fun r => r.1 == slot).map fun r => r.2

def readSlot (s : State) (slot : Nat) : SlotRead :=
  match slotRecord s slot with
  | none => .empty
  | some record =>
    match keyUnwrap (slotKek s slot) record with
    | none => .corrupt
    | some plain =>
      let a : Dword := BitVec.ofNat 64 (leNat (plain.take 8))
      if attrSlot a = slot then .key a (plain.drop 8) else .corrupt

def slotKey (s : State) (slot : Nat) : Option (List Byte) :=
  match readSlot s slot with
  | .key _ k => some k
  | _ => none

/-- Neither empty nor corrupt; a corrupt record counts as empty (R286). -/
def slotHolds (s : State) (slot : Nat) : Bool := (slotKey s slot).isSome

def slotGen (s : State) (slot : Nat) : Word := Cells.getD s.nv.generations slot 0

/-- sec.slot[s].attr (R307): bits 31:0 of the semiblock, 0 for an empty slot. -/
def slotAttrLow (s : State) (slot : Nat) : Word :=
  match readSlot s slot with
  | .key a _ => a.truncate 32
  | _ => 0

def raiseGen (slot : Nat) (s : State) : State :=
  modNv (fun n => { n with generations := Cells.put n.generations slot (Cells.getD n.generations slot 0 + 1) }) s

def dropRecord (slot : Nat) (s : State) : State := modNv (fun n => { n with slots := n.slots.filter fun r => r.1 != slot }) s

/-- Pair key: slot 3 (R284). -/
def pairKey (s : State) : Option (List Byte) := slotKey s 3

/-- A slot with the mirror bit travels to the twin wrapped under the pair key (14 R390 step 6, R395). -/
def mirrorSlot (slot : Nat) (s : State) : State :=
  match pairKey s, readSlot s slot with
  | some pk, .key a k => mirrorChange [.slot slot (keyWrap pk (leBytes 8 a.toNat ++ k))] s
  | some _, _ => mirrorChange [.slot slot []] s
  | none, _ => s

/-- Write a key into a slot (R285, R286): the generation rises. -/
def writeSlot (slot type usage owner : Nat) (key : List Byte) (s : State) : State :=
  let s := raiseGen slot s
  let a := slotAttr slot type usage owner (slotGen s slot)
  let wrapped := keyWrap (slotKek s slot) (leBytes 8 a.toNat ++ key)
  let s := modNv (fun n => { n with slots := (n.slots.filter fun r => r.1 != slot) ++ [(slot, wrapped)] }) s
  if (BitVec.ofNat 8 usage).getLsbD 7 then mirrorSlot slot s else s

/-- Destroy a slot (R287). -/
def destroySlot (slot : Nat) (s : State) : State :=
  let mirrored := (match readSlot s slot with
    | .key a _ => (attrUsage a).getLsbD 7
    | _ => false)
  let s := raiseGen slot (dropRecord slot s)
  if mirrored then mirrorSlot slot s else s

/-! ## Derived keys (R147, R206, R289) -/

/-- A destruction of a slot was taken before this clock, and waits. -/
def destroyTaken (s : State) (slot since : Nat) : Bool := s.port.held.any fun h => h.kind == .destroy slot && decide (h.taken < since)

/-- A destruction of a slot has been taken and waits. -/
def destroyWaits (s : State) (slot : Nat) : Bool := s.port.held.any fun h => h.kind == .destroy slot

/-- A key derived from K_M with a label and a UID, or the status of an access job, begun at a clock, that finds slot 4 empty, to be destroyed or
corrupt (R286, R287). -/
def accessKey (s : State) (since : Nat) (label : String) (uid : Dword) : Except Nat (List Byte) :=
  if destroyTaken s 4 since then .error ST_KEY_EMPTY
  else match readSlot s 4 with
  | .key _ km => .ok (kdf128 km (ascii label) (beBytes 8 uid.toNat))
  | .corrupt => .error ST_KEY_CORRUPT
  | .empty => .error ST_KEY_EMPTY


/-- Piece key of an image (R289): slot 1 or 2, context the image ID. -/
def pieceKey (s : State) (slot : Nat) (imageId : List Byte) : Option (List Byte) :=
  (slotKey s slot).map fun k => kdf256 k (ascii "ILK-IMG") imageId

/-- Counter journal key (R281, R289): what the records of the monotonic counters in data flash are kept under. -/
def journalKey (s : State) : List Byte := kdf128 (hukBytes s) (ascii "ILK-CTR") []

/-- Twin link session key of a session nonce (R281, R289): none without a pair key. -/
def twinSessionKey (s : State) (nonce : List Byte) : Option (List Byte) := (pairKey s).map fun k => kdf128 k (ascii "ILK-TWIN") nonce

/-! ## Nonces and counters (R300 to R302) -/

/-- Boot count and per-boot counter as they travel in a nonce. -/
def nonceHead (s : State) : List Byte := leBytes 4 s.sec.bootCount.toNat ++ leBytes 8 s.sec.nonceCtr

/-- A session nonce (R300): boot count, per-boot counter and 32 random bits. -/
def sessionNonce (s : State) : List Byte := nonceHead s ++ drawBytes 4 s

/-- Live value of a monotonic counter (R301): MCTR0 is the boot count; 4 to 15 read 0. -/
def counterLive (s : State) (n : Nat) : Word :=
  if n = 0 then s.sec.bootCount else if 4 ≤ n ∧ n < 16 then 0 else Cells.getD s.sec.live n 0

/-- CMAC of a journal entry (R301). The spec does not say which bytes it covers: the counter's number and the mark, least significant first
(DESIGN CHOICE, assumption log 37). -/
def journalMac (s : State) (n : Nat) (v : Word) : List Byte := cmac (journalKey s) (BitVec.ofNat 8 n :: leBytes 4 v.toNat)

/-- A counter's mark: that of its journal entry, which is skipped where its CMAC fails. -/
def counterMark (s : State) (n : Nat) : Word :=
  ((s.nv.mctr.find? fun e => e.n == n && e.mac == journalMac s n e.value).map fun e => e.value).getD 0

/-- The mark that reserves a value: plus 256, capped (R301). -/
def markFor (v : Nat) : Word := BitVec.ofNat 32 (min (v + 256) 0xFFFFFFFF)

def setMark (n : Nat) (v : Word) (s : State) : State :=
  let e : JournalEntry := { n := n, value := v, mac := journalMac s n v }
  modNv (fun x => { x with mctr := e :: x.mctr.filter fun e => e.n != n }) s

def setLiveCounter (n : Nat) (v : Word) (s : State) : State := modSec (fun x => { x with live := Cells.putD x.live n v 0 }) s

/-- Advance a counter of the device's own by 1 (R301): a new mark first where the value reaches the old one. -/
def advanceCounter (n : Nat) (s : State) : State :=
  let v := min ((counterLive s n).toNat + 1) 0xFFFFFFFF
  let s := if (counterMark s n).toNat ≤ v then setMark n (markFor v) s else s
  setLiveCounter n (BitVec.ofNat 32 v) s

/-! ## Root signatures -/

/-- Square root modulo p, where there is one: p is 3 modulo 4. -/
def sqrtP (a : Nat) : Option Nat :=
  let y := powMod (a % p384) p384 (bitsOf 384 ((p384 + 1) / 4))
  if y * y % p384 = a % p384 then some y else none

/-- The points of the curve with a given x. -/
def pointsAt (x : Nat) : List EcPoint :=
  if p384 ≤ x then []
  else match sqrtP (x * x % p384 * x + (p384 - 3) * x + b384) with
    | none => []
    | some y => [{ x := x, y := y, z := 1 }, { x := x, y := (p384 - y) % p384, z := 1 }]

/-- Every public key under which a signature over a digest verifies. -/
def signersOf (digest sig : List Byte) : List (List Byte) :=
  let r := beNat (sig.take 48)
  let t := beNat (sig.drop 48)
  if sig.length ≠ 96 ∨ r = 0 ∨ t = 0 ∨ n384 ≤ r ∨ n384 ≤ t then []
  else
    let ri := invMod r n384
    let u1 := (n384 - beNat digest % n384) * ri % n384
    let u2 := t * ri % n384
    ((pointsAt r ++ pointsAt (r + n384)).filterMap fun p =>
      (ecAffine (ecAdd (ecMul u1 ecG) (ecMul u2 p))).map fun q => beBytes 48 q.1 ++ beBytes 48 q.2).filter
        fun pub => ecdsaVerify pub digest sig

/-- A signature by the root whose public key has a burnt SHA-384 (R282, R290, R305). -/
def signedByRoot (rootHash digest sig : List Byte) : Bool :=
  rootHash != zeros 48 && (signersOf digest sig).any fun pub => sha384 pub == rootHash

/-- The bytes a root signature covers (12 R352): label, UID, the bytes shown, boot count. -/
def rootDigest (s : State) (label : String) (shown : List Byte) : List Byte :=
  sha384 (ascii label ++ uidBytes s ++ shown ++ leBytes 4 s.sec.bootCount.toNat)

/-- Whether the authorisation rule of R290 needs a signature. -/
def needsOemSignature (s : State) : Bool := oemRootSet s

end Sys2Proof.Machine
end

