-- ==== Sys2Proof/Machine/Locks.lean ====
section
/-!
DEFINITION. Sys2Proof/Machine/Locks.lean: demands on access services, key status, release decisions, holds and drops of the
interlock outputs (07 R213 to R233).
-/
namespace Sys2Proof.Machine

/-! ## Demands (07 R221, 12 R348) -/

def KEY_POLL : Nat := 1
def ZONE_TRACK : Nat := 2
def IMMO_AUTH : Nat := 3
def ROSTER_SWEEP : Nat := 4
def ROSTER_READ : Nat := 5
def HITCH_COUPLE : Nat := 6

/-- The record of a service, where there is one. -/
def findSvc (s : State) (n : Nat) : Option Svc := s.sched.svcs.find? fun v => v.n == n

def modSvc (n : Nat) (f : Svc → Svc) (s : State) : State :=
  modSched (fun d => { d with svcs := d.svcs.map fun v => if v.n == n then f v else v }) s

/-- Defined services of a type, in instance order. -/
def svcsOfType (s : State) (type : Nat) : List Nat :=
  (s.sched.svcs.filter fun v => v.defined && svcPar s v.n 0 == type).map fun v => v.n

/-- A demand becomes pending on a service; one already pending for the same key and origin stands. -/
def addDemand (n : Nat) (d : Demand) (s : State) : State :=
  modSvc n (fun v =>
    if v.demands.any fun e => e.slot == d.slot && e.uid == d.uid && e.own == d.own then v
    else { v with demands := v.demands ++ [d] }) s

/-- The device raises a demand for a key on the services of a type whose zones meet a mask (R221). -/
def raiseDemand (type zones slot : Nat) (s : State) : State :=
  ((svcsOfType s type).filter fun n => svcPar s n 11 &&& zones ≠ 0).foldl
    (fun s n => addDemand n { slot := slot, uid := none, own := true, clk := s.clk } s) s

/-- Bit of a zone in lock[n].zones and svc[n].zones: CAB, DOOR, REAR. -/
def zoneBit (zone : Nat) : Nat := if zone = 0 then 0 else 2 ^ (zone - 1)

/-- The zones of R213 for a key: its latest zone, or every zone where it has none. -/
def keyZones (s : State) (k : Nat) : Nat := let z := (getKey s k).zone; if z = 0 then 7 else zoneBit z

/-- The demand of R213: IMMO_AUTH for a key on every access service whose zones include its zone, on every IMMO_AUTH service
where it has none. -/
def demandForKey (type slot : Nat) (own : Bool) (s : State) : State :=
  let z := (getKey s slot).zone
  ((svcsOfType s type).filter fun n => z == 0 || svcPar s n 11 &&& zoneBit z ≠ 0).foldl
    (fun s n => addDemand n { slot := slot, uid := none, own := own, clk := s.clk } s) s

/-- A step of R221 is under way for a key: demanded, submitted, running, or in the radio. -/
def underWay (s : State) (type slot : Nat) : Bool :=
  (svcsOfType s type).any (fun n => (findSvc s n).any fun v => v.demands.any fun d => d.slot == slot) ||
  s.sched.cands.any (fun c => c.slot == slot && svcPar s c.svc 0 == type) ||
  s.sched.blocks.any (fun b => b.type == type && b.slot == slot) ||
  (type == ZONE_TRACK && s.prox.seqs.any fun q => q.slot == slot)

/-! ## Key status (07 R207, R215, R216) -/

def keyActive (s : State) (k : Nat) : Bool := (getKeyNv s k).state == 1

def keyRight (s : State) (k n : Nat) : Bool := (getKeyNv s k).rights.getLsbD n

/-- A span of ms has not yet passed since `clk0`. -/
def within (s : State) (clk0 ms : Nat) : Bool := s.clk - clk0 ≤ clkMs ms

/-- Age in ms, saturating at 65,535; 65,535 where there is none (R207). -/
def ageMs (s : State) (c : Option Nat) : Nat :=
  match c with
  | none => 65535
  | some t => min 65535 ((s.clk - t) / 32000)

/-- The change record of a key slot (14 R395). -/
def keyRec (s : State) (k : Nat) : MirrorRec :=
  let n := getKeyNv s k
  .key k n.state n.uid n.rights n.ctrMark n.dlMark n.barred

/-- BARRED as data flash holds it, mirrored at each transition (R216, 14 R395). -/
def setBarred (k : Nat) (b : Bool) (s : State) : State :=
  let s := modKeyNv k (fun n => { n with barred := b }) s
  mirrorChange [keyRec s k] s

/-- The latest fix places a key in a zone as R216, R217, R222, R228 and R230 count it: a reused range counts as no zone (08
R248). -/
def fixZone (f : Fix) : Nat := if f.reused then 0 else f.zone

/-- KEY_ENTRY (R222): an AUTHENTICATED key with a fix in DOOR and a clean IMMO_AUTH of the last 2,000 ms, once per visit. -/
def keyEntry (k : Nat) (s : State) : State :=
  let q := getKey s k
  if par s (lockId 4 3) = 1 && q.status == 2 && !q.entryPosted && (q.fix.any fun f => fixZone f == 2) &&
      (q.authClk.any fun c => within s c 2000) then
    postEvent 0x8013 (payload [k]) (modKey k (fun q => { q with entryPosted := true }) s)
  else s

/-- AWAY (R216): the session and a DOOR visit end. -/
def toAway (k : Nat) (s : State) : State := modKey k (fun q => { q with status := 0, entryPosted := false }) s

/-! ## Outputs -/

/-- Items of an output as its parameters stand (R227). -/
def liveItems (s : State) (o : Nat) : LockItems :=
  { zones := BitVec.ofNat 3 (par s (lockId o 1)), needRequest := par s (lockId o 2) == 1, hold := par s (lockId o 3) == 1,
    confirmMs := par s (lockId o 4), authAgeMs := par s (lockId o 5), needIlk0 := par s (lockId o 6) == 1,
    speedSrc := par s (lockId o 7), speedMax := par s (lockId o 8), requestMs := par s (lockId o 9) }

/-- Items of an output that a write made now would not reach before the next release decision or confirmation (R227): those it was last decided
under, while it is not LOCKED. -/
def itemsInForce (s : State) (o : Nat) : LockItems := if (getLock s o).state = 0 then liveItems s o else (getLock s o).items

def LOCKED : Nat := 0
def NOTIFY : Nat := 1
def CHARGING : Nat := 2
def RELEASED : Nat := 3
def FAULT : Nat := 4

/-- Result words of LOCK_REQUEST (12 R349). -/
def lockWord (s : State) (o : Nat) : Word := BitVec.ofNat 32 ((getLock s o).holder + 256 * (getLock s o).state)

/-- Complete the requests pending on an output, in ring order (R232). -/
def completeRequests (o status : Nat) (s : State) : State :=
  completeWhere (fun h => match h.kind with
    | .lockRequest p _ => p == o
    | _ => false) status (lockWord s o) (getLock s o).releases 0 s

def requestsPending (s : State) (o : Nat) : Bool :=
  s.port.held.any fun h => match h.kind with
    | .lockRequest p _ => p == o
    | _ => false

/-- Something R233 names was observed while requests wait: 0 relay, 1 authentication failure, 2 condition. -/
def observe (o bit : Nat) (s : State) : State :=
  modPort (fun p => { p with held := p.held.map fun h => match h.kind with
    | .lockRequest q seen => if q == o then { h with kind := .lockRequest q (seen ||| (1 <<< bit)) } else h
    | _ => h }) s

/-- The first observed refusal in the order of R233. -/
def firstSeen (seen : BitVec 3) : Nat :=
  if seen.getLsbD 0 then ST_LOCK_RELAY else if seen.getLsbD 1 then ST_AUTH_FAIL
  else if seen.getLsbD 2 then ST_LOCK_CONDITION else ST_LOCK_NO_KEY

/-- What has been observed by any request pending on an output. -/
def seenBy (s : State) (o : Nat) : BitVec 3 :=
  s.port.held.foldl (fun b h => match h.kind with
    | .lockRequest p seen => if p == o then b ||| seen else b
    | _ => b) 0

/-- Item 3 of R228: a key qualifies for an output. -/
def qualifies (s : State) (o : Nat) (it : LockItems) (k : Nat) : Bool :=
  let q := getKey s k
  keyActive s k && keyRight s k o && q.status == 2 &&
  (q.fix.any fun f => f.verdict == 0 && it.zones.toNat &&& zoneBit (fixZone f) ≠ 0 &&
    within s f.clk (if it.hold then it.confirmMs else it.authAgeMs)) &&
  (q.authClk.any fun c => within s c it.authAgeMs)

/-- The key whose qualifying fix is the latest. -/
def qualifier (s : State) (o : Nat) (it : LockItems) : Option Nat :=
  ((List.range 32).filter fun k => qualifies s o it k).foldl (fun best k => match best with
    | none => some k
    | some b => if ((getKey s b).fix.map (·.clk)).getD 0 < ((getKey s k).fix.map (·.clk)).getD 0 then some k else some b) none

/-- Conditions 5 and 6 of R228. -/
def lockConditions (s : State) (it : LockItems) : Bool :=
  (!it.needIlk0 || (getLock s 0).state == RELEASED) &&
  (it.speedSrc == 7 || angleSpeed (getSrc s it.speedSrc) ≤ it.speedMax)

/-- Condition 1 of R228. -/
def mayRelease (s : State) : Bool :=
  isRunning s && !isSiding s && !s.twin.deciding && (s.nv.lifecycle == lcProvisioned || s.nv.lifecycle == lcField)

/-- The release conditions of R228 but the state of the output. -/
def releaseConditions (s : State) (o : Nat) (it : LockItems) : Bool :=
  mayRelease s && par s (lockId o 0) == 1 && (qualifier s o it).isSome && (!it.needRequest || requestsPending s o) &&
  lockConditions s it

/-- Withdraw a notice (R229): the output is LOCKED again and pending requests complete with the matching status. -/
def withdrawNotice (o status : Nat) (s : State) : State :=
  completeRequests o status (sendTwinUp (.drop o) (modLock o (fun l => { l with state := LOCKED }) s))

/-- The status that matches the condition of R228 that no longer holds (R229, R233). -/
def withdrawReason (s : State) (o : Nat) : Nat :=
  if seenBy s o ≠ 0 then firstSeen (seenBy s o)
  else if (qualifier s o (itemsInForce s o)).isSome && !lockConditions s (itemsInForce s o) then ST_LOCK_CONDITION else ST_LOCK_NO_KEY

/-- Pulses that have been decided and have not begun (R229). -/
def pulsesDue (s : State) (o : Nat) : Bool := (getLock s o).state == CHARGING && (getLock s o).pulseClk.any fun t => s.clk < t

/-- 32 MHz clocks of a pulse period (R223). -/
def pulsePeriod : Nat := 3200

/-- A train that has not begun is given up. The train before it, which still stops, has the same phase, and runs on to its end (R223). -/
def keepTail (now : Nat) (l : Lock) : Lock :=
  if now < l.stopClk then { l with pulseClk := some (l.stopClk - ceilDiv (l.stopClk - now) pulsePeriod * pulsePeriod) }
  else { l with pulseClk := none, stopClk := 0 }

/-- Pulses that were due do not start: the output is LOCKED again, and its request waits on (R229). -/
def cancelPulses (o : Nat) (s : State) : State :=
  sendTwinUp (.drop o) (modLock o (fun l => keepTail s.clk { l with state := LOCKED }) s)

/-- The pulses start at the next 1 MHz boundary, or once the train before them has stopped (R223, R229), unless an age runs out by the last
boundary before. Of what else can fail by then every event decides again; the ages are looked at ahead (DEDUCED, assumption log 19). -/
def startPulses (o : Nat) (s : State) : State :=
  let t := max (ceilDiv (s.clk + 1) 32 * 32) (getLock s o).stopClk
  let s := modLock o (fun l => { l with state := CHARGING, pulseClk := some t }) s
  if releaseConditions { s with clk := max s.clk (t - 32) } o (getLock s o).items then s else cancelPulses o s

/-- The release decision for one output (R228, R229): with a standing twin the notice goes out first; a notice whose conditions
no longer hold is withdrawn, and pulses whose conditions fail before their first period do not start. -/
def decideOutput (o : Nat) (s : State) : State :=
  let it := itemsInForce s o
  if (getLock s o).state = NOTIFY then
    if releaseConditions s o it then s else withdrawNotice o (withdrawReason s o) s
  else if pulsesDue s o then
    if releaseConditions s o it then s else cancelPulses o s
  else if (getLock s o).state ≠ LOCKED then s
  else
    match qualifier s o it with
    | none => s
    | some k =>
      if !lockConditions s it then observe o 2 s
      else if !releaseConditions s o it then s
      else
        let s := modLock o (fun l => { l with items := it, chosen := k }) s
        if twinStands s then
          sendTwinUp (.notify o) (modLock o (fun l => { l with state := NOTIFY, notifyClk := s.clk }) s)
        else startPulses o s

/-- Release decisions, ILK0 first (R228). -/
def decideAll (s : State) : State := [0, 1, 2, 3].foldl (fun s o => decideOutput o s) s

/-- The speed of a source may have changed: an output that is checked against it is decided (R228 item 6). -/
def speedDecides (n : Nat) (s : State) : State :=
  if isRunning s then [0, 1, 2, 3].foldl (fun s o => if (itemsInForce s o).speedSrc = n then decideOutput o s else s) s else s

/-- A pulse train stops at the end of the period in progress (R223, R231); one not yet begun does not begin. -/
def stopPulses (now : Nat) (l : Lock) : Lock :=
  match l.pulseClk with
  | none => l
  | some t => if now ≤ t then keepTail now l else { l with stopClk := t + ceilDiv (now - t) pulsePeriod * pulsePeriod }

/-- An output leaves CHARGING or RELEASED for LOCKED: pulses stop, ILK_EVENTS.drop sets, the twin is told (R229, 14 R398). -/
def stopOutput (o : Nat) (s : State) : State :=
  let s := modLock o (fun l => stopPulses s.clk { l with state := LOCKED }) s
  let s := raiseIlk (4 + o) s
  sendTwinUp (.drop o) s

def pumping (s : State) (o : Nat) : Bool := (getLock s o).state == CHARGING || (getLock s o).state == RELEASED

/-- Drop one output with a cause (R231, 12 R357); in NOTIFY the notice is withdrawn. -/
def dropOne (o cause : Nat) (s : State) : State :=
  if pumping s o then postEvent 0x8011 (payload [o, cause]) (stopOutput o s)
  else if (getLock s o).state = NOTIFY then sendTwinUp (.drop o) (modLock o (fun l => { l with state := LOCKED }) s)
  else s

/-- Whether an output needs ILK0: the items it was released under while it pumps, its parameters otherwise. -/
def needsIlk0 (s : State) (o : Nat) : Bool :=
  if (getLock s o).state = LOCKED then (liveItems s o).needIlk0 else (getLock s o).items.needIlk0

/-- ILK0 is no longer released: every output with need_ilk0 1 drops (R231), and the notice of one is withdrawn (R229). -/
def dropDependents (s : State) : State :=
  [1, 2, 3].foldl (fun s p =>
    if !needsIlk0 s p then s
    else if pumping s p then dropOne p 5 s
    else if (getLock s p).state = NOTIFY then withdrawNotice p (withdrawReason s p) s
    else s) s

/-- A drop of an output: dropping ILK0 drops every output with need_ilk0 1 (R231). -/
def dropOutput (o cause : Nat) (s : State) : State :=
  let was := pumping s o
  let s := dropOne o cause s
  if o = 0 ∧ was then dropDependents s else s

/-- Every output drops for one cause (R231). -/
def dropAll (cause : Nat) (s : State) : State := [0, 1, 2, 3].foldl (fun s o => dropOne o cause s) s

/-- Every output static, with no event: FAILED, reset, loss of supply (R231, R224). The pulse generators stop at the end of the pulse period in
progress (16 R447); a reset ends it with everything else. -/
def locksStatic (s : State) : State :=
  [0, 1, 2, 3].foldl (fun s o =>
    if pumping s o then stopOutput o s
    else if (getLock s o).state = NOTIFY then modLock o (fun l => { l with state := LOCKED }) s else s) s

/-- A readback fault of an output (R226, R229): the pulses stop, ILK_EVENTS.fault sets, pending requests complete; the event
is named for RELEASED and LOCKED only. -/
def readbackFault (o code : Nat) (event : Bool) (s : State) : State :=
  let was := pumping s o
  let s := modLock o (fun l => stopPulses s.clk { l with state := FAULT, fault := code }) s
  let s := raiseIlk (8 + o) s
  let s := if was then sendTwinUp (.drop o) s else s
  let s := if event then postEvent 0x8012 (payload [o, code]) s else s
  let s := completeRequests o ST_LOCK_FB_FAULT s
  if o = 0 ∧ was then dropDependents s else s

/-- ILKn becomes RELEASED (R229). -/
def releaseOutput (o : Nat) (s : State) : State :=
  let k := (getLock s o).chosen
  let s := modLock o (fun l => { l with state := RELEASED, holder := k, releases := l.releases + 1 }) s
  let s := raiseIlk o s
  let s := postEvent 0x8010 (payload [o, k]) s
  decideAll (completeRequests o ST_OK s)

/-- A released output in confirmed hold is checked at every fix (R230): the key of the fix confirms it, or another that
qualifies, else it drops. -/
def confirmHold (o slot : Nat) (s : State) : State :=
  let l := getLock s o
  if l.state = RELEASED ∧ l.items.hold then
    let it := liveItems s o
    let ok := lockConditions s it
    if ok && qualifies s o it slot then modLock o (fun l => { l with holder := slot, items := it }) s
    else if !ok then dropOutput o 4 s
    else if l.holder = slot then
      match qualifier s o it with
      | some k => modLock o (fun l => { l with holder := k, items := it }) s
      | none => dropOutput o 4 s
    else s
  else s

/-- Confirmed holds when a key has left AUTHENTICATED (R230): an output stays released only while some key qualifies. -/
def checkHolds (cause : Nat) (s : State) : State :=
  [0, 1, 2, 3].foldl (fun s o =>
    let l := getLock s o
    if l.state = RELEASED ∧ l.items.hold ∧ !qualifies s o l.items l.holder then
      match qualifier s o l.items with
      | some k => modLock o (fun l => { l with holder := k }) s
      | none => dropOutput o cause s
    else s) s

/-- The host's command or parameter drops an output: pending requests complete with ST_LOCK_CANCELLED (R233). -/
def cancelOutput (o cause : Nat) (s : State) : State := completeRequests o ST_LOCK_CANCELLED (dropOutput o cause s)

/-- Demands of R221 while a LOCK_REQUEST waits and no key qualifies: KEY_POLL, then ZONE_TRACK, then IMMO_AUTH, each step for
the keys that have met the one before. -/
def requestDemands (o : Nat) (s : State) : State :=
  let it := liveItems s o
  let z := it.zones.toNat
  if !(requestsPending s o && (getLock s o).state == LOCKED && (qualifier s o it).isNone) then s
  else
    let keys := (List.range 32).filter fun k => keyActive s k && keyRight s k o
    let here := keys.filter fun k => (getKey s k).status == 1 || (getKey s k).status == 2
    -- KEY_POLL names no key: it is wanted while a key of the output is not PRESENT, and of an output without keys too
    let away := keys.isEmpty || keys.any fun k => (getKey s k).status == 0 || (getKey s k).status == 3
    let s := if away && !underWay s KEY_POLL 255 then raiseDemand KEY_POLL z 255 s else s
    here.foldl (fun s k =>
      let q := getKey s k
      let located := q.fix.any fun f => f.verdict == 0 && z &&& zoneBit f.zone ≠ 0 &&
        within s f.clk (if it.hold then it.confirmMs else it.authAgeMs)
      let proved := q.status == 2 && q.authClk.any fun c => within s c it.authAgeMs
      if !located then (if underWay s ZONE_TRACK k then s else raiseDemand ZONE_TRACK z k s)
      else if proved || underWay s IMMO_AUTH k then s else raiseDemand IMMO_AUTH z k s) s

def demandsForRequests (s : State) : State := [0, 1, 2, 3].foldl (fun s o => requestDemands o s) s

/-- Demands of R221 for a key that stands in a zone: an output that needs no request, and the DOOR demand. -/
def fixDemands (k : Nat) (s : State) : State :=
  let q := getKey s k
  let authOld := fun ms => !(q.authClk.any fun c => within s c ms)
  let s := [0, 1, 2, 3].foldl (fun s o =>
    let it := liveItems s o
    let z := q.zone
    if par s (lockId o 0) == 1 && (getLock s o).state == LOCKED && !it.needRequest && keyActive s k && keyRight s k o &&
        it.zones.toNat &&& zoneBit z ≠ 0 && authOld it.authAgeMs && !underWay s IMMO_AUTH k then
      raiseDemand IMMO_AUTH (zoneBit z) k s
    else s) s
  if par s (lockId 4 3) == 1 && (q.status == 1 || q.status == 2) && q.zone == 2 && authOld 2000 && !underWay s IMMO_AUTH k then
    raiseDemand IMMO_AUTH 2 k s
  else s

/-- The situations of R221 as they stand: an authentication has aged, or an output has locked, under a standing fix. They are looked at when a
fix completes and at every ledger step (DEDUCED, assumption log 19). -/
def standingDemands (s : State) : State := demandsForRequests ((List.range 32).foldl (fun s k => fixDemands k s) s)

/-- Whether some other ACTIVE key with right n is PRESENT or AUTHENTICATED: the proviso of R233. -/
def otherKey (s : State) (o k : Nat) : Bool :=
  (List.range 32).any fun j => j != k && keyActive s j && keyRight s j o && ((getKey s j).status == 1 || (getKey s j).status == 2)

/-- A key with right n took a relay verdict or failed IMMO_AUTH (R233). -/
def refuseRequests (k bit status : Nat) (s : State) : State :=
  [0, 1, 2, 3].foldl (fun s o =>
    if keyActive s k && keyRight s k o then
      if otherKey s o k then observe o bit s else completeRequests o status s
    else s) s

/-- A fob message of a slot was accepted (R216): AWAY becomes PRESENT, and the session goes on. -/
def fobHeard (k : Nat) (s : State) : State :=
  let s := modKey k (fun q => { q with status := if q.status = 0 then 1 else q.status, heardClk := some s.clk }) s
  demandsForRequests s

/-- A clean IMMO_AUTH of an ACTIVE slot (R216, R217). -/
def authClean (k : Nat) (s : State) : State :=
  let q := getKey s k
  let s := modKey k (fun q => { q with authClk := some s.clk }) s
  let s :=
    if q.status = 3 then
      if q.fix.any fun f => fixZone f == 1 && f.verdict == 0 then
        setBarred k false (modKey k (fun q => { q with status := 2 }) s)
      else s
    else modKey k (fun q => { q with status := 2 }) s
  demandsForRequests (decideAll (keyEntry k s))

/-- IMMO_AUTH of an ACTIVE slot failed its proof (R216, R233). -/
def authFailed (k : Nat) (s : State) : State :=
  let s := modKey k (fun q => { q with status := if q.status = 2 then 1 else q.status }) s
  decideAll (refuseRequests k 1 ST_AUTH_FAIL (checkHolds 4 s))

/-- A fix of a key is complete (R215, R216, R221, R222, R229, R230). -/
def applyFix (k : Nat) (f : Fix) (s : State) : State :=
  let s := modKey k (fun q => { q with fix := some f, zone := f.zone,
                                       entryPosted := q.entryPosted && (fixZone f == 0 || fixZone f == 2) }) s
  let s :=
    if f.verdict = 2 && !f.reused && keyActive s k then
      refuseRequests k 0 ST_LOCK_RELAY (setBarred k true (modKey k (fun q => { q with status := 3 }) s))
    else s
  let s := [0, 1, 2, 3].foldl (fun s o => confirmHold o k s) s
  demandsForRequests (decideAll (fixDemands k (keyEntry k s)))

end Sys2Proof.Machine
end

