-- ==== Sys2Proof/Machine/RosterOps.lean ====
section
/-!
DEFINITION. Sys2Proof/Machine/RosterOps.lean: the roster: finding, sighting, missing and freeing entries (05 R156 to R163,
R169, R170, R177).
-/
namespace Sys2Proof.Machine

/-! ## Entries -/

def FREE : Nat := 0
def DECLARED : Nat := 1
def PRESENT : Nat := 2
def ABSENT : Nat := 3
def HITCHED : Nat := 4

/-- Words 0 to 7 of an entry (R157). -/
def entryWords (e : Entry) : List Word :=
  [BitVec.ofNat 32 (e.uid.toNat / 2 ^ 32), BitVec.ofNat 32 e.uid.toNat, e.desc,
   BitVec.ofNat 32 (e.status * 2 ^ 29 + e.pinned.toNat * 2 ^ 28 + e.route * 2 ^ 24 + e.chanPresent.toNat * 65536 +
     e.chanSigned.toNat * 256 + e.miss),
   BitVec.ofNat 32 (e.seenSweep.toNat * 65536 + e.seenRevs.toNat), e.lastData,
   BitVec.ofNat 32 (e.readsOk * 65536 + e.readsBad), e.owner]

/-- An entry as created (R157, R159): unseen, nothing read, owner 0. -/
def newEntry (handle : Nat) (uid : Dword) (status : Nat) (pinned : Bool) : Entry :=
  { handle := handle, uid := uid, desc := 0, status := status, pinned := pinned, route := 0, chanPresent := 0, chanSigned := 0,
    miss := 0, seenSweep := 0, seenRevs := 0, lastData := 0, readsOk := 0, readsBad := 0, owner := 0 }

/-- The entry of a roster handle; none where it is FREE. -/
def findEntry (s : State) (handle : Nat) : Option Entry := s.roster.entries.find? fun e => e.handle == handle

/-- The entry of a UID. -/
def findUid (s : State) (uid : Dword) : Option Entry := s.roster.entries.find? fun e => e.uid == uid

/-- Lowest FREE handle; 0x1000 when none (R159, R178). -/
def firstFree (entries : List Entry) : Nat :=
  min 0x1000 (entries.foldl (fun n e => if e.handle = n then n + 1 else n) 0)

def pinnedCount (s : State) : Nat := s.roster.entries.countP fun e => e.pinned

/-- Put an entry at its place by handle. -/
def insertEntry (e : Entry) : List Entry → List Entry
  | [] => [e]
  | x :: xs => if e.handle < x.handle then e :: x :: xs else if e.handle = x.handle then e :: xs else x :: insertEntry e xs

/-- Every change to an entry goes to the twin whole (R163): a FREE one is eight words of 0. -/
def mirrorEntry (handle : Nat) (s : State) : State :=
  mirrorChange [.roster handle (((findEntry s handle).map entryWords).getD (List.replicate 8 0))] s

/-- Store a new or changed entry. -/
def putEntry (e : Entry) (s : State) : State :=
  mirrorEntry e.handle (modRoster (fun r => { r with entries := insertEntry e r.entries }) s)

/-- Change an entry, where there is one. -/
def modEntry (handle : Nat) (f : Entry → Entry) (s : State) : State :=
  match findEntry s handle with
  | some e => putEntry (f e) s
  | none => s

/-- An entry becomes FREE. -/
def freeEntry (handle : Nat) (s : State) : State :=
  mirrorEntry handle (modRoster (fun r => { r with entries := r.entries.filter fun e => e.handle != handle }) s)

/-- What is saved of a pinned entry (R162). -/
def pinnedWords (e : Entry) : Nat × Word × Word × Word × Word :=
  let w := entryWords e
  (e.handle, w.getD 0 0, w.getD 1 0, w.getD 3 0, w.getD 7 0)

/-- A command has changed a pinned entry: words 0, 1, 3 and 7 of each pinned entry are saved (R162). -/
def savePinned (s : State) : State := modNv (fun n => { n with pinned := (s.roster.entries.filter fun e => e.pinned).map pinnedWords }) s

/-- Whether a defined service names an entry (R160). -/
def entryNamed (s : State) (handle : Nat) : Bool :=
  s.sched.svcs.any fun v => v.defined &&
    ((svcPar s v.n 0 == ROSTER_READ && svcPar s v.n 12 % 4096 == handle) ||
     (svcPar s v.n 0 == HITCH_COUPLE && v.hitched == some handle))

/-! ## Sightings and misses (R157, R159, R169) -/

/-- Class of a descriptor (04 R130). -/
def descClass (d : Word) : Nat := d.toNat / 2 ^ 28

def descReadProtect (d : Word) : Bool := d.getLsbD 20
def descSize (d : Word) : Nat := d.toNat / 256 % 256
def descAuthFrom (d : Word) : Nat := d.toNat % 256

/-- What a sighting changes in an entry: PRESENT, no misses, route and revolutions, the sweep number in a sweep, the
descriptor of a clean ACK; a HITCHED entry takes the descriptor alone (R159). -/
def sighted (route revs : Nat) (sweep : Option Word) (desc : Option Word) (e : Entry) : Entry :=
  if e.status = HITCHED then { e with desc := desc.getD e.desc }
  else { e with status := PRESENT, miss := 0, route := route, seenRevs := BitVec.ofNat 16 revs,
                seenSweep := (sweep.map fun w => w.truncate 16).getD e.seenSweep, desc := desc.getD e.desc }

/-- A sighting of an entry. -/
def sightEntry (handle route revs : Nat) (sweep desc : Option Word) (s : State) : State :=
  modEntry handle (sighted route revs sweep desc) s

/-- One miss (R159): PRESENT becomes ABSENT at absent_after; DECLARED stays. -/
def missed (absentAfter : Nat) (e : Entry) : Entry :=
  let m := min 255 (e.miss + 1)
  { e with miss := m, status := if e.status = PRESENT ∧ absentAfter ≤ m then ABSENT else e.status }

def missEntry (handle : Nat) (s : State) : State := modEntry handle (missed (par s (rosterId 0))) s

/-- A sweep sights a UID (R159, R170): known entries are sighted, an unknown UID gets the lowest FREE handle where auto_add
is 1. Answers the handle and whether it is new; none where it could not be recorded. -/
def sweepSights (uid : Dword) (route revs : Nat) (sweep : Option Word) (desc : Option Word) (s : State) : State × Option (Nat × Bool) :=
  match findUid s uid with
  | some e => (sightEntry e.handle route revs sweep desc s, some (e.handle, false))
  | none =>
    if par s (rosterId 2) = 0 then (s, none)
    else
      let h := firstFree s.roster.entries
      if h = 0x1000 then (modRoster (fun r => { r with fullEvents := r.fullEvents + 1 }) s, none)
      else (putEntry (sighted route revs sweep desc (newEntry h uid PRESENT false)) s, some (h, true))

/-- The misses of a complete sweep with no node abandoned (R169); the mask bit of a class is that of INV_WALK (04 R129). -/
def countMisses (route mask : Nat) (number : Word) (s : State) : State :=
  (s.roster.entries.filter fun e =>
    (e.status == PRESENT || e.status == DECLARED) && e.route == route && e.seenSweep != number.truncate 16 &&
    (if e.desc = 0 then mask % 16 == 15 else mask.testBit (3 - descClass e.desc))).foldl (fun s e => missEntry e.handle s) s

/-- Compaction (R177): frees unpinned ABSENT entries that have been missed long enough and no service names; answers how many. -/
def compactRoster (s : State) : State × Nat :=
  let gone := s.roster.entries.filter fun e =>
    e.status == ABSENT && !e.pinned && par s (rosterId 1) ≤ e.miss && !entryNamed s e.handle
  (gone.foldl (fun s e => freeEntry e.handle s) s, gone.length)

/-- Pinned entries restored at boot (R162): DECLARED, no misses, nothing else known. -/
def restorePinned (saved : List (Nat × Word × Word × Word × Word)) : List Entry :=
  saved.foldl (fun l p =>
    let uid := BitVec.ofNat 64 (p.2.1.toNat * 2 ^ 32 + p.2.2.1.toNat)
    let w3 := p.2.2.2.1.toNat
    insertEntry { newEntry p.1 uid DECLARED true with
      owner := p.2.2.2.2, route := w3 / 2 ^ 24 % 16,
      chanPresent := BitVec.ofNat 8 (w3 / 65536), chanSigned := BitVec.ofNat 8 (w3 / 256) } l) []

end Sys2Proof.Machine
end

