-- ==== Sys2Proof/Machine/Services.lean ====
section
/-!
DEFINITION. Sys2Proof/Machine/Services.lean: services, their Timetable entries and the checks of a definition (02 R55 to R57,
05 R167, R172, R173, 06 R199, 07 R218, R220, 08 R237, 12 R347, R359, R360).
-/
namespace Sys2Proof.Machine

/-! ## Routes (03 R81 to R83) -/

def weightAmp (w : Word) : Nat := w.toNat / 64 % 1024
def weightPhase (w : Word) : Nat := w.toNat % 64

def routeWeight (s : State) (r l : Nat) : Word := liveParam s (routeId r l)

/-- Members driven by a block: tx_amp above 0 (R83). -/
def drivenMembers (s : State) (r : Nat) : BitVec 24 :=
  (linesOf (routeMembers s r)).foldl (fun m l => if weightAmp (routeWeight s r l) = 0 then m else m ||| (1 <<< l)) 0

/-- Lines with a fault (R95). -/
def faultedLines (s : State) : BitVec 24 :=
  (List.range 24).foldl (fun m l => if (getLine s l).fault = 0 then m else m ||| (1 <<< l)) 0

/-- route[r].state (R81): 0 empty, 1 ready, 2 unavailable. -/
def routeState (s : State) (r : Nat) : Nat :=
  if routeMembers s r = 0 then 0 else if routeMembers s r &&& faultedLines s = 0 then 1 else 2

/-- Carrier divider of a route: that of its members, which share one (R75). -/
def routeDiv (s : State) (r : Nat) : Nat :=
  match linesOf (routeMembers s r) with
  | [] => 256
  | l :: _ => linePar s l 1

/-! ## Spans in cyc (04 R110, R117; 05 R167, R172; 06 R199) -/

/-- Bit length of an uplink rate in cyc (R117). -/
def bitLen (slow : Bool) : Nat := if slow then 32 else 16

/-- Worst case of a command of `n` bits and its reply of `m` bits (R172). -/
def opCost (n m b : Nat) : Nat := 84 + 28 * n + 150 + m * b

/-- Worst case of INV_ASSIGN and its ACK: a frame of 58 bits (R172, R199). -/
def assignCost (b : Nat) : Nat := 1708 + 150 + 84 * b

/-- node_cost(p) of R167. -/
def nodeCost (p b : Nat) : Nat := 84 + 28 * (36 + p) + 150 + (68 - p) * b + 2 * assignCost b

/-- Bits set in the low `n` bits. -/
def popBelow (v n : Nat) : Nat := (List.range n).countP fun k => v.testBit k

/-- Channels of a MEASURE. -/
def svcChmask (s : State) (n : Nat) : Nat := svcPar s n 12 / 2 ^ 24
def svcReadFirst (s : State) (n : Nat) : Nat := svcPar s n 13 % 65536
def svcReadCount (s : State) (n : Nat) : Nat := svcPar s n 13 / 65536 % 16
def svcMeasCount (s : State) (n : Nat) : Nat := svcPar s n 13 / 2 ^ 20 % 64
def svcHandle (s : State) (n : Nat) : Nat := svcPar s n 12 % 4096
def svcPassMode (s : State) (n : Nat) : Bool := (svcPar s n 12).testBit 12
def svcReadSlow (s : State) (n : Nat) : Bool := (svcPar s n 12).testBit 13

/-- Whether the exchange sends a MEASURE (R360, 04 R138). -/
def svcMeasures (s : State) (n : Nat) : Bool := svcMeasCount s n ≠ 0 && svcChmask s n ≠ 0

/-- Bits of the MEASURE reply of a service (04 R136): its samples are padded to whole bytes. -/
def measureReply (s : State) (n : Nat) : Nat := 28 + 8 * ceilDiv (10 * (svcMeasCount s n * popBelow (svcChmask s n) 8)) 8

/-- read_span of R172. -/
def readSpan (s : State) (n : Nat) : Nat :=
  let b := bitLen (svcReadSlow s n)
  assignCost b + (if svcReadCount s n = 0 then 0 else opCost 64 (28 + 32 * svcReadCount s n) b) +
    (if svcMeasures s n then opCost 56 (measureReply s n) b else 0) + 8

/-- The coupling sequence of R199 at the rate the service sets. -/
def hitchSpan (slow offer : Bool) : Nat :=
  let b := bitLen slow
  308 + opCost 36 68 b + assignCost b + opCost 72 84 b + opCost 57 28 b + opCost 64 284 b + opCost 40 60 b +
    (if offer then opCost 344 324 b else 0) + 8

/-! ## The checks of SVC_DEFINE (12 R347) -/

/-- Fields of cfg_a and cfg_b that R360 does not show are 0. -/
def cfgReserved (s : State) (n : Nat) : Bool :=
  let a := liveParam s (svcId n 12)
  let b := liveParam s (svcId n 13)
  match svcPar s n 0 with
  | 4 => a &&& 0xFFFFFFE0 == 0 && b == 0
  | 5 => a &&& 0x00FFC000 == 0 && (svcPassMode s n || b &&& 0xFC000000 == 0)
  | 6 => a &&& 0xFFFC0000 == 0 && b == 0
  | _ => a == 0 && b == 0

/-- READ range and MEASURE product of an exchange ROSTER_READ (R172, R360). -/
def readAllowed (s : State) (n : Nat) : Bool :=
  let cnt := svcReadCount s n
  let m := svcMeasCount s n
  let desc := ((findEntry s (svcHandle s n)).map fun e => e.desc).getD 0
  let lastPage := (svcReadFirst s n + cnt - 1) / 4
  cnt ≤ 8 && m ≤ 32 && m * popBelow (svcChmask s n) 8 ≤ 32 &&
  !(cnt ≠ 0 && descReadProtect desc && descAuthFrom desc < descSize desc && descAuthFrom desc ≤ lastPage)

/-- Type-specific checks of R347. -/
def typeAllowed (s : State) (n : Nat) : Bool :=
  let span := svcPar s n 7
  let a := svcPar s n 12
  match svcPar s n 0 with
  | 1 => 312 ≤ span
  | 2 => 308 + 72 * popBelow (drivenMembers s (svcPar s n 1)).toNat 24 ≤ span
  | 3 => 5282 ≤ span
  | 4 => nodeCost 0 (bitLen (a.testBit 4)) + 8 ≤ span
  | 5 => (findEntry s (svcHandle s n)).isSome && (if svcPassMode s n then 96 ≤ span else readAllowed s n && readSpan s n ≤ span)
  | 6 => a / 256 % 256 ≠ 0 && hitchSpan (a.testBit 17) (a.testBit 16) ≤ span
  | _ => false

/-- Entries now on the Timetable of a source (R56). -/
def sourceEntries (s : State) (src : Nat) : Nat :=
  (((definedSvcs s).filter fun v => svcPar s v 3 == src).map (entryCount s)).sum

/-- The first check of R347 that fails, ST_OK where none does. -/
def defineStatus (s : State) (n : Nat) : Nat :=
  if (findSvc s n).any fun v => v.defined then ST_SVC_BUSY
  else if svcPar s n 0 = 0 || (getRing s (svcPar s n 2)).size = 0 ||
      !(svcPar s n 5 = 0 || svcPar s n 6 ≤ svcPar s n 5) || !cfgReserved s n || !typeAllowed s n then ST_BAD_ARG
  else if 1024 < sourceEntries s (svcPar s n 3) + entryCount s n then ST_TT_FULL
  else ST_OK

/-- A service as it stands when defined. -/
def freshSvc (n : Nat) : Svc :=
  { n := n, defined := true, deferrals := 0, drops := 0, deferred := false, started := false, crossings := 0, demands := [],
    sweep := none, hitched := none, fails := 0, tagStatus := 0, crossed := 0, byWalk := false, chain := none }

/-- Services in instance order. -/
def insertSvc (v : Svc) : List Svc → List Svc
  | [] => [v]
  | x :: xs => if v.n < x.n then v :: x :: xs else if v.n = x.n then v :: xs else x :: insertSvc v xs

/-- Define a service whose checks pass (R347); counters of an earlier definition stand, and its entries are those ahead of where its source
is. -/
def defineSvc (n : Nat) (s : State) : State :=
  let old := findSvc s n
  let v := { freshSvc n with deferrals := (old.map (·.deferrals)).getD 0, drops := (old.map (·.drops)).getD 0,
                             crossed := counts (getSrc s (svcPar s n 3)) }
  modSched (fun d => { d with svcs := insertSvc v d.svcs }) s

/-- Define every service whose saved type is not 0, in instance order; one that fails stays undefined (R343). -/
def defineSaved (s : State) : State :=
  (List.range 256).foldl (fun s n => if svcPar s n 0 ≠ 0 && defineStatus s n == ST_OK then defineSvc n s else s) s

/-! ## Entries as DIAG_TT_READ shows them (R57) -/

structure TtEntry where
  start : Nat
  svc : Nat
  opp : Nat
  deriving DecidableEq, Repr

/-- Place an entry by start angle (R57). Of entries with one start angle the rule gives no order: the model takes service, then index (DESIGN
CHOICE, assumption log 15). -/
def insertTt (e : TtEntry) : List TtEntry → List TtEntry
  | [] => [e]
  | x :: xs =>
    if e.start < x.start ∨ (e.start = x.start ∧ (e.svc < x.svc ∨ (e.svc = x.svc ∧ e.opp < x.opp))) then e :: x :: xs
    else x :: insertTt e xs

/-- The Timetable of a source (R55, R57); empty in FAILED (16 R449). -/
def timetable (s : State) (src : Nat) : List TtEntry :=
  if s.dev.failed then []
  else (((definedSvcs s).filter fun v => svcPar s v 3 == src).flatMap fun v =>
    (List.range (entryCount s v)).map fun k => { start := entryAngle s v k, svc := v, opp := k }).foldr insertTt []

def ttWords (s : State) (e : TtEntry) : List Word :=
  [BitVec.ofNat 32 (e.start + svcPar s e.svc 1 * 65536 + e.svc * 2 ^ 20 + 2 ^ 31),
   BitVec.ofNat 32 (svcPar s e.svc 7 + e.opp * 65536)]

/-! ## Due services (12 R359) -/

/-- Due at an entry of its own: by trigger, interval, demand, deferral or an unfinished sweep. -/
def svcDue (s : State) (v : Svc) : Bool :=
  v.defined && (svcPar s v.n 9 == 0 ||
    (svcPar s v.n 9 == 1 && svcPar s v.n 10 ≠ 0 && (!v.started || svcPar s v.n 10 ≤ v.crossings)) ||
    !v.demands.isEmpty || v.deferred || v.sweep.isSome)

/-- A service is deferred (R28, R60, R61). -/
def deferSvc (svc : Nat) (s : State) : State :=
  modSvc svc (fun v => { v with deferrals := min 16383 (v.deferrals + 1), deferred := true }) s

/-- svc[n].status (R359). -/
def svcStatus (s : State) (n : Nat) : Nat :=
  match findSvc s n with
  | none => 0
  | some v =>
    (if !v.defined then 0 else if s.sched.blocks.any fun b => b.svc == n then 3 else if svcDue s v then 2 else 1) +
      4 * v.deferrals + 65536 * v.drops

/-! ## Index edges (R43, R60) -/

/-- Whether a forward move from `p` to `q` passes an angle: from below it to it or beyond, or wraps past it (R59). -/
def passesAngle (p q : Int) (angle : Nat) : Bool := nextAt (p / 65536 + 1) angle ≤ q / 65536

/-- Entries of a source that a forward move passes, by service. -/
def passedEntries (s : State) (n : Nat) (p q : Int) : List Nat :=
  ((definedSvcs s).filter fun v => svcPar s v 3 == n).flatMap fun v =>
    ((List.range (entryCount s v)).filter fun k => passesAngle p q (entryAngle s v k)).map fun _ => v

/-- A sync jump passes over entries (R60): tt_skip, and a deferral of each service that was due at one; none of them is crossed. -/
def jumpOver (n : Nat) (p q : Int) (s : State) : State :=
  let passed := passedEntries s n p q
  let s := if passed.isEmpty then s
    else raise 0x17F (2 ^ (8 + n)) (modTb (fun t => { t with ttSkip := t.ttSkip ||| (1 <<< n) }) s)
  let s := passed.foldl (fun s v => if (findSvc s v).any fun x => svcDue s x then deferSvc v s else s) s
  skipEntries n s

/-- ANGLE_EDGE (R39): the edge acts once the filter has passed it. Only a quadrature source has edges of ANGn_B (R38), and they do not count
towards a wake (13 R366). The source's new speed may complete a release decision (07 R228). -/
def execAngleEdge (src : Nat) (edge : PinEdge) (forward : Bool) (dated : Nat) (s : State) : Host.Outcome State Fault Refusal :=
  let s := advanceTo (dated + filterClocks s src) s
  let a := getSrc s src
  let counted := countsEdge s src a.kind edge.rises
  if !(src < 4 && a.en && 1 ≤ a.kind && a.kind ≤ 3) || (edge.onB && a.kind != 1) then .next s
  else
    let s := if edge.onB then s else modSrc src (recordWakeEdge (s.dev.mode == .stabled) counted dated) s
    if !(timebaseRuns s && counted) then .next s
    else
      let s := actSrc src (countEdge s src dated forward) (tickEdges src s)
      .next (speedDecides src (if !a.synced && (getSrc s src).synced then skipEntries src s else retreat src s))

/-- ANGLE_STALL (R44): stall_ms have passed since the last edge, or since the source started (or came out of STABLED) where it has seen none
(DEDUCED, assumption log 13); the accumulator holds and a tooth wheel loses sync. -/
def execAngleStall (src : Nat) (s : State) : Host.Outcome State Fault Refusal :=
  let a := getSrc s src
  let ms := anglePar s src 5
  if !(src < 4 && a.en && 1 ≤ a.kind && a.kind ≤ 3 && timebaseRuns s) || ms = 0 then .next s
  else
    let s := advanceTo (a.lastEdge.getD a.startClk + clkMs ms) s
    .next (speedDecides src (actSrc src (fun a =>
      let b := { a with stalled := true, interval := 0 }
      if a.kind = 2 then loseSync b else b) s))

/-- ANGLE_INDEX_EDGE (R43; R42 for missing_teeth 0): the rising edge on a quadrature source, on a tooth wheel the edge of the polarity that
it counts. -/
def execAngleIndexEdge (src : Nat) (rising : Bool) (dated : Nat) (s : State) : Host.Outcome State Fault Refusal :=
  let s := advanceTo (dated + filterClocks s src) s
  let a := getSrc s src
  if !(src < 4 && a.en && timebaseRuns s) then .next s
  else if a.kind = 1 ∧ rising then
    let s1 := actSrc src (quadratureIndex s src dated) s
    if indexJumps s src dated a then .next (jumpOver src a.pos (getSrc s1 src).pos s1)
    else .next (if a.synced then s1 else skipEntries src s1)
  else if a.kind = 2 ∧ anglePar s src 2 = 0 ∧ countsEdge s src 2 rising then
    .next (modSrc src (fun a => { a with indexPending := true }) s)
  else .next s

end Sys2Proof.Machine
end

