-- ==== Sys2Proof/Machine/Image.lean ====
section
/-!
DEFINITION. Sys2Proof/Machine/Image.lean: images, banks, the boot record and settings areas (15 R418 to R434), and what an
update has in hand (R422).
-/
namespace Sys2Proof.Machine

/-! ## Header blobs (R418) -/

def hdrNat (blob : List Byte) (off n : Nat) : Nat := leNat ((blob.drop off).take n)

def hdrImageId (blob : List Byte) : List Byte := (blob.drop 8).take 8
def hdrRelease (blob : List Byte) : Nat := if blob.isEmpty then 0x0401 else hdrNat blob 20 2
def hdrBuild (blob : List Byte) : Nat := if blob.isEmpty then Config.firmwareBuild.toNat else hdrNat blob 22 2
def hdrSecver (blob : List Byte) : Nat := hdrNat blob 24 4
def hdrSettings (blob : List Byte) : Nat := hdrNat blob 28 2
def hdrOldest (blob : List Byte) : Nat := hdrNat blob 30 2
def hdrPieces (blob : List Byte) : Nat := hdrNat blob 32 2
def hdrLast (blob : List Byte) : Nat := hdrNat blob 34 2
def hdrFlags (blob : List Byte) : Nat := hdrNat blob 40 2
def hdrManifest (blob : List Byte) : List Byte := (blob.drop 128).take 64

/-- Image ID as a number, its bytes least significant first (R418). -/
def imageIdNat (blob : List Byte) : Nat := leNat (hdrImageId blob)

/-- Plaintext length of piece `i` (R419). -/
def pieceLen (blob : List Byte) (i : Nat) : Nat := if i + 1 = hdrPieces blob then hdrLast blob else 4096

/-! ## Banks and boot records (R423, R426) -/

def getBank (s : State) (b : Bool) : Bank := if b then s.nv.bankB else s.nv.bankA

def modBank (b : Bool) (f : Bank → Bank) (s : State) : State :=
  modNv (fun n => if b then { n with bankB := f n.bankB } else { n with bankA := f n.bankA }) s

/-- The running bank and the other. -/
def runBank (s : State) : Bank := getBank s s.upd.bank
def idleBank (s : State) : Bank := getBank s !s.upd.bank

/-- Body of a bank: its pieces in order. -/
def bankBody (b : Bank) : List Byte :=
  (List.range (hdrPieces b.blob)).flatMap fun i => ((b.pieces.find? fun p => p.1 == i).map fun p => p.2).getD []

/-- The body matches the manifest of the stored header blob (R424, R429). -/
def bodyMatches (b : Bank) : Bool := sha384 (bankBody b) == (hdrManifest b.blob).take 48

/-- Boot check of a bank (R429): its body matches its manifest. `good` stands for that of a body which has been found to match and not been
written since, and of the one from production, whose bytes the spec does not give. -/
def bankPasses (s : State) (b : Bool) : Bool := ((getBank s b).good || bodyMatches (getBank s b)) && secver s ≤ hdrSecver (getBank s b).blob

/-- The governing boot record: the higher sequence number (R426). -/
def bootRecord (s : State) : BootRec := if s.nv.boot0.seq < s.nv.boot1.seq then s.nv.boot1 else s.nv.boot0

/-- The nonce of a boot record or settings area, a data flash record under R300 (10 R300: purpose 0x30). -/
def flashNonce (s : State) : List Byte := nonceHead s ++ [0x30]

/-- A record has been encrypted under that nonce: an AES job (10 R293) and the next value of the per-boot counter. -/
def drawFlash (s : State) : State := bumpNonce (aesJob s)

/-- Write a boot record at the other place (R426). -/
def writeBoot (bank trial : Bool) (count : Nat) (previous : Bool) (s : State) : State :=
  let r : BootRec := { bank := bank, trial := trial, count := count, previous := previous,
                       imageId := BitVec.ofNat 64 (imageIdNat (getBank s bank).blob), seq := (bootRecord s).seq + 1, nonce := flashNonce s }
  drawFlash (modNv (fun n => if n.boot0.seq < n.boot1.seq then { n with boot0 := r } else { n with boot1 := r }) s)

/-! ## Stages (R422) -/

def IDLE : Nat := 0
def RECEIVING : Nat := 1
def RECEIVED : Nat := 2
def VERIFYING : Nat := 3
def VERIFIED : Nat := 4
def TRIAL : Nat := 5
def REVERTED : Nat := 6

def setStage (st : Nat) (s : State) : State := modNv (fun n => { n with updStage := st }) s

/-- The image in hand: the one received, or, in TRIAL, the one running (R422). -/
def handBlob (s : State) : List Byte :=
  if s.nv.updStage = IDLE then [] else if s.nv.updStage = TRIAL then (runBank s).blob else (idleBank s).blob

/-- Pieces of the image in hand not yet written (R423, R441). -/
def piecesMissing (s : State) : Nat := hdrPieces (handBlob s) - s.nv.bitmap.length

/-- UPD_STAGE (R440). -/
def postStage (s : State) : State :=
  postEvent 0x8301 (payload [s.nv.updStage, 0] ++ leBytes 2 (piecesMissing s) ++ leBytes 4 (imageIdNat (handBlob s))) s

/-- The outcome of the body check (R424). -/
def verifyBody (s : State) : State × Nat :=
  if bodyMatches (idleBank s) then (modBank (!s.upd.bank) (fun b => { b with good := true }) (setStage VERIFIED s), ST_OK)
  else (setStage RECEIVING (modNv (fun n => { n with bitmap := [] }) (modBank (!s.upd.bank) (fun b => { b with good := false }) s)), 0x0804)

/-! ## Settings (R432 to R434; 12 R343) -/

def getArea (s : State) (b : Bool) : Area := if b then s.nv.areaB else s.nv.areaA

def modArea (b : Bool) (f : Area → Area) (s : State) : State :=
  modNv (fun n => if b then { n with areaB := f n.areaB } else { n with areaA := f n.areaA }) s

/-- Saved items that are read-write items of this release. -/
def keepItems (items : Cells) : Cells :=
  items.filter fun e => match paramKind e.1 with
    | .rw .. => true
    | _ => false

/-- Saved items taken as reset values (R343). -/
def loadItems (items : Cells) (s : State) : State := items.foldl (fun s e => setLive e.1 e.2 s) s

/-- Items of another version converted by the image's own table (R433): none where a value cannot be brought inside its range. -/
def convertItems : Cells → Option Cells
  | [] => some []
  | (id, v) :: rest =>
    match Config.migrateItem id v, convertItems rest with
    | some w, some r => some ((id, w) :: r)
    | _, _ => none

/-- The items of the other area in this image's form (R433): those it no longer holds are dropped, those of its own version are copied. -/
def migrated (sameVersion : Bool) (items : Cells) : Option Cells :=
  if sameVersion then some (keepItems items) else (convertItems (keepItems items)).map keepItems

end Sys2Proof.Machine
end

