-- ==== Sys2Proof/Machine/Stream.lean ====
section
/-!
DEFINITION. Sys2Proof/Machine/Stream.lean: the stream of an image as it travels: header blob, then pieces (15 R419, R436).
-/
namespace Sys2Proof.Machine

/-- Slot of the piece key an image names (R418). -/
def pieceSlot (blob : List Byte) : Nat := if (hdrFlags blob).testBit 1 then 2 else 1

/-- Nonce and associated data of piece `i` (R419). -/
def pieceNonce (blob : List Byte) (i : Nat) : List Byte := hdrImageId blob ++ [(0 : Byte)] ++ beBytes 2 i ++ beBytes 2 0
def pieceAd (i : Nat) : List Byte := beBytes 2 i

/-- Piece `i` of an image as it travels. -/
def sealPiece (s : State) (blob plain : List Byte) (i : Nat) : List Byte :=
  ccmSeal ((pieceKey s (pieceSlot blob) (hdrImageId blob)).getD []) (pieceNonce blob i) (pieceAd i) plain 16

/-- Plaintext of a piece as received, where its tag matches under a piece key. -/
def openPiece (key blob : List Byte) (i : Nat) (bs : List Byte) : Option (List Byte) :=
  ccmOpen key (pieceNonce blob i) (pieceAd i) (bs.take (bs.length - 16)) (bs.drop (bs.length - 16))

/-- Length of a stream (R436). -/
def streamLen (blob : List Byte) : Nat :=
  blob.length + 4112 * (hdrPieces blob - 1) + hdrLast blob + 16

/-- `n` bytes of the running image's stream from an offset; they never run past the blob, a piece or the end. -/
def streamBytes (s : State) (off n : Nat) : List Byte :=
  let b := runBank s
  if off < b.blob.length then (b.blob.drop off).take n
  else
    let i := (off - b.blob.length) / 4112
    let plain := ((b.pieces.find? fun p => p.1 == i).map fun p => p.2).getD []
    ((sealPiece s b.blob plain i).drop ((off - b.blob.length) % 4112)).take n

/-- The running image may be offered (R435): confirmed, with a header that allows forwarding. -/
def mayOffer (s : State) : Bool := !s.upd.unconfirmed && (hdrFlags (runBank s).blob).testBit 2

/-- OFFER payload (R436). -/
def offerPayload (s : State) : List Byte :=
  let b := (runBank s).blob
  hdrImageId b ++ leBytes 2 (hdrRelease b) ++ leBytes 2 (hdrBuild b) ++ leBytes 4 (hdrSecver b) ++ leBytes 2 (hdrSettings b) ++
    leBytes 2 (hdrPieces b) ++ leBytes 4 (hdrNat b 36 4) ++ zeros 8

def OP_OFFER : Nat := 1
def OP_DATA : Nat := 2
def OP_STATUS : Nat := 3
def OP_WITHDRAW : Nat := 4

/-- Length of an operation's reply payload (R436). -/
def chainReplyLen (op : Nat) : Nat := if op = OP_DATA then 8 else if op = OP_WITHDRAW then 4 else 16

end Sys2Proof.Machine
end

