-- ==== Sys2Proof/Machine/ChainSource.lean ====
section
/-!
DEFINITION. Sys2Proof/Machine/ChainSource.lean: the source of a firmware chain on the vehicle bus (15 R435 to R437).
-/
namespace Sys2Proof.Machine

/-- A chain operation as a Proprietary A message (R436). -/
def chainMessage (op : Nat) (pl : List Byte) : List Byte := [(0xB1 : Byte), 0x01, BitVec.ofNat 8 op, 0] ++ pl

/-- The device sends chain operations over the bus: in mode 0, with an address, and not listening only. -/
def chainMaySend (s : State) : Bool := busTalks s && busMode s == 0 && s.bus.addr != 254

def sendChain (dest op : Nat) (pl : List Byte) (s : State) : State :=
  if chainMaySend s then sendMessage none 6 PGN_PROP_A dest (chainMessage op pl) s else s

/-- The source offers its running image to an address. -/
def offerChain (dest : Nat) (s : State) : State := sendChain dest OP_OFFER (offerPayload s) (modUpd (fun u => { u with chainRole := 1 }) s)

/-- DATA from an offset, as much as one message of 4,112 bytes and the present unit hold; nothing past the end of the stream. -/
def dataTo (dest off : Nat) (s : State) : State :=
  if streamLen (runBank s).blob ≤ off || !mayOffer s then modUpd (fun u => { u with chainRole := if u.chainRole = 1 then 0 else u.chainRole }) s
  else
    let bs := streamBytes s off 4112
    let s := modUpd (fun u => { u with chainRole := 1, chainBytes := u.chainBytes + BitVec.ofNat 32 bs.length }) s
    sendChain dest OP_DATA (leBytes 4 off ++ bs) s

/-- CHAIN_OFFER_TIMER (R435): every chain_offer_s, to chain_bus_peer. -/
def execChainOfferTimer (s : State) : Host.Outcome State Fault Refusal :=
  if !isRunning s then .next s
  else
    let s := advanceTo (s.upd.offerClk + clkS (par s (updId 4))) s
    let s := modUpd (fun u => { u with offerClk := s.clk }) s
    if par s (updId 2) = 1 ∧ par s (updId 3) < 254 ∧ mayOffer s then .next (offerChain (par s (updId 3)) s) else .next s

/-- A reply of a target on the bus (R436): an accepted offer, or the next offset after DATA. -/
def chainReply (src op : Nat) (pl : List Byte) (s : State) : State :=
  if s.upd.chainRole ≠ 1 then s
  else if op = OP_OFFER + 0x80 then (if pl.headD 1 = 0 then dataTo src (leNat ((pl.drop 4).take 4)) s else s)
  else if op = OP_DATA + 0x80 then dataTo src (leNat (pl.take 4)) s
  else s

end Sys2Proof.Machine
end

