-- ==== Sys2Proof/Machine/Numeric.lean ====
section
/-!
DEFINITION. Sys2Proof/Machine/Numeric.lean: square root, logarithm and exponential in fixed point, for the measured
quantities whose rounding the spec leaves open (03 R99, 05 R173, 08 R241 to R249, 13 R373). Values are in units of 2^-32
unless said otherwise; results are rounded to the nearest unit (DESIGN CHOICE, assumption log 7).
-/
namespace Sys2Proof.Machine

/-- Integer square root by bits, from bit `k` down. -/
def isqrtFrom : Nat → Nat → Nat → Nat
  | 0, r, _ => r
  | k + 1, r, n => let c := r + 2 ^ k; if c * c ≤ n then isqrtFrom k c n else isqrtFrom k r n

/-- Integer square root, rounded down, of a number below 2^256. -/
def isqrt (n : Nat) : Nat := isqrtFrom 128 0 n

/-- `a / b` rounded to the nearest integer, halves up. -/
def divRound (a : Int) (b : Nat) : Int := (2 * a + b) / (2 * b : Nat)

/-- Fraction bits of a base-2 logarithm by repeated squaring; `m` in [2^32, 2^33). -/
def log2Frac : Nat → Nat → Nat
  | 0, _ => 0
  | k + 1, m =>
    let q := m * m / 2 ^ 32
    if 2 ^ 33 ≤ q then 2 ^ k + log2Frac k (q / 2) else log2Frac k q

/-- log2 of a positive number. -/
def log2Q (n : Nat) : Nat := let e := Nat.log2 n; e * 2 ^ 32 + log2Frac 32 (n * 2 ^ 32 / 2 ^ e)

/-- 2^x for x in [0, 1): bit by bit with successive square roots of 2. -/
def exp2Frac : Nat → Nat → Nat → Nat → Nat
  | 0, _, _, acc => acc
  | k + 1, root, x, acc => exp2Frac k (isqrt (root * 2 ^ 32)) x (if x.testBit k then acc * root / 2 ^ 32 else acc)

/-- 2^x for an x that may be negative. -/
def exp2Q (x : Int) : Nat :=
  let e := x / 2 ^ 32
  let m := exp2Frac 32 6074001000 (x % 2 ^ 32).toNat (2 ^ 32)
  if 0 ≤ e then m * 2 ^ e.toNat else m / 2 ^ (-e).toNat

/-- log2 10. -/
def log2Of10 : Int := 14267572527

/-- e^(-n/d). -/
def expNeg (n d : Nat) : Nat :=
  if 40 * d ≤ n then 0
  else
    let x := n * 2 ^ 48 / (d * 2 ^ 16)
    let y := 2 ^ 48 - x + x * x / 2 ^ 49 - x * x / 2 ^ 48 * x / (6 * 2 ^ 48)
    (List.range 16).foldl (fun v _ => v * v / 2 ^ 48) y / 2 ^ 16

end Sys2Proof.Machine
end

