-- ==== Sys2Proof/Machine/Reset.lean ====
section
/-!
DEFINITION. Sys2Proof/Machine/Reset.lean: entry to FAILED (16 R445, R447; 01 R28, R34), reset with its wipe (01 R36, 11
R319) and the lifecycle transitions (10 R305, R306).
-/
namespace Sys2Proof.Machine

/-- The radio is powered off, and what it had in hand or before it is gone (09 R261). -/
def radioOff (s : State) : State :=
  modRadio (fun r => { r with on := false, state := 0, locked := false, wants := [], queue := [], coexReq := false, coexPrio := false,
                              paOn := false, listen := [], preamble := false, calRunning := false, calSlice := 0, calRound := 0,
                              silent := [], lostSlot := none, cutUs := 0, cwEnd := none }) s

/-- Blocks, candidates and the radio stop at once (R447 step 1, R28). -/
def stopWork (s : State) : State :=
  let s := modSched (fun d => { d with blocks := [], cands := [], results := [] }) s
  let s := modProx (fun p => { p with seqs := [] }) s
  let s := modIsl (fun i => { i with writing := [] }) s
  modSec (fun x => { x with jobs := [], flash := [], awaiting := [] }) (radioOff s)

/-- Every descriptor held completes with ST_DEVICE_FAILED (11 R332). -/
def failHeld (s : State) : State :=
  modPort (fun p => { p with quarantine := [] })
    (completeWhere (fun _ => true) ST_DEVICE_FAILED 0 0 0 (modTwin (fun t => { t with withheld := [] }) s))

/-- The patrol among the activities of R354. -/
def PATROL : Nat := 1

/-- The position a running patrol saved last: it saves every 64 pages (R453). -/
def patrolAt (s : State) : Word := BitVec.ofNat 32 (64 * Config.patrolSaves s.clk)

/-- A patrol is cut off (R453): its position is the one it saved last, and a code sector that it was rewriting is left in the refresh buffer. How
far it had come, no command tells: free values. -/
def patrolCut (s : State) : State :=
  if isRunning s ∧ s.mnt.running = PATROL then
    modNv (fun n => { n with patrolPos := patrolAt s, refreshBuffer := Config.refreshUnderWay s.clk }) s
  else s

/-- A device fault (R445, R447). In boot it makes the device FAILED as boot ends; a device already FAILED keeps its first
code; without power there is none. A sleeping device wakes to serve RING0. -/
def failDevice (code arg : Nat) (s : State) : State :=
  match s.dev.mode with
  | .off => s
  | .held => s
  | .boot => modDev (fun d => { d with bootFault := d.bootFault <|> some (code, arg) }) s
  | _ =>
    if s.dev.failed then s
    else
      let s := patrolCut (modPwr (fun p => { p with stabledClk := stabledNow s }) (locksStatic (stopWork s)))
      let s := modDev (fun d => { d with failed := true, faultCode := BitVec.ofNat 16 code, faultArg := BitVec.ofNat 16 arg,
                                         mode := .run, ready := true }) s
      let s := sendTwinUp (.failed (BitVec.ofNat 16 code) (BitVec.ofNat 16 arg)) s
      let s := modTwin (fun t => { t with pairing := none, pairStep := 0 }) s
      let s := modMnt (fun m => { m with running := 0, queue := [], sweepLeft := [] }) s
      let s := modBus (fun b => { b with tx := [], sess := [] }) s
      logFault code arg (failHeld s)

/-- A job names a corrupt slot (10 R286): it is told on RING3, and slot 0 or 1 is a device fault (16 R445). -/
def corruptSlot (slot : Nat) (s : State) : State :=
  let s := postEvent 0x8040 (payload [slot]) s
  if slot < 2 then failDevice 0x0004 slot s else s

/-- An access job finds no key in slot 4. -/
def tellKey (status : Nat) (s : State) : State := if status = ST_KEY_CORRUPT then corruptSlot 4 s else s

/-- The island keeps running on field power through a reset of the device; the staged host writes are wiped (R36) and its
counters since reset restart. Whether an enrolment that waits for the session to close (10 R291) survives, the spec does not say: it does
(DESIGN CHOICE, assumption log 21). -/
def islandAfterReset (i : Island) : Island :=
  { i with staged := [], applying := false, writing := [], sessions := 0, torn := 0, refused := 0, fieldLevel := 0, sessionsDue := [] }

/-- A reset (R36, R317, R319, R449): processor SRAM, window, engine contexts and staging are wiped, every output is static,
RESET_CAUSE takes its bits, bit 5 with them where the device was FAILED; boot begins. The island keeps its own parameters until boot
loads the saved ones (06 R185; assumption log 21). -/
def resetDevice (causes : Nat) (s : State) : State :=
  let s := patrolCut s
  { State.reset with
    pending := s.pending
    clk := s.clk
    free := s.free
    nv := s.nv
    par := s.par.filter fun e => e.1 / 2048 == 11
    isl := islandAfterReset s.isl
    -- COEX_GRANT is an input: its level is what it was (09 R267, 17 R460)
    radio := { Radio.reset with grant := s.radio.grant }
    keys := s.nv.keyTab.map Key.reset
    dev := { Dev.reset with
      resetCause := BitVec.ofNat 7 (causes + if s.dev.failed then 32 else 0), bootClk := s.clk, part := s.dev.part,
      defects := s.dev.defects, vbatMv := s.dev.vbatMv, vioMv := s.dev.vioMv, vio33 := s.dev.vio33, sensors := s.dev.sensors, echo := s.dev.echo,
      elapsedBase := elapsedNow s, opBase := opNow s } }

/-- RESET_CAUSE bits (R317). -/
def causePowerOn : Nat := 1
def causeRstN : Nat := 2
def causeHost : Nat := 4
def causeWatchdog : Nat := 8
def causeLifecycle : Nat := 16
def causeTakeover : Nat := 64

/-- What the transition to RETURNED destroys (10 R305). -/
def destroyReturned (s : State) : State :=
  let s := modNv (fun n => { n with
    slots := n.slots.filter fun r => r.1 < 2, generations := n.generations.map fun g =>
      if n.slots.any fun r => r.1 == g.1 && 2 ≤ g.1 then (g.1, g.2 + 1) else g,
    keyTab := List.replicate 32 KeyNv.empty, pinned := [], returnEpoch := n.returnEpoch + 1,
    mctr := n.mctr.filter fun e => e.n < 16 || 64 ≤ e.n, pair := none, received := [], lastActive := false }) s
  modIsl (fun i => { i with keyCell := [], enrolWait := none }) s

/-- Steps 2 and 3 of a lifecycle transition (R306). -/
def applyTransition (target : Nat) (s : State) : State :=
  let s := if target = lcReturned then destroyReturned s else s
  modNv (fun n => { n with lifecycle := target, intent := none }) s

/-- A lifecycle transition (R305, R306): it wipes and resets. -/
def transition (target : Nat) (s : State) : State :=
  resetDevice causeLifecycle (applyTransition target (modNv (fun n => { n with intent := some target }) (locksStatic s)))

/-- A watchdog reset (16 R448): logged, counted, and the device resets. -/
def watchdogReset (code arg : Nat) (s : State) : State :=
  resetDevice causeWatchdog (modNv (fun n => { n with wdResets := n.wdResets + 1 }) (logFault code arg s))

end Sys2Proof.Machine
end

