-- ==== Sys2Proof/Machine/ParamOps.lean ====
section
/-!
DEFINITION. Sys2Proof/Machine/ParamOps.lean: reading and writing a parameter (12 R342, R347; 02 R37, R48; 03 R74 to R76, R81
to R84, R96; 07 R227; 09 R260; 14 R404), with the values of the read-only items.
-/
namespace Sys2Proof.Machine

/-! ## Read-only items -/

def w (n : Nat) : Word := BitVec.ofNat 32 n

/-- An item 0 to 5 of the power class as the ledger works with it (13 R381). -/
def pwrConf (s : State) (i : Nat) : Nat := s.pwr.conf.getD i 0

/-- A power item of 6 to 9 as the last PWR_SLEEP took it (R381). -/
def sleepItem (s : State) (i : Nat) : Nat := s.pwr.sleepConf.getD (i - 6) 0

/-- The ledger takes those items as they stand. -/
def takePwrConf (s : State) : State := modPwr (fun p => { p with conf := (List.range 6).map fun i => par s (pwrId i) }) s

/-- pwr.budget_mw (13 R375): the largest load that keeps both tests, in mW rounded down; 0 until the first ledger step. -/
def budgetMw (s : State) : Nat :=
  if !s.pwr.stepped then 0
  else min (pwrConf s 2) (((pwrConf s 0 : Int) * 10000000 - s.pwr.taEst) / (pwrConf s 1 * 1000 : Nat)).toNat

/-- Ta_est in 0.1 °C. -/
def taEstDeci (s : State) : Int := s.pwr.taEst / 1000000

def sysRead (s : State) : Nat → Word
  | 1 => s.dev.bootTests.setWidth 32
  | 2 => w s.dev.lastTest
  | 3 => s.dev.testsRun
  | 4 => s.dev.sramCorrected
  | 5 => s.nv.wdResets
  | 6 => s.nv.logCount
  | 7 => w (uptimeS s)
  | 8 => w (opNow s / 3600)
  | 9 => w (elapsedNow s / 86400)
  | _ => w s.dev.bootMs

def pwrRead (s : State) : Nat → Word
  | 10 => BitVec.ofInt 32 (taEstDeci s)
  | 11 => w (budgetMw s)
  | 12 => w (s.pwr.pNowUw / 1000)
  | 13 => w (s.pwr.pFilt / 2 ^ 32 / 1000)
  | 14 => BitVec.ofInt 32 s.pwr.tPeak
  | 15 => s.pwr.deferHeat
  | 16 => s.pwr.deferVbat
  | 17 => s.pwr.sleepEntries
  | 18 => s.pwr.sleepAborts
  | 19 => s.pwr.wakeReplays
  | 20 => s.pwr.lastRefuser
  | 21 => w (s.pwr.stabledClk / clkS 1)
  | 22 => s.pwr.wakeUs
  | _ => s.pwr.sensorOk.setWidth 32

def lineRead (s : State) (l : Nat) : Nat → Word
  | 13 => w (getLine s l).fault
  | 14 => (getLine s l).flags.setWidth 32
  | 15 => (getLine s l).phasorI
  | 16 => (getLine s l).phasorV
  | _ => (getLine s l).calSteps

/-- An error counter of the controller: the one it holds in bus-off and while off, else what ISO 11898-1 has counted, which is free and below 256. -/
def busErrors (b : Bus) (held free : Nat) : Nat := if b.off || b.state == 0 then held else free % 256

def busRead (s : State) : Nat → Word
  | 13 => w s.bus.addr
  | 14 => w s.bus.state
  | 15 => w (busErrors s.bus s.bus.txErr (Config.busTxErrors s.clk))
  | 16 => w (busErrors s.bus s.bus.rxErr (Config.busRxErrors s.clk))
  | 17 => s.bus.busoffCount
  | 18 => s.bus.rxFrames
  | 19 => s.bus.txFrames
  | 20 => s.bus.tpAborts
  | _ => s.bus.rxDropped

/-- twin.state (14 R403). -/
def twinState (s : State) : Nat :=
  if s.twin.pairing.isSome then 5
  else if s.twin.deciding then 1
  else if isSiding s then 4
  else if isActive s then (if twinStands s then 2 else 3)
  else 0

def twinRead (s : State) : Nat → Word
  | 4 => w (twinState s)
  | 5 => w (((s.nv.pair.map fun p => p.peerUid.toNat).getD 0) / 2 ^ 32)
  | 6 => w ((s.nv.pair.map fun p => p.peerUid.toNat).getD 0)
  | 7 => (s.nv.pair.map fun p => p.epoch).getD 0
  | 8 => w (backlogBytes s)
  | 9 => w (8 * (((s.twin.mirrorSent.filter fun x => s.clk < x.1 + clkS 1).map fun x => Config.mirrorBytes x.2).sum) / 1000)
  | 10 => w s.twin.takeoverUs
  | 11 => s.twin.framesBad
  | 12 => s.twin.forceLocks
  | _ => s.twin.resyncs

def updRead (s : State) : Nat → Word
  | 6 => w s.nv.updStage
  | 7 => w (imageIdNat (handBlob s))
  | 8 => w (imageIdNat (handBlob s) / 2 ^ 32)
  | 9 => w (hdrPieces (handBlob s))
  | 10 => w (piecesMissing s)
  | 11 => w (hdrSecver (runBank s).blob)
  | 12 => w (hdrSettings (runBank s).blob)
  | 13 => (getArea s s.upd.bank).generation
  | 14 => s.upd.reverts
  | 15 => w s.nv.lastRevert
  | 16 => s.upd.piecesBad
  | 17 => w s.upd.chainRole
  | 18 => s.upd.chainBytes
  | _ => s.nv.failedImageLo

/-- Queued activities as MAINT_STATUS word 5 (12 R353). -/
def maintQueued (s : State) : Nat :=
  ofBits ([1, 2, 3, 4].map fun a => s.mnt.queue.any fun q => q.1 == a)

def maintRead (s : State) : Nat → Word
  | 3 => w s.mnt.running
  | 4 => w (maintQueued s)
  | 5 => w (s.nv.patrolLastS / 86400)
  | 6 => w (s.nv.patrolLastOpS / 3600)
  | 7 => w s.mnt.patrolDue
  | 8 => if s.mnt.running = PATROL then patrolAt s else s.nv.patrolPos
  | 9 => s.nv.patrolRuns
  | 10 => s.mnt.pagesChecked
  | 11 => s.mnt.pagesRefreshed
  | 12 => s.nv.refreshedTotal
  | 13 => s.nv.sectorsRefreshed
  | 14 => w s.nv.spareLeft
  | 15 => w (if s.mnt.running = PATROL then Config.refreshUnderWay s.clk else s.nv.refreshBuffer).toNat
  | 16 => s.mnt.calRuns
  | 17 => s.mnt.calLast
  | 18 => s.mnt.calFail
  | 19 => s.mnt.compactRuns
  | 20 => w s.mnt.lastActivity
  | 21 => w s.mnt.lastStatus
  | 22 => s.mnt.cancelled
  | _ => s.mnt.deviceStarted

def rosterRead (s : State) : Nat → Word
  | 4 => w s.roster.entries.length
  | 5 => w (pinnedCount s)
  | 6 => s.roster.sweeps
  | 7 => s.roster.fullEvents
  | _ => w (firstFree s.roster.entries)

def hitchRead (s : State) : Nat → Word
  | 4 => w (s.isl.staged.filter fun b => b.ring < 64).length
  | 5 => s.isl.sessions
  | 6 => s.isl.torn
  | 7 => w s.isl.fieldLevel
  | 8 => s.isl.refused
  | _ => w s.isl.coupled.toNat

def lockRead (s : State) (o : Nat) : Nat → Word
  | 10 => w (getLock s o).state
  | 11 => w (getLock s o).holder
  | 12 => w (getLock s o).fault
  | _ => (getLock s o).releases

def keyRead (s : State) (k : Nat) : Nat → Word
  | 0 => w (getKeyNv s k).state
  | 1 => w ((getKeyNv s k).uid.toNat / 2 ^ 32)
  | 2 => w (getKeyNv s k).uid.toNat
  | 3 => (getKeyNv s k).rights.setWidth 32
  | 4 => (getKey s k).ctrLast
  | 5 => (getKeyNv s k).ctrMark
  | 6 => w (getKey s k).status
  | 7 => w (getKey s k).zone
  | 8 => w (ageMs s ((getKey s k).fix.map fun f => f.clk))
  | 9 => w (ageMs s (getKey s k).authClk)
  | _ => (getKey s k).refused

/-- ms of transmission in band 1 within the last hour, a transmission partly inside counted by its part (08 R256), in µs. -/
def dutyUs (s : State) : Nat :=
  (s.prox.duty.map fun d => if s.clk < d.1 + clkS 3600 then min d.2 ((d.1 + clkS 3600 - s.clk) / 32) else 0).sum

def proxRead (s : State) : Nat → Word
  | 19 => BitVec.ofInt 32 s.prox.devDelayPs
  | 20 => w (dutyUs s / 1000)
  | 21 => s.prox.fixes
  | _ => s.prox.relayVerdicts

/-! ### The radio's standing (09 R260 to R264, R278, R280) -/

def R_SLEEP : Nat := 0
def R_IDLE : Nat := 1
def R_SYNTH : Nat := 2
def R_RX : Nat := 3
def R_TX : Nat := 4
def R_RANGE : Nat := 5

/-- An item of class 15 as the operation in hand took it (R280). -/
def radioPar (s : State) (i : Nat) : Nat := (Cells.getD s.radio.conf (radioId i) (paramReset (radioId i))).toNat

def radioParInt (s : State) (i : Nat) : Int := (Cells.getD s.radio.conf (radioId i) (paramReset (radioId i))).toInt

/-- An operation starts: the items of class 15 are in force as they stand (R280). -/
def takeConf (s : State) : State := modRadio (fun r => { r with conf := s.par.filter fun e => e.1 / 2048 == 15 }) s

def dataKhz (s : State) : Nat := par s (radioId 1)

/-- A region and a data channel are set (R260). -/
def radioSet (s : State) : Bool := par s (radioId 0) != 0 && dataKhz s != 0

/-- KEY_POLL listen windows that stand open (R278). -/
def openWindows (s : State) : List Listen := s.radio.listen.filter fun x => x.opens ≤ s.clk && decide (s.clk ≤ x.closes)

def listening (s : State) : Bool := !(openWindows s).isEmpty

/-- A window that has opened begins once the radio is free (R278): it is an operation, and takes the items of class 15 (R263, R280); a radio that
does not listen makes a channel change to the data channel for it. Nothing writes the class between the opening and this. -/
def beginWindows (s : State) : State :=
  if s.radio.on && s.radio.queue.isEmpty && radioSet s && (openWindows s).any (fun x => !x.began) then
    modRadio (fun r => { r with chan := if r.locked then r.chan else dataKhz s,
                                listen := r.listen.map fun x => if x.opens ≤ s.clk then { x with began := true } else x }) (takeConf s)
  else s

/-- The state the radio enters with no operation in hand (R263, R278); without a region it is held in SLEEP (R260). -/
def restState (s : State) : Nat :=
  if par s (radioId 0) = 0 then R_SLEEP
  else if radioSet s && (listening s || radioPar s 5 == 1) then R_RX else R_IDLE

/-- No operation is left: the wires fall and the radio enters its return state; receiving, it makes a channel change to the data channel
unless it stands on it (R263, R264). -/
def radioRest (s : State) : State :=
  let st := restState s
  modRadio (fun r => { r with state := st, chan := if st == R_RX && !r.locked then dataKhz s else r.chan, locked := st == R_RX,
                              paOn := false, preamble := false, coexReq := false, coexPrio := false }) s

/-- The radio's state now: a free radio receives from the moment a listen window opens (R278). -/
def radioNow (s : State) : Nat :=
  if s.radio.on && s.radio.queue.isEmpty && radioSet s && listening s then R_RX else s.radio.state

/-- A command addressed to the sleeping radio wakes it (00 R18, 12 R342). -/
def wakeRadio (s : State) : State :=
  if s.radio.on && s.radio.state == R_SLEEP && s.radio.queue.isEmpty then radioRest (takeConf s) else s

/-- A read or write of an ID is addressed to the block that holds it. -/
def addressParam (id : Nat) (s : State) : State := if id / 2048 = 15 then wakeRadio s else s

def radioRead (s : State) : Nat → Word
  | 12 => w (radioNow s)
  | 13 => w s.radio.lastPort
  | 14 => s.radio.fgCals
  | 15 => s.radio.bgCals
  | 16 => s.radio.txLate
  | 17 => s.radio.coexDenied
  | 18 => s.radio.unlocks
  | 19 => s.radio.rxPackets
  | _ => s.radio.rxBadMic

def secRead (s : State) (off : Nat) : Word :=
  if 96 ≤ off then slotAttrLow s (off - 96)
  else if 32 ≤ off then counterLive s (off - 32)
  else match off with
    | 0 => w s.nv.lifecycle
    | 1 => w (debugOpen s).toNat
    | 2 => s.sec.bootCount
    | 3 => w (oemRootSet s).toNat
    | 4 => w ((List.range 128).countP fun k => slotHolds s k)
    | 5 => w (secver s)
    | 6 => s.sec.engineJobs
    | 7 => s.sec.ctxRefused
    | 8 => s.sec.zeroised
    | 9 => s.sec.retired
    | _ => w s.sec.trngFailed.toNat

/-- Value of a read-only or clear-only item. -/
def statusItem (s : State) (id : Nat) : Word :=
  let cls := id / 2048
  let off := id % 2048
  let inst := off / 32
  let item := off % 32
  if 20 ≤ cls ∧ cls < 24 then w (svcStatus s ((id - 0xA000) / 32))
  else match cls with
    | 0 => sysRead s off
    | 1 => pwrRead s off
    | 2 => lineRead s inst item
    | 3 => w (routeState s inst)
    | 4 => busRead s off
    | 5 => twinRead s off
    | 7 => updRead s off
    | 8 => maintRead s off
    | 10 => rosterRead s off
    | 11 => hitchRead s off
    | 12 => lockRead s inst item
    | 13 => keyRead s inst item
    | 14 => proxRead s item
    | 15 => radioRead s off
    | 16 => secRead s off
    | _ => 0

/-- The value a read of an ID returns (R342); none where the ID is unassigned. -/
def paramRead (s : State) (id : Nat) : Option Word :=
  match paramKind id with
  | .unassigned => none
  | .fixed v => some v
  | .rw .. => some (liveParam s id)
  | .readOnly => some (statusItem s id)
  | .clear => some (statusItem s id)

/-! ## Writes -/

/-- Members of a route, a staged write included (DEDUCED: R74 and R75 guard the value the route will take). -/
def plannedMembers (s : State) (r : Nat) : BitVec 24 :=
  routeMembers s r ||| BitVec.ofNat 24 ((Cells.find? s.staged (routeId r 24)).getD 0).toNat

/-- Whether a line is a member of any route. -/
def isMember (s : State) (l : Nat) : Bool := (List.range 16).any fun r => (plannedMembers s r).getLsbD l

/-- Ranges of anglesrc[n].positions by stored kind (R48). The spec gives none while the stored kind is 4: that of kinds 0 and 3 (DESIGN CHOICE,
assumption log 13). -/
def positionsOk (kind v : Nat) : Bool := if kind = 2 then 4 ≤ v && v ≤ 360 else 1 ≤ v && v ≤ 16384

/-- Checks of one item beyond its plain range. -/
def itemAllowed (s : State) (id : Nat) (v : Nat) : Bool :=
  let cls := id / 2048
  let inst := id % 2048 / 32
  let item := id % 32
  match cls with
  | 2 =>
    match item with
    | 0 => v == 1 || !isMember s inst
    | 1 => !isMember s inst
    | _ => true
  | 3 =>
    if item = 24 then
      let ls := linesOf (BitVec.ofNat 24 v)
      ls.all (fun l => linePar s l 0 == 1) && ls.all fun l => linePar s l 1 == linePar s (ls.headD 0) 1
    else true
  | 4 =>
    match item with
    | 0 => !(v == 2 && s.nv.pair.isSome)
    | 11 => v == 125 || v == 250 || v == 500 || v == 1000
    | 12 => v == 1000 || v == 2000
    | _ => true
  | 6 =>
    match item with
    | 0 => (if inst = 4 then v == 0 || v == 4 else v ≤ 3) && (v == 0 || v == 3 || v == 4 || positionsOk v (anglePar s inst 1))
    | 1 => positionsOk (anglePar s inst 0) v
    -- a pulse is no longer than a turn (02 R46)
    | 7 => anglePar s inst 9 ≤ 1000 * v
    | 9 => v ≤ 1000 * anglePar s inst 7
    | _ => true
  | 12 => if inst < 4 ∧ item = 7 then v ≤ 4 || v == 7 else true
  | 15 =>
    if item = 1 then
      v == 0 || (match par s (radioId 0) with
        | 1 => 863100 ≤ v && v ≤ 869900
        | 2 => 902200 ≤ v && v ≤ 927800
        | _ => false)
    else true
  | _ => true

/-- Lines held by running blocks (01 R26). -/
def linesHeld (s : State) : BitVec 24 := s.sched.blocks.foldl (fun m b => m ||| b.lines) 0

/-- Whether a write to an item is staged: R76 for a line in use, R84 for a route in use. -/
def mustStage (s : State) (id : Nat) : Bool :=
  let cls := id / 2048
  let inst := id % 2048 / 32
  let item := id % 32
  (cls == 2 && item ≥ 2 && item ≤ 6 && (linesHeld s).getLsbD inst) ||
  (cls == 3 && s.sched.blocks.any fun b => b.route == inst)

/-- Parameters the ACTIVE does not mirror (14 R395, R403). -/
def unmirrored (id : Nat) : Bool :=
  id == pwrId 1 || (proxId 13 ≤ id && id ≤ proxId 18) || (twinId 0 ≤ id && id ≤ twinId 3)

/-- What a write of a value that is now live brings about at once. -/
def paramEffect (id : Nat) (v : Word) (s : State) : State :=
  let cls := id / 2048
  let inst := id % 2048 / 32
  let item := id % 32
  match cls with
  | 0 =>
    if item = 10 then
      -- the later of the host's date and the device's own count (16 R452)
      modDev (fun d => { d with elapsedBase := d.elapsedBase + (v.toNat * 86400 - elapsedNow s) }) s
    else s
  | 2 => if item = 0 ∧ v = 0 then modLine inst (fun l => { l with fault := 0 }) s else s
  | 4 => if item = 0 then busRestart s else s
  | 11 =>
    if item = 2 ∧ !s.isl.session then modIsl (fun i => { i with authFrom := v.toNat }) s else s
  | 12 => if inst < 4 ∧ item = 0 ∧ v = 0 then cancelOutput inst 3 s else s
  | 15 =>
    if item = 0 then
      -- without a region the radio is held in SLEEP, and without a data channel it does not listen (09 R260); an operation in hand runs
      -- on to the point where it is refused
      let s := setLive (radioId 1) 0 s
      if s.radio.queue.isEmpty && s.radio.state != R_SLEEP then radioRest s else s
    else if item = 1 && s.radio.on && s.radio.queue.isEmpty && s.radio.state != R_SLEEP then radioRest s
    else s
  | _ => s

/-- A value becomes live. -/
def applyParam (id : Nat) (v : Word) (s : State) : State := paramEffect id v (setLive id v s)

/-- Whether a value lies in a range, read as signed where the range is. -/
def inRange (lo hi : Int) (v : Word) : Bool :=
  let x : Int := if lo < 0 then v.toInt else v.toNat
  lo ≤ x && x ≤ hi

/-- One parameter write (R342): answers the state and the status. A value that takes effect at once replaces an older one still staged (R84;
DESIGN CHOICE, assumption log 15). -/
def paramWrite (id : Nat) (v : Word) (s : State) : State × Nat :=
  match paramKind id with
  | .unassigned => (s, ST_PARAM_UNKNOWN)
  | .readOnly => (s, ST_BAD_ARG)
  | .fixed _ => (s, ST_BAD_ARG)
  | .clear => (modLine (id % 2048 / 32) (fun l => { l with flags := l.flags &&& ~~~(v.truncate 5) }) s, ST_OK)
  | .rw lo hi _ =>
    if 20 ≤ id / 2048 && (findSvc s ((id - 0xA000) / 32)).any (fun x => x.defined) then (s, ST_SVC_BUSY)
    else if !inRange lo hi v || !itemAllowed s id v.toNat then (s, ST_BAD_ARG)
    else
      let s := if id / 2048 = 15 then beginWindows s else s
      let s1 := if mustStage s id then modStaged (fun c => Cells.put c id v) s else applyParam id v (modStaged (fun c => Cells.drop c id) s)
      (if unmirrored id then s1 else mirrorChange [.param id v] s1, ST_OK)

/-- Values staged for an item apply (R76, R84). -/
def applyStaged (p : Nat → Bool) (s : State) : State :=
  let due := s.staged.filter fun e => p e.1
  due.foldl (fun s e => applyParam e.1 e.2 s) (modStaged (fun c => c.filter fun e => !p e.1) s)

end Sys2Proof.Machine
end

