-- ==== Sys2Proof/Machine/Cmd.lean ====
section
/-!
DEFINITION. Sys2Proof/Machine/Cmd.lean: how the device takes a descriptor, checks it and starts its command (11 R327 to R333,
12 R337 to R339, 10 R304).
-/
namespace Sys2Proof.Machine

/-! ## Opcodes (12 R337 to R353) -/

/-- Argument counts of the commands of a family, command 1 first (R340 to R353). -/
def familyArgs : Nat → List Nat
  | 0x00 => [1, 2, 2, 2, 3]
  | 0x01 => [1, 2, 2, 1, 0]
  | 0x02 => [3, 1, 1]
  | 0x03 => [1, 0]
  | 0x04 => [1, 1, 2]
  | 0x05 => [2, 2, 2, 2, 1, 0]
  | 0x06 => [1, 1]
  | 0x07 => [1, 0, 1, 1]
  | 0x08 => [1, 1]
  | 0x09 => [1]
  | 0x0A => [0, 3, 0]
  | 0x0B => [3, 1, 2, 0, 2, 1, 0, 1, 2, 0, 1, 3, 3, 3, 1, 1, 0, 2, 1, 0, 1]
  | 0x0C => [0, 1, 0, 0, 0, 0, 0]
  | 0x0D => [1, 0, 0, 0]
  | 0x0E => [0, 1, 1, 0]
  | 0x0F => [1, 0]
  | 0x10 => [3, 2, 1, 0, 3]
  | _ => []

/-- The argument count an opcode is defined with; none where it is unknown. On RING3, RING_POST has none (R344). -/
def opcodeArgs (ring op : Nat) : Option Nat :=
  if op % 256 = 0 then none
  else ((familyArgs (op / 256))[op % 256 - 1]?).map fun n => if ring = 3 ∧ op = 0x0202 then 0 else n

/-- Whether a ring accepts a known opcode (R337). -/
def ringAccepts (ring op : Nat) : Bool :=
  let general := ring == 0 || 4 ≤ ring
  if ring = 3 then op == 0x0202
  else match op / 256 with
    | 0x00 => if op = 0x0001 then ring == 0 else general
    | 0x01 => general || (op == 0x0101 && ring == 1)
    | 0x02 => if op = 0x0201 then ring == 0 else if op = 0x0202 then 4 ≤ ring else general
    | 0x0B => if op = 0x0B04 ∨ op = 0x0B15 then ring == 0 else general
    | 0x0C => ring == 2
    | 0x0D => ring == 1
    | 0x0E => ring == 0
    | 0x0F => ring == 0
    | _ => general

/-! ## Rings (R328, R329) -/

/-- Descriptors are handed over and not taken, and no ring error stops the ring. -/
def ringWaits (r : Ring) : Bool := r.size != 0 && !r.stalled && r.take != r.tail

/-- The ring whose descriptor is taken next: RING0 first, the others in turn (R328). -/
def nextRing (s : State) : Option Nat :=
  if !takesDescriptors s then none
  else if ringWaits (getRing s 0) then some 0
  else ((List.range 63).map fun k => (s.port.lastRing + k) % 63 + 1).find? fun r => ringWaits (getRing s r)

/-- A ring error (R329). -/
def ringError (r cause : Nat) (s : State) : State :=
  let s := modPort (fun p =>
    { p with ringErr := if p.ringErr.getLsbD 15 then p.ringErr
                        else BitVec.ofNat 16 (r + 64 * (getRing s r).take + 4096 * cause + 32768) }) s
  let s := raise 0x0E6 0x8000 s
  modRing r (fun x => { x with stalled := true }) s

/-- Offset of the descriptor at take. -/
def headOffset (s : State) (r : Nat) : Nat := (getRing s r).base + 32 * (getRing s r).take

/-- Word `i` of the descriptor at take. -/
def headWord (s : State) (r i : Nat) : Word := winWord s (headOffset s r + 4 * i)

def headOwn (s : State) (r : Nat) : Bool := (headWord s r 0).getLsbD 31
def headOpcode (s : State) (r : Nat) : Nat := (headWord s r 0).toNat % 65536

/-- The descriptor at take, with its own token and no buffer (R328 steps 1 and 2). -/
def headHeld (s : State) (r : Nat) : Held :=
  let w0 := (headWord s r 0).toNat
  let w1 := (headWord s r 1).toNat
  { ring := r, idx := (getRing s r).take, seq := w0 / 65536 % 256, irq := w1.testBit 16, opcode := w0 % 65536, argc := w1 % 65536,
    a0 := headWord s r 4, a1 := headWord s r 5, a2 := headWord s r 6, buf := (headWord s r 2).toNat, len := (headWord s r 3).toNat,
    areas := [], kind := .plain, written := 0, taken := s.clk }

/-- Take the descriptor at take. -/
def takeHead (r : Nat) (s : State) : State :=
  let h := headHeld s r
  let s := modPort (fun p => { p with held := p.held ++ [h], lastRing := if r = 0 then p.lastRing else r }) s
  modRing r (fun x => { x with take := (x.take + 1) % x.size }) s

/-- Reserved fields of the descriptor at take (R327). -/
def headReserved (s : State) (r : Nat) : Bool :=
  (headWord s r 0).toNat / 2 ^ 24 % 128 == 0 && (headWord s r 1).toNat / 2 ^ 17 == 0

/-- What happens to descriptors that have no row of their own: an own bit found clear stops its ring (R329), an unknown opcode
completes with ST_BAD_OPCODE (R328), or in FAILED with ST_DEVICE_FAILED (R332). -/
def settleFrom : Nat → State → State
  | 0, s => s
  | n + 1, s =>
    match nextRing s with
    | none => s
    | some r =>
      if !headOwn s r then settleFrom n (ringError r 1 s)
      else if (opcodeArgs 0 (headOpcode s r)).isSome then s
      else settleFrom n (done (headHeld s r) (if s.dev.failed then ST_DEVICE_FAILED else ST_BAD_OPCODE) (takeHead r s))

/-- Enough turns for every descriptor of every ring. -/
def settle (s : State) : State := settleFrom 4160 s

/-! ## Starting a command -/

/-- Families and commands a SIDING device refuses (R235, R337). -/
def sidingRefuses (op : Nat) : Bool :=
  let f := op / 256
  (3 ≤ f && f ≤ 0x0B) || op == 0x0102 || op == 0x0104 || op == 0x0105

/-- What the lifecycle refuses (10 R304). -/
def lifecycleRefuses (s : State) (op : Nat) : Bool :=
  (s.nv.lifecycle == lcBlank && !(op / 256 == 0x00 || op / 256 == 0x10 || op == 0x0A02 || op == 0x0A03)) ||
  (s.nv.lifecycle == lcReturned && (op == 0x0B08 || op == 0x0B09 || op == 0x0B0A))

/-- The status with which the device's condition refuses a command, where it does. -/
def gate (s : State) (op : Nat) : Option Nat :=
  if isSiding s && sidingRefuses op then some ST_TWIN_SIDING
  else if lifecycleRefuses s op then some ST_LC_REFUSED
  else none

/-- Whether FAILED serves a descriptor (R332). -/
def failedServes (ring op : Nat) : Bool := ring == 0 && (op / 256 == 0x10 || op == 0x0001)

/-- The first failed check of R328 step 3, for a command with `n` arguments and these buffers. -/
def checkStatus (s : State) (h : Held) (reserved : Bool) (n : Nat) (areas : List (Nat × Nat)) : Option Nat :=
  if !ringAccepts h.ring h.opcode then some ST_BAD_OPCODE
  else if !reserved || !(h.argc == 0 || h.argc == n) then some ST_BAD_ARG
  else if !areas.all fun a => areaAllowed s a.1 a.2 then some ST_BAD_ARG
  else if areas.any fun a => areaHeld s a.1 a.2 then some ST_TOKEN_HELD
  else none

/-- Buffers a descriptor names: its own, where the command takes one and its length is not 0, and others. -/
def namedAreas (h : Held) (buf : Bool) (extra : List (Nat × Nat)) : List (Nat × Nat) :=
  (if buf && h.len != 0 then [(h.buf, h.len)] else []) ++ extra.filter fun a => a.2 != 0

/-- The device takes the next descriptor of a ring, which holds an opcode, and runs its command (R328). Where that is not
what comes next, nothing happens. An argc or a len of 0 leaves it nothing to do, and it touches nothing (R339). `buf` says whether the command takes a buffer, `extra` gives areas its arguments name. -/
def runCmd (ring op : Nat) (buf : Held → State → Bool) (extra : Held → State → List (Nat × Nat)) (body : Held → State → State)
    (s : State) : State :=
  if nextRing s ≠ some ring ∨ headOpcode s ring ≠ op ∨ !headOwn s ring then s
  else
    let h := headHeld s ring
    let n := (opcodeArgs ring op).getD 0
    let idle := (n ≠ 0 && h.argc == 0) || (buf h s && h.len == 0 && !(ring == 3))
    let areas := if idle then [] else namedAreas h (buf h s) (if h.argc = 0 then [] else extra h s)
    let t := takeHead ring s
    let h' := { h with areas := areas }
    settle <|
      if s.dev.failed && !failedServes ring op then done h ST_DEVICE_FAILED t
      else match checkStatus t h (headReserved s ring) n areas with
        | some st => done h st t
        | none =>
          let t := modPort (fun p => { p with held := p.held.map fun x => if x.ring == ring && x.idx == h.idx then h' else x }) t
          match gate t op with
          | some st => done h' st t
          | none =>
            if idle then done h' ST_OK t
            else body h' t

def noBuf (_ : Held) (_ : State) : Bool := false
def takesBuf (_ : Held) (_ : State) : Bool := true
def noExtra (_ : Held) (_ : State) : List (Nat × Nat) := []

/-- A command that takes no buffer. -/
def cmdPlain (ring op : Nat) (body : Held → State → State) (s : State) : Host.Outcome State Fault Refusal :=
  .next (runCmd ring op noBuf noExtra body s)

/-- A command that takes a buffer. -/
def cmdBuf (ring op : Nat) (body : Held → State → State) (s : State) : Host.Outcome State Fault Refusal :=
  .next (runCmd ring op takesBuf noExtra body s)

/-- Bytes of a descriptor's buffer. -/
def bufBytes (h : Held) (s : State) : List Byte := winRead s h.buf h.len

/-- Complete with bytes written at the start of the buffer; a buffer too short completes with ST_BAD_ARG (R338). -/
def doneBytes (h : Held) (bs : List Byte) (w4 w5 w6 : Word) (s : State) : State :=
  if h.len < bs.length then done h ST_BAD_ARG s
  else finish h ST_OK w4 w5 w6 bs.length (winWrite h.buf bs s)

end Sys2Proof.Machine
end

