-- ==== Sys2Proof/Machine/Registers.lean ====
section
/-!
DEFINITION. Sys2Proof/Machine/Registers.lean: the 312 hardware registers: what a read returns and what a write does (11 R315 to
R325, 02 R49 to R53, R64 to R66), the doorbell (R328, R329) and window words under tokens (R331).
-/
namespace Sys2Proof.Machine

/-! ## Domains (R315, R316) -/

/-- Unassigned addresses (R311, R316). -/
def unassignedReg (a : Nat) : Bool :=
  (0x010 ≤ a && a ≤ 0x03F) || (0x0CD ≤ a && a ≤ 0x0DF) || (0x0E9 ≤ a && a ≤ 0x0FF) || (0x18A ≤ a && a ≤ 0x19F) || 0x1A8 ≤ a

/-- The block of an address is asleep: in STABLED and until ready (R315). -/
def regAsleep (s : State) (a : Nat) : Bool :=
  !s.dev.ready && !unassignedReg a && (0x040 ≤ a && a ≤ 0x17F || 0x1A0 ≤ a)

/-- The SPI target answers: in every state but OFF, with VIO present (R315, 17 R463). -/
def spiAlive (s : State) : Bool := s.dev.mode != .off && s.dev.mode != .held

/-! ## Reads -/

/-- The angle source and word of a slot's words 6 and 7 (R49): 0 ACC_LO, 1 ACC_HI, 2 CTRL, 3 STAT, 4 SPEED, 5 IERR. -/
def angleSlot (a : Nat) : Nat × Nat :=
  let slot := (a - 0x100) / 8
  (slot / 3, 2 * (slot % 3) + (a % 8 - 6))

def angleCtrl (x : AngleSrc) : Nat := ofBits [x.en, x.ttEn, x.wakeEn, x.dirInv, false, x.syncIe]

def angleStat (x : AngleSrc) : Nat :=
  ofBits [x.synced, x.stalled, x.reverse, x.syncGain, x.syncLost, x.syncJump, x.glitch] + 256 * x.kind

/-- Interpolated accumulator at this moment. -/
def angleReg (x : AngleSrc) : Nat → Nat
  | 0 => angleHalf x
  | 1 => revsHalf x
  | 2 => angleCtrl x
  | 3 => angleStat x
  | 4 => angleSpeed x
  | _ => unsigned 10 x.ierr

/-- A source counts edges: of an external kind, running and turning. -/
def countsEdges (a : AngleSrc) : Bool := a.en && 1 ≤ a.kind && a.kind ≤ 3 && !a.stalled

/-- The clock a channel selects is ticking (R64, R65): those of ANGLE0 to ANGLE3 while the source runs and turns. -/
def tmrTicking (s : State) (t : Tmr) : Bool := tmrClk t < 3 || (tmrClk t < 7 && countsEdges (getSrc s (tmrClk t - 3)))

def tmrReg (s : State) (t : Tmr) : Nat → Nat
  | 0 => t.ctrl.toNat
  | 1 => tmrFlags t + 16 * (tmrEn t && tmrTicking s t).toNat
  | 2 => t.cnt.toNat % 65536
  | 3 => t.cnt.toNat / 65536
  | 4 => t.cc.toNat % 65536
  | _ => t.cc.toNat / 65536

/-- Levels of ILKn_A and ILKn_B (07 R223): position in the 100 µs period, in clocks. A train that waits for the one before it to stop begins
where that ends, in the same phase. -/
def pulsePhase (s : State) (o : Nat) : Option Nat :=
  match (getLock s o).pulseClk with
  | some t =>
    if s.clk < t then
      (if s.clk < (getLock s o).stopClk then some ((s.clk + pulsePeriod * ceilDiv (t - s.clk) pulsePeriod - t) % pulsePeriod) else none)
    else if (getLock s o).stopClk ≤ t || s.clk < (getLock s o).stopClk then some ((s.clk - t) % pulsePeriod)
    else none
  | none => none

def ilkA (s : State) (o : Nat) : Bool := (pulsePhase s o).any fun p => p < 1280
def ilkB (s : State) (o : Nat) : Bool := (pulsePhase s o).any fun p => 1600 ≤ p && p < 2880

/-- Level of ILK_FBn (R325): of an output that pumps the stage's echo follows ILKn_A, by which its periods are good (07 R223, R226; DEDUCED,
assumption log 19); of any other it is what has been seen of it. -/
def fbLevel (s : State) (o : Nat) : Bool := if pumping s o then ilkA s o else s.dev.echo.getLsbD o

/-- TWIN_STATUS (R325). -/
def twinStatusReg (s : State) : Nat :=
  s.twin.role + 4 * ofBits [s.twin.linkUp, s.twin.mirrored, s.twin.twinFailed]

/-- PWR_STATE (R324). -/
def pwrState (s : State) : Nat :=
  (match s.dev.mode with
    | .halt => 1
    | .stabled => 2
    | .prepare => 4
    | .commit => 4
    | .waking => s.pwr.target + 8
    | _ => 0) + 16 * s.pwr.lastWake + 128 * s.pwr.replayed.toNat

/-- BOOT_STATUS.phase (R317). While the device boots it goes through 0 to 4 in turn; what the phases take the spec does not say (free values,
assumption log 3). -/
def bootPhaseNow (s : State) : Nat :=
  if s.dev.mode = .boot then (List.range 4).countP fun k => ((List.range (k + 1)).map Config.bootPhaseClocks).sum ≤ s.clk - s.dev.bootClk
  else s.dev.bootPhase

/-- BOOT_STATUS (R317). -/
def bootStatus (s : State) : Nat :=
  bootPhaseNow s + 16 * s.upd.bank.toNat + 32 * s.upd.trialNow + 128 * s.upd.unconfirmed.toNat

/-- TOKEN_PROBE_STAT (R323). -/
def tokenProbeStat (s : State) : Nat :=
  match granuleHolder s s.port.tokenProbe with
  | some h => h.idx + 256 * h.ring + 32768 +
      16384 * (s.port.quarantine.any fun a => areaTouches a.1 a.2 s.port.tokenProbe).toNat
  | none => 0

/-- Three bits per output, or two. -/
def perLock (s : State) (width : Nat) (f : Lock → Nat) : Nat :=
  (List.range 4).foldr (fun o n => f (getLock s o) % 2 ^ width + 2 ^ width * n) 0

/-- Halves of a 64-bit value. -/
def halfOf (v : Dword) (k : Nat) : Nat := v.toNat / 2 ^ (16 * k) % 65536

/-- Registers 0x000 to 0x00F (R317). -/
def idReg (s : State) : Nat → Nat
  | 0 => 0x0B1C
  | 1 => 0x2464
  | 2 => 0x00B0
  | 3 => if s.dev.ready then hdrRelease (runBank s).blob else 0
  | 4 => if s.dev.ready then hdrBuild (runBank s).blob else 0
  | 5 => halfOf (deviceUid s) 3
  | 6 => halfOf (deviceUid s) 2
  | 7 => halfOf (deviceUid s) 1
  | 8 => halfOf (deviceUid s) 0
  | 9 => hostStatus s
  | 10 => s.dev.resetCause.toNat
  | 11 => bootStatus s
  | 13 => s.dev.scratch.toNat
  | 14 => s.dev.faultCode.toNat
  | 15 => s.dev.faultArg.toNat
  | _ => 0

/-- Registers 0x0C0 to 0x0E8 (R321, R323). -/
def portReg (s : State) (a : Nat) : Nat :=
  match a with
  | 0x0C0 => irqStatus s
  | 0x0C1 => s.port.irqEnable.toNat
  | 0x0CA => tmrIrq s
  | 0x0CB => angIrq s
  | 0x0CC => s.port.hirqCtrl.toNat
  | 0x0E0 => s.port.violAddr % 65536
  | 0x0E1 => s.port.violAddr / 65536 + 32768 * s.port.violWrite.toNat
  | 0x0E2 => s.port.violCount
  | 0x0E3 => heldGranules s
  | 0x0E4 => s.port.tokenProbe
  | 0x0E5 => tokenProbeStat s
  | 0x0E6 => s.port.ringErr.toNat
  | 0x0E7 => s.port.evtLost
  | 0x0E8 => s.port.spiErr.toNat
  | _ =>
    if 0x0C2 ≤ a ∧ a ≤ 0x0C5 then halfOf s.port.ringDone (a - 0x0C2)
    else if 0x0C6 ≤ a ∧ a ≤ 0x0C9 then halfOf s.port.ringDoneEn (a - 0x0C6)
    else 0

/-- Registers 0x180 to 0x189 (R324). -/
def pwrReg (s : State) : Nat → Nat
  | 0x180 => pwrState s
  | 0x181 => s.pwr.wakeEn.toNat
  | 0x182 => s.pwr.wakeSrc.toNat
  | 0x183 => s.pwr.wakeTmr.toNat % 65536
  | 0x184 => s.pwr.wakeTmr.toNat / 65536
  -- 0 until a ledger step has read them
  | 0x185 => if s.pwr.stepped then tempMax s else 0
  | 0x186 => if s.pwr.stepped then vbatMon s else 0
  | 0x187 => min 1023 (s.pwr.pNowUw / 10000)
  | 0x188 => s.pwr.heatDefer
  | _ => pwrFlags s

/-- Registers 0x1A0 to 0x1A7 (R325). -/
def twinReg (s : State) : Nat → Nat
  | 0x1A0 => twinStatusReg s
  | 0x1A1 => s.twin.flags.toNat
  | 0x1A2 => perLock s 3 fun l => l.state
  | 0x1A3 => ofBits ((List.range 4).map (fbLevel s)) + 16 * ofBits ((List.range 4).map (ilkA s)) + 256 * ofBits ((List.range 4).map (ilkB s))
  | 0x1A4 => perLock s 2 fun l => l.fault
  | 0x1A5 => s.ilkEvents.toNat
  | 0x1A6 => s.twin.linkErr
  | _ => s.twin.takeovers

/-- What a register reads in a block that is awake. -/
def regValue (s : State) (a : Nat) : Half :=
  BitVec.ofNat 16 <|
    if unassignedReg a then 0
    else if a < 0x040 then idReg s a
    else if a < 0x0C0 then
      let r := getRing s ((a - 0x040) / 2)
      if a % 2 = 0 then r.tail else r.take + 256 * r.free + 32768 * r.stalled.toNat
    else if a < 0x100 then portReg s a
    else if a = 0x17E then s.tb.ttIe.toNat
    else if a = 0x17F then s.tb.ttLate.toNat + 256 * s.tb.ttSkip.toNat
    else if a < 0x180 then
      if a % 8 < 6 then tmrReg s (getTmr s ((a - 0x100) / 8)) (a % 8)
      else angleReg (getSrc s (angleSlot a).1) (angleSlot a).2
    else if a < 0x1A0 then pwrReg s a
    else twinReg s a

/-- Registers whose read clears them (R323 to R325). -/
def clearsOnRead (a : Nat) : Bool := a == 0x0E2 || a == 0x0E7 || a == 0x188 || a == 0x1A6

/-- One register read: the value, and what the read clears (R18, R323 to R325). Of a count that reads and clears, what the device counts
in the same clock is left for the next read (R16). -/
def regRead (a : Nat) (s : State) : State × Half :=
  if regAsleep s a then (modPort (fun p => { p with asleepAccess := true }) s, 0)
  else
    let new := freshCount s a
    let v := if clearsOnRead a then regValue s a - BitVec.ofNat 16 new else regValue s a
    let s' := match a with
      | 0x0E2 => modPort (fun p => { p with violCount := new }) s
      | 0x0E7 => modPort (fun p => { p with evtLost := new }) s
      | 0x188 => modPwr (fun p => { p with heatDefer := new }) s
      | 0x1A6 => modTwin (fun t => { t with linkErr := new }) s
      | _ => s
    (s', v)

/-! ## Writes -/

/-- A doorbell write (R328, R329). -/
def doorbell (r v : Nat) (s : State) : State :=
  let x := getRing s r
  let tail := v % 64
  let s := modRing r (fun x => { x with stalled := false }) s
  settle <|
    if x.size = 0 then modRing r (fun x => { x with tail := tail }) s
    else if x.size ≤ tail then ringError r 3 s
    else if x.size - 1 < (x.tail + x.size - x.free) % x.size + (tail + x.size - x.tail) % x.size then ringError r 2 s
    else modRing r (fun x => { x with tail := tail }) s

/-- A write of ANGn_CTRL (02 R50); a stop takes the source's speed to 0 (07 R228). -/
def angleCtrlWrite (n v : Nat) (s : State) : State :=
  let was := (getSrc s n).en
  let s := modSrc n (fun a => { a with ttEn := v.testBit 1, wakeEn := v.testBit 2, dirInv := v.testBit 3, syncIe := v.testBit 5 }) s
  let s := if v.testBit 0 then (if was then s else enableSource n s) else modSrc n disableSource s
  speedDecides n (if v.testBit 4 then actSrc n resyncSource s else s)

/-- A write of ANGn_STAT clears the flags written 1 (R51). -/
def angleStatWrite (v : Nat) (a : AngleSrc) : AngleSrc :=
  { a with syncGain := a.syncGain && !v.testBit 3, syncLost := a.syncLost && !v.testBit 4,
           syncJump := a.syncJump && !v.testBit 5, glitch := a.glitch && !v.testBit 6 }

/-- A write of TMRn_CTRL (R64): mode, clk and trig hold while en is 1; swcap acts at once and clr on the next clock. The phase of the 1 MHz
and 32 kHz ticks is the channel's own, from the write that changes mode, clk or trig on (DESIGN CHOICE, assumption log 13). -/
def tmrCtrlWrite (v : Nat) (t : Tmr) : Tmr :=
  let fields : BitVec 12 := if tmrEn t then t.ctrl &&& 0x1FE else BitVec.ofNat 12 v &&& 0x1FE
  let t := { t with ctrl := fields ||| (BitVec.ofNat 12 v &&& 0xE01), rem := if fields = t.ctrl &&& 0x1FE then t.rem else 0 }
  let t := if v.testBit 13 then tmrCaptureNow t else t
  if v.testBit 14 then { t with clrDue := true } else t

/-- A write of TMRn_STAT clears the flags written 1 (R65). -/
def tmrStatWrite (v : Nat) (t : Tmr) : Tmr :=
  { t with hit := t.hit && !v.testBit 0, ovf := t.ovf && !v.testBit 1, cap := t.cap && !v.testBit 2,
           capLost := t.capLost && !v.testBit 3 }

/-- A write of words 0 to 5 of a slot (R64 to R66, R69). -/
def tmrWrite (word v : Nat) (t : Tmr) : Tmr :=
  match word with
  | 0 => tmrCtrlWrite v t
  | 1 => tmrStatWrite v t
  | 4 => { t with cc := BitVec.ofNat 32 (t.cc.toNat / 65536 * 65536 + v) }
  | 5 => { t with cc := BitVec.ofNat 32 (v * 65536 + t.cc.toNat % 65536) }
  | _ => t

/-- A half of a 64-bit value replaced or its bits cleared. -/
def setHalf (old : Dword) (k v : Nat) : Dword :=
  BitVec.ofNat 64 (old.toNat - halfOf old k * 2 ^ (16 * k) + v * 2 ^ (16 * k))

def clearHalf (old : Dword) (k v : Nat) : Dword := old &&& ~~~(BitVec.ofNat 64 (v * 2 ^ (16 * k)))

/-- Writes at 0x0C0 to 0x0E8 (R321, R323). -/
def portWrite (a v : Nat) (p : Port) : Port :=
  match a with
  | 0x0C1 => { p with irqEnable := BitVec.ofNat 8 v }
  | 0x0CC => { p with hirqCtrl := BitVec.ofNat 2 v }
  | 0x0E4 => { p with tokenProbe := v % 8192 }
  | 0x0E6 => if v.testBit 15 then { p with ringErr := 0 } else p
  | 0x0E8 => { p with spiErr := p.spiErr &&& ~~~(BitVec.ofNat 4 v) }
  | _ =>
    if 0x0C2 ≤ a ∧ a ≤ 0x0C5 then { p with ringDone := clearHalf p.ringDone (a - 0x0C2) v }
    else if 0x0C6 ≤ a ∧ a ≤ 0x0C9 then { p with ringDoneEn := setHalf p.ringDoneEn (a - 0x0C6) v }
    else p

/-- Writes at 0x180 to 0x189 (R324). -/
def pwrWrite (a v : Nat) (p : Pwr) : Pwr :=
  match a with
  | 0x181 => { p with wakeEn := BitVec.ofNat 5 v ||| 1 }
  | 0x182 => { p with wakeSrc := p.wakeSrc &&& ~~~(BitVec.ofNat 5 v) }
  | 0x183 => { p with wakeTmr := BitVec.ofNat 32 (p.wakeTmr.toNat / 65536 * 65536 + v) }
  | 0x184 => { p with wakeTmr := BitVec.ofNat 32 (v * 65536 + p.wakeTmr.toNat % 65536) }
  | 0x189 => { p with brownout := p.brownout && !v.testBit 0, vbatHigh := p.vbatHigh && !v.testBit 1,
                      sleepAborted := p.sleepAborted && !v.testBit 2 }
  | _ => p

/-- Registers in which a written 1 clears a flag (R317 to R325; 02 R51, R53, R65). -/
def clearsOnOne (a : Nat) : Bool :=
  a == 0x009 || (0x0C2 ≤ a && a ≤ 0x0C5) || a == 0x0E6 || a == 0x0E8 || a == 0x17F || a == 0x182 || a == 0x189 || a == 0x1A1 || a == 0x1A5 ||
  (0x100 ≤ a && a < 0x180 && (a % 8 == 1 || (6 ≤ a % 8 && (angleSlot a).2 == 3)))

/-- HOST_RESET (R317). -/
def hostResetWrite (v : Nat) (s : State) : State := if v = 0xA55A then resetDevice causeHost s else s

/-- One register write (R310, R315, R316); of the flags a write clears, those the device sets in the same clock stay (R16). -/
def regWrite (a : Nat) (d : Half) (s : State) : State :=
  let v := if clearsOnOne a then w1c s a d.toNat else d.toNat
  if !spiAlive s || unassignedReg a || regAsleep s a then s
  else if a = 0x009 then
    modPort (fun p => { p with tokenViol := p.tokenViol && !v.testBit 10, asleepAccess := p.asleepAccess && !v.testBit 11 }) s
  else if a = 0x00C then hostResetWrite d.toNat s
  else if a = 0x00D then modDev (fun x => { x with scratch := d }) s
  else if a < 0x040 then s
  else if a < 0x0C0 then (if a % 2 = 0 then doorbell ((a - 0x040) / 2) v s else s)
  else if a < 0x100 then modPort (portWrite a v) s
  else if a = 0x17E then modTb (fun t => { t with ttIe := v.testBit 0 }) s
  else if a = 0x17F then
    modTb (fun t => { t with ttLate := t.ttLate &&& ~~~(BitVec.ofNat 5 v), ttSkip := t.ttSkip &&& ~~~(BitVec.ofNat 5 (v / 256)) }) s
  else if a < 0x180 then
    if a % 8 < 6 then modTmr ((a - 0x100) / 8) (tmrWrite (a % 8) v) s
    else
      let n := (angleSlot a).1
      match (angleSlot a).2 with
      | 2 => angleCtrlWrite n v s
      | 3 => modSrc n (angleStatWrite v) s
      | _ => s
  else if a < 0x1A0 then modPwr (pwrWrite a v) s
  else if a = 0x1A1 then modTwin (fun t => { t with flags := t.flags &&& ~~~(BitVec.ofNat 4 v) }) s
  else if a = 0x1A5 then modIlk (fun e => e &&& ~~~(BitVec.ofNat 12 v)) s
  else s

/-! ## The window under tokens (R331) -/

/-- A host access to a word is refused. -/
def refuseAccess (a : Nat) (write : Bool) (s : State) : State :=
  modPort (fun p => { p with tokenViol := true, violCount := satSucc 0xFFFF p.violCount,
                             violAddr := if p.tokenViol then p.violAddr else a,
                             violWrite := if p.tokenViol then p.violWrite else write }) s

/-- The host writes a whole window word. -/
def hostWriteWord (idx : Nat) (lo hi : Half) (s : State) : State :=
  if !s.dev.ready then s
  else
    let a := 4 * idx
    if (granuleHolder s (a / 32)).isSome then refuseAccess a true s
    else winWrite a (leBytes 4 (hi.toNat * 65536 + lo.toNat)) s

/-- The host reads a whole window word: low half, then high half. -/
def hostReadWord (idx : Nat) (s : State) : State × List Half :=
  if !s.dev.ready then (modPort (fun p => { p with asleepAccess := true }) s, [0, 0])
  else
    let a := 4 * idx
    if (granuleHolder s (a / 32)).isSome then (refuseAccess a false s, [0, 0])
    else
      let v := (winWord s a).toNat
      (s, [BitVec.ofNat 16 v, BitVec.ofNat 16 (v / 65536)])

end Sys2Proof.Machine
end

