-- ==== Sys2Proof/Machine/Results.lean ====
section
/-!
DEFINITION. Sys2Proof/Machine/Results.lean: result buffers posted on a ring (11 R334, R335; 05 R176) and sample records.
-/
namespace Sys2Proof.Machine

/-- Mode of a posted buffer, 0 where the descriptor is no posted buffer of the ring. -/
def postMode (ring : Nat) (h : Held) : Nat :=
  match h.kind with
  | .post m => if h.ring = ring then m else 0
  | _ => 0

def postedOn (s : State) (ring : Nat) : List Held := s.port.held.filter fun h => postMode ring h ≠ 0

/-- Put results into a posted buffer. -/
def fillBuffer (h : Held) (bs : List Byte) (s : State) : State :=
  modPort (fun p => { p with held := p.held.map fun x =>
    if x.ring == h.ring && x.idx == h.idx then { x with written := x.written + bs.length } else x })
    (winWrite (h.buf + h.written) bs s)

/-- Complete a posted buffer that has no room: with what it holds, or with ST_BAD_ARG where it is empty (R334). What it holds may report a
mirrored change, so it waits for every change not yet acknowledged (05 R163). -/
def closeFull (h : Held) (s : State) : State :=
  if h.written = 0 then done h ST_BAD_ARG s else finishMirrored s.twin.ackedSeq h ST_OK 0 0 0 h.written s

/-- Offer results to the posted buffers, in the order posted: the buffer that takes them whole, none where none does. -/
def offerTo : List Held → List Byte → State → State × Option Held
  | [], _, s => (s, none)
  | h :: rest, bs, s =>
    if h.written + bs.length ≤ h.len then (fillBuffer h bs s, some { h with written := h.written + bs.length })
    else offerTo rest bs (closeFull h s)

/-- The results of a block that has ended go to the ring its service had, all to one buffer; a mode 1 buffer that takes them completes with
the block, once a mirrored change that they report is acknowledged (R334, 14 R396). Those that no buffer takes are dropped and counted (R176). -/
def writeResults (seq0 svc ring : Nat) (ws : List Word) (s : State) : State :=
  if ws.isEmpty then s
  else match offerTo (postedOn s ring) (wordsBytes ws) s with
    | (t, some h) => if postMode ring h = 1 then finishMirrored seq0 h ST_OK 0 0 0 h.written t else t
    | (t, none) => modSvc svc (fun v => { v with drops := satSucc 65535 v.drops }) t

/-! ## Results that come in after a block's end -/

/-- A block's results are gathered from its start or end on. -/
def openResults (svc startClk ring : Nat) (s : State) : State :=
  modSched (fun d => { d with results := d.results ++ [{ svc := svc, startClk := startClk, ring := ring, words := [] }] }) s

/-- Words for the results of a block. -/
def gather (svc startClk : Nat) (ws : List Word) (s : State) : State :=
  modSched (fun d => { d with results := d.results.map fun x =>
    if x.svc == svc && x.startClk == startClk then { x with words := x.words ++ ws } else x }) s

/-- The results of a block are complete and go out (R334). -/
def flushResults (svc startClk : Nat) (s : State) : State :=
  match s.sched.results.find? fun x => x.svc == svc && x.startClk == startClk with
  | none => s
  | some x =>
    let s := modSched (fun d => { d with results := d.results.filter fun y => !(y.svc == svc && y.startClk == startClk) }) s
    writeResults s.twin.mirrorSeq svc x.ring x.words s

/-- One word of sample records (R335). -/
def sampleWord (code : Nat) (samples : List Nat) : Word :=
  BitVec.ofNat 32 (code * 2 ^ 30 + samples.getD 0 0 % 1024 + samples.getD 1 0 % 1024 * 1024 + samples.getD 2 0 % 1024 * 2 ^ 20)

/-- A run of samples as records (R335). -/
def sampleRun (samples : List Nat) : List Word :=
  let groups := (List.range (ceilDiv samples.length 3)).map fun k => (samples.drop (3 * k)).take 3
  groups.zipIdx.map fun g => sampleWord (if g.2 + 1 = groups.length then 1 else 0) g.1

end Sys2Proof.Machine
end

