-- ==== Sys2Proof/Machine/Carrier.lean ====
section
/-!
DEFINITION. Sys2Proof/Machine/Carrier.lean: what the lines of a block do at each of its cycles: frames and their gaps, driven and
downlink cycles, drive and receive weights, quench (03 R77 to R98; 04 R109 to R115; 08 R237). A cycle of a block is a number of periods
of its carrier from the block's start; a cycle boundary has the number of the cycle it begins.
-/
namespace Sys2Proof.Machine

def findBlock (s : State) (svc : Nat) : Option Block := s.sched.blocks.find? fun b => b.svc == svc

def modBlock (svc : Nat) (f : Block → Block) (s : State) : State :=
  modSched (fun d => { d with blocks := d.blocks.map fun b => if b.svc == svc then f b else b }) s

/-- The machine with the parameters as they stood at a block's start: what is written to the route or to an undefined service while the block
runs changes nothing in it (03 R84; 12 R348). -/
def atStart (b : Block) (s : State) : State := { s with par := b.geom }

/-- The same of the running block of a service, where it has one. -/
def startOf (svc : Nat) (s : State) : State := ((findBlock s svc).map fun b => atStart b s).getD s

/-! ## Frames (04 R109, R110) -/

/-- t_e of R110. -/
def frameCyc (bits : List Bool) : Nat := 84 + (bits.map fun b => if b then 28 else 18).sum

/-- Gaps of a frame of `n` bits (R110): one per bit, the start of the end-of-frame interval, and the final gap. -/
def frameGaps (n : Nat) : Nat := n + 2

/-- Cycles at which the gaps of a frame begin, but for the final one: `x` and on, one after each bit. -/
def bitGaps : Nat → List Bool → List Nat
  | x, [] => [x]
  | x, b :: bs => x :: bitGaps (x + if b then 28 else 18) bs

/-- Cycles at which the gaps of a frame begin whose lead begins at `x`. -/
def gapStarts (x : Nat) (bits : List Bool) : List Nat := bitGaps (x + 40) bits ++ [x + frameCyc bits - 8]

def blockGapStarts (b : Block) : List Nat := b.frames.flatMap fun f => gapStarts f.1 f.2

/-- A cycle lies in a gap of the block's frames. -/
def inGap (b : Block) (x : Nat) : Bool := (blockGapStarts b).any fun g => g ≤ x && decide (x < g + 8)

/-- A cycle lies in a frame, from the first cycle of its lead to E (03 R98). -/
def inFrame (b : Block) (x : Nat) : Bool := b.frames.any fun f => f.1 ≤ x && decide (x < f.1 + frameCyc f.2)

/-- Cycles of `[a, c)` that lie in `[p, q)`. -/
def shared (a c p q : Nat) : Nat := min c q - max a p

/-- Driven downlink cycles of a block within `[a, c)` (R98, R99): those of its frames outside their gaps. -/
def downlinkCycles (b : Block) (a c : Nat) : Nat :=
  (b.frames.map fun f => shared a c f.1 (f.1 + frameCyc f.2)).sum - ((blockGapStarts b).map fun g => shared a c g (g + 8)).sum

/-! ## Which member is driven when (03 R78, R83, R90; 08 R237) -/

/-- Cycle at which the measurement bursts of a ZONE_TRACK block begin: the E of its wake pattern. -/
def burstsFrom (b : Block) : Nat := ((b.frames.getLast?).map fun f => f.1 + frameCyc f.2).getD 0

/-- Place of a line in the bursts: its number among the driven members as they stood at the start. -/
def burstIndex (b : Block) (l : Nat) : Nat := (linesOf b.bursts).idxOf l

/-- First driven cycle of a line from which the tests of R78 count at cycle `x`: cycle 0, and in ZONE_TRACK that of its burst. -/
def firstDriven (b : Block) (l x : Nat) : Nat :=
  let t := burstsFrom b + 72 * burstIndex b l
  if b.type = ZONE_TRACK ∧ burstsFrom b ≤ x then t else 0

/-- A line is driven in a cycle: not outside the span, in a gap, before a burst of another member or after its own, nor in the quench that
a sweep's block holds (16 R454). -/
def memberDriven (b : Block) (l x : Nat) : Bool :=
  b.driven.getLsbD l && decide (x < b.span) && !inGap b x &&
    (if b.type = ZONE_TRACK ∧ burstsFrom b ≤ x then firstDriven b l x ≤ x && decide (x < firstDriven b l x + 64)
     else b.type != 7 || decide (x + 8 < b.span))

/-- Driven cycles of a line from its first driven cycle to the end of cycle `x`, gap cycles left out (R78). -/
def drivenCycles (b : Block) (l x : Nat) : Nat :=
  let a := firstDriven b l x
  x + 1 - a - ((blockGapStarts b).map fun g => shared a (x + 1) g (g + 8)).sum

/-- Cycles of a line since its first driven cycle or the last gap end, at cycle `x` (R95). -/
def sinceDriveBegan (b : Block) (l x : Nat) : Nat :=
  x - ((blockGapStarts b).filter fun g => g + 8 ≤ x).foldl (fun m g => max m (g + 8)) (firstDriven b l x)

/-- The cycle boundary is one of driven downlink of a line (R98, R99): frames only, so that turnaround, receive window, carrier held for a
reply, measurement bursts and pass reads are none. -/
def downlinkAt (b : Block) (l x : Nat) : Bool := memberDriven b l x && inFrame b x

/-! ## Drive (03 R77 to R80, R85) -/

/-- Target peak in mA (R78). -/
def targetPeak (s : State) (r l : Nat) : Nat := linePar s l 3 * weightAmp (routeWeight s r l) / 1023

/-- drive_phase of a line in a block, in 1/512 cycle (R80): with the weight of the block's start (R84) and the trim as it stands. -/
def drivePhase (s : State) (b : Block) (l : Nat) : Nat :=
  ((8 * weightPhase (routeWeight (atStart b s) b.route l) + (liveParam s (lineId l 6)).toInt) % 512).toNat

/-- What a line's driver does: phase in 1/512 cycle, target peak in mA, conduction angle in 0.1° (R78), bank in pF (R79), edge time at 14 V in
ns (R77). -/
structure Drive where
  phase : Nat
  peakMa : Nat
  conduction : Nat
  bankPf : Nat
  edgeNs : Nat
  deriving DecidableEq, Repr

/-- Edge time of a slew code (R77). -/
def slewNs (code : Nat) : Nat := [10, 25, 60, 120].getD code 0

/-- The block that drives a line; a SIDING or FAILED device drives none (14 R384), and none a line that is not fitted (R74). -/
def drivingBlock (s : State) (l : Nat) : Option Block :=
  if isSiding s || s.dev.failed || linePar s l 0 == 0 then none else s.sched.blocks.find? fun b => b.driven.getLsbD l

/-- Target peak of a line in a block, by the weight of the block's start (R84): a sweep's at its calibration amplitude (16 R454). -/
def blockPeak (s : State) (b : Block) (l : Nat) : Nat :=
  if b.type = 7 then linePar s l 3 * par (atStart b s) (maintId 2) / 1023
  else linePar s l 3 * weightAmp (routeWeight (atStart b s) b.route l) / 1023

/-- Cycle of a block that the present clock lies in. -/
def cycleNow (s : State) (b : Block) : Nat := (s.clk - b.startClk) / b.div

/-- Conduction angle of a line at a cycle of a block, in 0.1°, from 0° to 180° (R78): set from coil_l, coil_r and VBAT at a first driven cycle
and adjusted each cycle to the target; the rule gives neither formula (a free value, assumption log 3). -/
def conduction (s : State) (b : Block) (l x : Nat) : Nat :=
  min 1800 (Config.conductionAngle (linePar s l 11) (linePar s l 12) s.dev.vbatMv (blockPeak s b l) (drivenCycles b l x))

/-- Tuning code in force at a cycle of a block: in a sweep's block code k in cycles 32 k to 32 k + 31 (16 R454); then the code chosen, which the
row that ends the block brings (until then a free value, assumption log 3). -/
def codeAt (s : State) (b : Block) (l x : Nat) : Nat :=
  if b.type ≠ 7 then (liveParam s (lineId l 5)).toNat
  else if x < 2048 then x / 32
  else Config.sweptCode b.startClk % 64

/-- Tuning code of a line now. -/
def tuneCode (s : State) (l : Nat) : Nat :=
  match drivingBlock s l with
  | some b => codeAt s b l (cycleNow s b)
  | none => (liveParam s (lineId l 5)).toNat

/-- What the driver of a line does now; none while it is undriven. The members of a block transmit the same gaps at their own phases and
amplitudes (R85). -/
def lineDrive (s : State) (l : Nat) : Option Drive :=
  match drivingBlock s l with
  | none => none
  | some b =>
    if b.startClk ≤ s.clk && memberDriven b l (cycleNow s b) then
      let x := cycleNow s b
      some { phase := if b.type = 7 then 0 else drivePhase s b l, peakMa := blockPeak s b l, conduction := conduction s b l x,
             bankPf := 20 * codeAt s b l x, edgeNs := slewNs (linePar s l 2) }
    else none

/-! ## Quench (03 R91 to R94, R96) -/

/-- A flag of a line is set (R96). -/
def setFlag (l bit : Nat) (s : State) : State := modLine l (fun x => { x with flags := x.flags ||| (1 <<< bit) }) s

/-- Cycles in which a current of 0.95 × `peak` mA falls at a voltage in mV, by 4/π × V × Tcyc / (2L) a cycle (R91). -/
def fallCycles (peak l01 mv div : Nat) : Nat := ceilDiv (190 * peak * 32 * l01 * 355) (4000 * max 1 (mv * div) * 113)

/-- Cycles until the current of a line is below 5 % of its peak (R91 to R93): under regeneration, or, above 38.0 V and after two cycles that
did not suffice, into the clamp. Never fewer than 2, the figure for a coil inside the limits, nor more than 8 (R92). -/
def quenchCyc (s : State) (b : Block) (l : Nat) : Nat :=
  let peak := blockPeak s b l
  let n := fallCycles peak (linePar s l 11) s.dev.vbatMv b.div
  if 38000 < s.dev.vbatMv ∨ n ≤ 2 then min 8 (max 2 n)
  else
    -- of the fall at 38.0 V, the first two cycles made the share VBAT / 38.0 V
    let whole := fallCycles (peak * 38000) (linePar s l 11) 38000 b.div
    min 8 (2 + ceilDiv (whole - 2 * s.dev.vbatMv) 38000)

/-- Flags that a gap or quench now leaves on a line (R93). -/
def quenchLine (b : Block) (s : State) (l : Nat) : State :=
  if 38000 < s.dev.vbatMv then setFlag l 4 s
  else if fallCycles (blockPeak s b l) (linePar s l 11) s.dev.vbatMv b.div ≤ 2 then s else setFlag l 1 s

/-- Flags that gaps or the quench leave on the driven lines of a block. -/
def quenchFlags (b : Block) (s : State) : State := (linesOf b.driven).foldl (quenchLine b) s

/-- First cycle of the gap that ends the burst of a member of a ZONE_TRACK block (08 R237). -/
def burstQuench (b : Block) (l : Nat) : Nat := burstsFrom b + 72 * burstIndex b l + 64

/-- Members whose burst has reached its gap by cycle `x`, and has not been judged. -/
def quenchedBy (b : Block) (x : Nat) : List Nat :=
  (linesOf (b.driven &&& ~~~b.quenched)).filter fun l => burstQuench b l ≤ x

/-- The gaps of a ZONE_TRACK block's bursts up to cycle `x` leave their flags, at the supply voltage that stood as they came (R93). -/
def judgeBursts (b : Block) (x : Nat) (s : State) : State :=
  if b.type ≠ ZONE_TRACK then s
  else
    let ls := quenchedBy b x
    let done := ls.foldl (fun (m : BitVec 24) l => m ||| (1 <<< l)) b.quenched
    modBlock b.svc (fun y => { y with quenched := done }) (ls.foldl (quenchLine b) s)

/-- Lines of a block that are in a gap or will come to one of the frame on the air, at cycle `x`: all driven ones in a frame, else those in
the gap of their burst. -/
def inQuench (b : Block) (x : Nat) : List Nat :=
  if inFrame b x then linesOf b.driven
  else if b.type = ZONE_TRACK then (linesOf b.driven).filter fun l => burstQuench b l ≤ x && decide (x < burstQuench b l + 8)
  else []

/-- Flags of the end of a block (R93): in ZONE_TRACK those of its bursts, else those of the quench. -/
def endQuench (b : Block) (s : State) : State := if b.type = ZONE_TRACK then judgeBursts b b.span s else quenchFlags b s

/-- Cycles past a block's span until its lines are quenched (R92): the longest of its driven lines. The spans of ZONE_TRACK and of the
calibration sweep hold their quench (08 R237, 16 R454). A block frees its lines together, at BLOCK_END (DEDUCED, assumption log 15). -/
def holdCyc (s : State) (b : Block) : Nat :=
  if b.type = ZONE_TRACK ∨ b.type = 7 then 0 else ((linesOf b.driven).map (quenchCyc s b)).foldl max 0

/-- The supply voltage changes: gaps that have come so far ran at the old one, those of the frames now on the air run at the new one (R93). -/
def setVbat (mv : Nat) (s : State) : State :=
  let s := s.sched.blocks.foldl (fun s b => judgeBursts b (cycleNow s b) s) s
  let s := modDev (fun d => { d with vbatMv := mv }) s
  s.sched.blocks.foldl (fun s b => (inQuench b (cycleNow s b)).foldl (quenchLine b) s) s

/-- A block sends a frame, whose lead begins once the last command or window is over; its gaps leave their flags (R93). -/
def sendFrame (svc : Nat) (bits : List Bool) (s : State) : State :=
  match findBlock s svc with
  | none => s
  | some b => modBlock svc (fun b => { b with frames := (b.used, bits) :: b.frames }) (quenchFlags b s)

/-! ## Receive weights (03 R82, R86) -/

/-- A complex number in units of 1/(1,023 × 2^20) count. -/
structure Cx where
  i : Int
  q : Int
  deriving DecidableEq, Repr

def Cx.add (a b : Cx) : Cx := { i := a.i + b.i, q := a.q + b.q }

def Cx.sq (a : Cx) : Nat := (a.i * a.i + a.q * a.q).toNat

/-- cos (2π k / 64) × 2^20 for k from 0 to 16. -/
def quarterCos : List Int :=
  [1048576, 1043527, 1028428, 1003425, 968758, 924761, 871859, 810560, 741455, 665210, 582558, 494295, 401273, 304386, 204567, 102778, 0]

/-- cos (2π k / 64) × 2^20. -/
def cos64 (k : Nat) : Int :=
  let x := k % 64
  if x ≤ 16 then quarterCos.getD x 0
  else if x ≤ 32 then -(quarterCos.getD (32 - x) 0)
  else if x ≤ 48 then -(quarterCos.getD (x - 32) 0)
  else quarterCos.getD (64 - x) 0

def sin64 (k : Nat) : Int := cos64 (k + 48)

def rxPhase (w : Word) : Nat := w.toNat / 2 ^ 16 % 64
def rxAmp (w : Word) : Nat := w.toNat / 2 ^ 22

/-- rx_amp × e^(−j 2π rx_phase / 64) × s / 1,023 of one member (R86). -/
def weighed (w : Word) (x : Phasor) : Cx :=
  let c := cos64 (rxPhase w)
  let d := sin64 (rxPhase w)
  { i := rxAmp w * (c * x.i + d * x.q), q := rxAmp w * (c * x.q - d * x.i) }

/-- A correlation as it stands, with no weight (R86, rx_mode 1). -/
def plain (x : Phasor) : Cx := { i := 1023 * 2 ^ 20 * x.i, q := 1023 * 2 ^ 20 * x.q }

/-- Sum of the lists of several members, place by place. -/
def sumLists : List (List Cx) → List Cx
  | [] => []
  | [l] => l
  | l :: rest => List.zipWith Cx.add l (sumLists rest)

/-- The coherent sum over the members of a block's route with rx_amp above 0, with the weights of its start (R84, R86). -/
def combine (s : State) (b : Block) (rx : List (Nat × List Phasor)) : List Cx :=
  let weight := fun l => routeWeight (atStart b s) b.route l
  sumLists ((rx.filter fun p => (routeMembers (atStart b s) b.route).getLsbD p.1 && 0 < rxAmp (weight p.1)).map fun p =>
    p.2.map (weighed (weight p.1)))

end Sys2Proof.Machine
end

