-- ==== Sys2Proof/Machine/Exchange.lean ====
section
/-!
DEFINITION. Sys2Proof/Machine/Exchange.lean: a block's exchange over the air: frames and their timing, decoding of replies,
outcomes, the tree walk, repeats and the sequence of each block type (04 R108 to R155; 05 R166 to R175; 06 R199 to R202; 07
R220; 15 R437).
-/
namespace Sys2Proof.Machine

def ST_ILK (k : Nat) : Nat := 0x0300 + k

/-! ## Command frames (R110, R135) -/

/-- Bits of a command before its CRC. -/
def cmdFields : AirCmd → List Bool
  | .invWalk m slow p pre => bitsOf 8 0x01 ++ bitsOf 4 m.toNat ++ [slow] ++ bitsOf 7 p ++ pre
  | .invAssign direct slow uid h => bitsOf 8 0x02 ++ [direct, slow] ++ bitsOf 16 (uidchk uid).toNat ++ bitsOf 16 h
  | .read h a n _ => bitsOf 8 0x10 ++ bitsOf 16 h ++ bitsOf 16 a ++ bitsOf 8 n
  | .measure h ch n _ => bitsOf 8 0x12 ++ bitsOf 16 h ++ bitsOf 8 ch ++ bitsOf 8 n
  | .auth1 h rb _ => bitsOf 8 0x20 ++ bitsOf 16 h ++ bitsOf 32 rb.toNat
  | .auth1u uid rb => bitsOf 8 0x21 ++ bitsOf 16 (uidchk uid).toNat ++ bitsOf 32 rb.toNat
  | .auth2 c bp _ => bitsOf 8 0x22 ++ [c] ++ bitsOf 32 bp.toNat
  | .hStatus h _ => bitsOf 8 0x30 ++ bitsOf 16 h
  | .hChain h op pl mac _ =>
    bitsOf 8 0x31 ++ bitsOf 16 h ++ bitsOf 8 op ++ bitsOf 8 pl.length ++ bitsOfBytes pl ++ bitsOf 32 mac.toNat

/-- A whole command frame. -/
def cmdFrame (c : AirCmd) : List Bool := cmdFields c ++ bitsOf 16 (crc16 (cmdFields c)).toNat

/-- Reply rate of a command. -/
def cmdSlow : AirCmd → Bool
  | .invWalk _ slow _ _ => slow
  | .invAssign _ slow _ _ => slow
  | .read _ _ _ slow => slow
  | .measure _ _ _ slow => slow
  | .auth1 _ _ slow => slow
  | .auth1u _ _ => false
  | .auth2 _ _ slow => slow
  | .hStatus _ slow => slow
  | .hChain _ _ _ _ slow => slow

/-- Bits of the reply in its OK form, preamble and CRC included (R136); 0 where there is none. -/
def replyLen : AirCmd → Nat
  | .invWalk _ _ p _ => 68 - p
  | .invAssign .. => 84
  | .read _ _ n _ => 28 + 32 * n
  | .measure _ ch n _ => 28 + 8 * ceilDiv (10 * n * popBelow ch 8) 8
  | .auth1 .. => 84
  | .auth1u .. => 84
  | .auth2 c _ _ => if c then 28 else 0
  | .hStatus .. => 60
  | .hChain _ op _ _ _ => 68 + 8 * chainReplyLen op

/-- Cyc from E to the close of the window (R121). -/
def windowClose (c : AirCmd) (accepted : Bool) : Nat :=
  if replyLen c = 0 then 0
  else if accepted then 144 + replyLen c * bitLen (cmdSlow c) + 6
  else if cmdSlow c then 278 else 214

/-- Cyc a command and its window take at most. -/
def cmdCost (c : AirCmd) : Nat := frameCyc (cmdFrame c) + windowClose c true

/-! ## Replies (R116 to R121) -/

/-- A decided bit (R119). -/
inductive RBit where
  | zero | one | coll | eras
  deriving DecidableEq, Repr

/-- Half-bits of a reply at one start offset: the square of each magnitude and the total of the loaded half-bits of the preamble, in units
of 1/(1,023 × 2^20) count (R119 step 1). -/
structure Heard where
  sq : List Nat
  total : Nat
  deriving DecidableEq, Repr

def Heard.at (h : Heard) (k : Nat) : Nat := h.sq.getD k 0

/-- A number of counts in those units. -/
def counts20 (n : Nat) : Nat := n * 1023 * 2 ^ 20

def heard (l : List Cx) : Heard :=
  let sq := l.map Cx.sq
  { sq := sq, total := ([0, 2, 5, 6].map fun k => isqrtFrom 48 0 (sq.getD k 0)).sum }

/-- Step 1: the offset with the largest total, the nearest E + 144 first, the earlier of two equally near. -/
def bestOffset (l : List (List Cx)) : Heard :=
  let h := l.map heard
  let at' := fun k => h.getD k { sq := [], total := 0 }
  [1, 3, 0, 4].foldl (fun best k => if best.total < (at' k).total then at' k else best) (at' 2)

/-- Step 2: the mean of the loaded half-bits is a quarter of their total. -/
def preambleOk (h : Heard) : Bool :=
  ([0, 2, 5, 6].all fun k => counts20 16 ^ 2 < h.at k) && ([1, 3, 4, 7].all fun k => 256 * h.at k < h.total ^ 2)

/-- Steps 3 and 4. -/
def Heard.loaded (h : Heard) (k : Nat) : Bool := counts20 8 ^ 2 < h.at k && h.total ^ 2 < 256 * h.at k

/-- Step 5: bit `k` after the preamble. -/
def replyBit (h : Heard) (k : Nat) : RBit :=
  match h.loaded (8 + 2 * k), h.loaded (9 + 2 * k) with
  | true, true => .coll
  | true, false => .one
  | false, true => .zero
  | false, false => .eras

/-- What the demodulator of a block is given, by the items of its route at its start (R84, R86): in rx_mode 0 the coherent sum over the members; in rx_mode 1 each member, in line
order, whatever its receive weight. -/
def demodulated (s : State) (b : Block) (rx : List RxChannel) : List (List (List Cx)) :=
  if par (atStart b s) (routeId b.route 25) = 0 then [(List.range 5).map fun k => combine s b (rx.map fun c => (c.line, c.offsets.getD k []))]
  else (linesOf (routeMembers (atStart b s) b.route)).filterMap fun l => (rx.find? fun c => c.line == l).map fun c => c.offsets.map fun o => o.map plain

/-- The channel decided on: the one whose accepted preamble is largest, the first, of the lowest line, of equals (R86). -/
def chosenChannel (chans : List (List (List Cx))) : Option Heard :=
  match (chans.map bestOffset).filter preambleOk with
  | [] => none
  | h :: rest => some (rest.foldl (fun b x => if b.total < x.total then x else b) h)

/-- The bits of a reply of `n` bits after its preamble; none where no preamble is accepted. -/
def receive (s : State) (b : Block) (n : Nat) (rx : List RxChannel) : Option (List RBit) :=
  (chosenChannel (demodulated s b rx)).map fun h => (List.range (n - 4)).map (replyBit h)

def rbit : RBit → Bool
  | .one => true
  | _ => false

/-- Outcome of a command (R153). -/
inductive Outcome where
  | noReply | corrupt | collision
  | tag (status : Nat)
  | clean (bits : List Bool)
  deriving DecidableEq, Repr

def isClean (bits : List RBit) : Bool := bits.all fun b => b == .one || b == .zero

/-- The outcome of a reply that carries a CRC, with or without a status field. -/
def outcomeOf (hasStatus : Bool) (bits : List RBit) : Outcome :=
  let st := natOfBits ((bits.take 8).map rbit)
  let short := hasStatus && isClean (bits.take 8) && st != 0
  let form := if short then bits.take 24 else bits
  if form.any fun b => b == .coll then .collision
  else if !isClean form || crcReg (form.map rbit) ≠ 0x1D0F then .corrupt
  else if short then .tag (if 7 < st then 1 else st)
  else .clean ((form.take (form.length - 16)).map rbit)

/-- Whether the reply to a command carries a status field. -/
def hasStatus : AirCmd → Bool
  | .invAssign .. => false
  | .auth1 .. => false
  | .auth1u .. => false
  | .invWalk .. => false
  | _ => true

def outcomeStatus : Outcome → Nat
  | .noReply => ST_ILK_NO_REPLY
  | .corrupt => ST_ILK_CORRUPT
  | .collision => ST_ILK_COLLISION
  | .tag _ => ST_ILK_TAG_STATUS
  | .clean _ => ST_OK

/-! ## Blocks -/

/-- Reply rate of a block's commands (R117), by the items of its start (12 R348). -/
def blockSlow (s : State) (b : Block) : Bool :=
  match b.type with
  | 4 => (svcPar (atStart b s) b.svc 12).testBit 4
  | 5 => svcReadSlow (atStart b s) b.svc
  | 6 => (svcPar (atStart b s) b.svc 12).testBit 17
  | _ => false

/-- Cyc of the span that commands may use: all but the quench. -/
def usable (b : Block) : Nat := b.span - 8

/-! ## Session handles (R144, R155) -/

/-- The next handle after `h`, barred ones left out. -/
def nextHandle : Nat → List Nat → Nat → Nat
  | 0, _, h => h
  | n + 1, barred, h =>
    let c := if h = 0xFFFD then 1 else h + 1
    if barred.contains c then nextHandle n barred c else c

def takeHandle (s : State) : State × Nat :=
  let h := nextHandle 17 s.sched.barred s.sched.handleCtr
  (modSched (fun d => { d with handleCtr := h }) s, h)

def barHandle (h : Nat) (s : State) : State :=
  modSched (fun d => { d with barred := (d.barred ++ [h]).drop (d.barred.length + 1 - 16) }) s

/-! ## Proofs (R147, R148, R150) -/

/-- First 4 bytes of a CMAC as a word. -/
def mac4 (key msg : List Byte) : Word := BitVec.ofNat 32 (beNat ((cmac key msg).take 4))

def uidTail (uid : Dword) : List Byte := (beBytes 8 uid.toNat).drop 1

def proofTp (kt : List Byte) (rb rt : Word) (uid : Dword) : Word :=
  mac4 kt ((0x01 : Byte) :: beBytes 4 rb.toNat ++ beBytes 4 rt.toNat ++ uidTail uid)

def proofBp (kt : List Byte) (rb rt : Word) (uid : Dword) : Word :=
  mac4 kt ((0x02 : Byte) :: beBytes 4 rt.toNat ++ beBytes 4 rb.toNat ++ uidTail uid)

def sessionKey (kt : List Byte) (rb rt : Word) (uid : Dword) : List Byte :=
  cmac kt ((0x03 : Byte) :: beBytes 4 rb.toNat ++ beBytes 4 rt.toNat ++ uidTail uid)

/-- Bytes of a request as a secure command's mac covers them: from code to the last field before mac. -/
def chainRequest (h op : Nat) (pl : List Byte) : List Byte :=
  (0x31 : Byte) :: beBytes 2 h ++ [BitVec.ofNat 8 op, BitVec.ofNat 8 pl.length] ++ pl

/-! ## Issuing commands -/

/-- The exchange is over with a status, unless one stands. -/
def closeExchange (svc status : Nat) (s : State) : State :=
  modBlock svc (fun b => { b with cmd := none, finished := true, status := if b.status = ST_OK then status else b.status }) s

/-- Status that a failed command gives its block: the failure of step 7 of a coupling is none (06 R200). -/
def sideStatus (b : Block) (st : Nat) : Nat := if b.type = HITCH_COUPLE ∧ b.step = 6 then ST_OK else st

/-- Gap word of a failed operation (05 R175). -/
def gapWord (handle kind status : Nat) : Word := BitVec.ofNat 32 (3 * 2 ^ 30 + handle * 2 ^ 18 + kind * 65536 + status)

/-- Marker word (05 R175). -/
def markerWord (handle kind info : Nat) : Word := BitVec.ofNat 32 (2 * 2 ^ 30 + handle * 2 ^ 18 + kind * 65536 + info)

/-- Kind that a gap word gives a failed operation (05 R175). -/
def opKind : AirCmd → Nat
  | .measure .. => 0
  | .read .. => 1
  | _ => 3

/-- Roster handle that the gap word of a sweep's assignment names: that of the UID's entry, 0 where it has none. -/
def gapHandle (s : State) : AirCmd → Nat
  | .invAssign _ _ uid _ => ((findUid s uid).map fun e => e.handle).getD 0
  | _ => 0

/-- An operation failed: the roster services leave a gap word, and a read is noted as failed (05 R157, R175). -/
def opFailed (svc : Nat) (c : AirCmd) (status : Nat) (s : State) : State :=
  modBlock svc (fun b =>
    if b.type = ROSTER_READ then
      { b with recs := b.recs ++ [gapWord (svcHandle (atStart b s) svc) (opKind c) status], failed := true,
               status := if b.status = ST_OK then status else b.status }
    else if b.type = ROSTER_SWEEP then { b with gaps := b.gaps ++ [(b.found.length, gapWord (gapHandle s c) 3 status)] }
    else b) s

/-- Status of a command whose first attempt the span does not hold (R154): more DATA than the span has room for is no failure (15 R437). -/
def noSpanStatus (b : Block) : Nat := if b.type = HITCH_COUPLE ∧ (b.step = 6 ∨ b.step = 14) then ST_OK else ST_ILK_NO_SPAN

/-- A command goes out: its frame is on the lines, its window follows. -/
def send (svc : Nat) (c : AirCmd) (attempt : Nat) (s : State) : State :=
  modBlock svc (fun b => { b with cmd := some c, attempt := attempt }) (sendFrame svc (cmdFrame c) s)

/-- A first attempt: sent where the span holds it, else the block sends no more (R154). -/
def issue (svc : Nat) (c : AirCmd) (s : State) : State :=
  match findBlock s svc with
  | none => s
  | some b =>
    if usable b < b.used + cmdCost c then closeExchange svc (noSpanStatus b) (opFailed svc c ST_ILK_NO_SPAN s)
    else send svc c 1 s

/-- The word of the `k`-th draw to come. -/
def drawWord (s : State) (k : Nat) : Word := BitVec.ofNat 32 (beNat (drawBytes 4 { s with free := s.free + 4 * k }))

/-- A challenge drawn (R148). -/
def drawRb (s : State) : Word := drawWord s 0

/-- A challenge for a block: the first draw that it has not sent yet. The spec does not bound the draws; where as many as it has sent and one
more all repeat, the model takes the least word not sent (R148; DESIGN CHOICE, assumption log 16). -/
def freshRb (sent : List Word) (s : State) : Word × State :=
  match (List.range (sent.length + 1)).find? fun k => !sent.contains (drawWord s k) with
  | some k => (drawWord s k, used (4 * (k + 1)) s)
  | none =>
    ((((List.range (sent.length + 1)).map (BitVec.ofNat 32)).find? fun w => !sent.contains w).getD 0, used (4 * (sent.length + 1)) s)

/-- A block takes a fresh challenge. -/
def takeRb (svc : Nat) (b : Block) (s : State) : State :=
  let (rb, s) := freshRb b.rbs s
  modBlock svc (fun b => { b with rb := rb, rbs := rb :: b.rbs }) s

/-- The UID and key of a block's authentication: the implement or key found, or the key named. -/
def authUid (b : Block) : Dword := b.uid.getD ((b.found.head?.map fun f => f.1).getD 0)

def foundHandle (b : Block) : Nat :=
  ((b.found.find? fun f => b.uid.all fun u => u == f.1).map fun f => f.2.1).getD 0

/-- A block's authentication goes on with the key of a UID, or ends where K_M gives none (10 R286, R287). -/
def withKey (svc : Nat) (b : Block) (uid : Dword) (go : State → State) (s : State) : State :=
  match accessKey s b.startClk "ILK-TAG" uid with
  | .ok kt => go (modBlock svc (fun b => { b with kt := kt }) s)
  | .error st => tellKey st (closeExchange svc (sideStatus b st) s)

/-- AUTH_1 by handle with a fresh challenge. -/
def issueAuth1 (svc : Nat) (slow : Bool) (s : State) : State :=
  match findBlock s svc with
  | none => s
  | some b =>
    withKey svc b (authUid b) (fun s =>
      let s := takeRb svc b s
      issue svc (.auth1 (foundHandle b) (((findBlock s svc).map fun b => b.rb).getD 0) slow) s) s

/-- AUTH_2 (R148): without confirm it has no reply, and the tag counts as AUTHENTICATED once it is sent. -/
def issueAuth2 (svc : Nat) (confirm slow : Bool) (s : State) : State :=
  match findBlock s svc with
  | none => s
  | some b =>
    let uid := authUid b
    let c := AirCmd.auth2 confirm (proofBp b.kt b.rb b.rt uid) slow
    let s := modBlock svc (fun b => { b with ks := sessionKey b.kt b.rb b.rt uid, ctr := 0 }) s
    if confirm then issue svc c s
    else if usable b < b.used + cmdCost c then closeExchange svc ST_ILK_NO_SPAN s
    else modBlock svc (fun b => { b with used := b.used + cmdCost c, authOk := true, cmd := none, finished := true })
      (sendFrame svc (cmdFrame c) s)

/-- A chain operation as a secure command, while the session's counter is not spent; a command that it would repeat is refused and counted
(R151, 10 R302). -/
def issueChain (svc op : Nat) (pl : List Byte) (slow : Bool) (s : State) : State :=
  match findBlock s svc with
  | none => s
  | some b =>
    let h := foundHandle b
    if 0xFFFF < b.ctr then closeExchange svc (sideStatus b ST_CTR_EXHAUSTED) (modSec (fun x => { x with retired := x.retired + 1 }) s)
    else issue svc (.hChain h op pl (mac4 b.ks (beBytes 2 b.ctr ++ chainRequest h op pl)) slow) s

/-- Class mask of a block's walk. -/
def walkMask (s : State) (b : Block) : BitVec 4 :=
  match b.type with
  | 3 => 0b1000
  | 4 => BitVec.ofNat 4 (svcPar (atStart b s) b.svc 12)
  | _ => 0b0001

/-- READ of a ROSTER_READ block, and MEASURE after it (05 R172). -/
def readStep (svc : Nat) (s : State) : State :=
  let h := ((findBlock s svc).map foundHandle).getD 0
  let t := startOf svc s
  let s := modBlock svc (fun b => { b with step := 1 }) s
  if svcReadCount t svc = 0 then s
  else issue svc (.read h (svcReadFirst t svc) (svcReadCount t svc) (svcReadSlow t svc)) s

def measureStep (svc : Nat) (s : State) : State :=
  let h := ((findBlock s svc).map foundHandle).getD 0
  let t := startOf svc s
  let s := modBlock svc (fun b => { b with step := 2 }) s
  if svcMeasures t svc then issue svc (.measure h (svcChmask t svc) (svcMeasCount t svc) (svcReadSlow t svc)) s
  else closeExchange svc ST_OK s

/-! ## After each command -/

/-- Worst cost of the first attempts that a block's span keeps for what follows a command (05 R172, 06 R199, 07 R220): repeats run
only in span left over. -/
def keptSpan (s : State) (b : Block) (c : AirCmd) : Nat :=
  let r := bitLen (blockSlow s b)
  let t := atStart b s
  let measure := if svcMeasures t b.svc then opCost 56 (measureReply t b.svc) r else 0
  let read := if svcReadCount t b.svc = 0 then 0 else opCost 64 (28 + 32 * svcReadCount t b.svc) r
  let offer := if (svcPar t b.svc 12).testBit 16 then opCost 344 324 r else 0
  let status := opCost 40 60 r
  let coupling := opCost 72 84 r + opCost 57 28 r + opCost 64 284 r + status + offer
  match b.type, c with
  | 6, .invWalk .. => assignCost r + coupling
  | 3, .auth1u .. => 84 + 28 * 57
  | 4, .invAssign .. => b.toAssign.length * assignCost r
  | 5, .invAssign .. => read + measure
  | 5, .read .. => measure
  | 6, .invAssign .. =>
    if b.step = 10 then status else coupling
  | 6, .auth1 .. => if b.step = 12 then opCost 57 28 r else opCost 57 28 r + opCost 64 284 r + status + offer
  | 6, .auth2 .. => if b.step = 13 then 0 else opCost 64 284 r + status + offer
  | 6, .read .. => status + offer
  | 6, .hStatus .. => if b.step = 11 then 0 else offer
  | _, _ => 0

/-- The walk of a block that is not a sweep has ended: what follows it (06 R199, R200; 07 R220). -/
def afterWalk (svc : Nat) (b : Block) (slow : Bool) (s : State) : State :=
  let lost := fun (none' : Nat) => if b.walkStatus = ST_OK then none' else b.walkStatus
  if b.type = IMMO_AUTH then
    if b.found.any fun f => b.uid == some f.1 then issueAuth1 svc slow (modBlock svc (fun b => { b with step := 2 }) s)
    else closeExchange svc (lost ST_ILK_NO_REPLY) s
  else match b.found with
    | [] => closeExchange svc (lost ST_HITCH_NONE) s
    | [_] => issueAuth1 svc slow (modBlock svc (fun b => { b with step := 2 }) s)
    | _ => closeExchange svc ST_HITCH_AMBIGUOUS s

/-- INV_WALK of a node. -/
def walkCmd (s : State) (b : Block) (n : Node) : AirCmd := .invWalk (walkMask s b) (blockSlow s b) n.p n.pre

/-- Whether the span left holds a walk node: its worst case in a sweep (05 R167), the command itself elsewhere, and before a repeat what
is kept for the first attempts to come. -/
def nodeFits (s : State) (b : Block) (n : Node) : Bool :=
  if b.type = ROSTER_SWEEP then b.used + nodeCost n.p (bitLen (blockSlow s b)) ≤ usable b
  else b.used + cmdCost (walkCmd s b n) + (if n.repeated then keptSpan s b (walkCmd s b n) else 0) ≤ usable b

/-- The stack of a walk that is no sweep without the repeats on top of it that do not fit: each of them is abandoned (R145, R154). -/
def dropRepeats (fits : Node → Bool) : List Node → List Node
  | [] => []
  | n :: rest => if n.repeated && !fits n then dropRepeats fits rest else n :: rest

/-- The walk goes on (R145): the next assignment, the next node, or its end. -/
def walkOn (svc : Nat) (s : State) : State :=
  match findBlock s svc with
  | none => s
  | some b =>
    let slow := blockSlow s b
    match b.toAssign with
    | uid :: rest =>
      let (s, h) := takeHandle s
      issue svc (.invAssign false slow uid h) (modBlock svc (fun b => { b with toAssign := rest }) s)
    | [] =>
      let stack := if b.type = ROSTER_SWEEP then b.stack else dropRepeats (nodeFits s b) b.stack
      let s := modBlock svc (fun x => { x with stack := stack, abandoned := b.abandoned + (b.stack.length - stack.length) }) s
      match stack with
      | [] => if b.type = ROSTER_SWEEP then closeExchange svc ST_OK s else afterWalk svc b slow s
      | n :: rest =>
        if nodeFits s b n then
          send svc (walkCmd s b n) 1 (modBlock svc (fun b => { b with stack := rest, repeated := n.repeated }) s)
        else if b.type = ROSTER_SWEEP then closeExchange svc ST_OK s
        else closeExchange svc ST_ILK_NO_SPAN s

/-- The outcome of a walk node (R145): positions p to 63, or none. -/
def walkReply (svc p : Nat) (pre : List Bool) (reply : Option (List RBit)) (s : State) : State :=
  let node := fun (p : Nat) (pre : List Bool) => ({ p := p, pre := pre, repeated := false } : Node)
  walkOn svc <| modBlock svc (fun b =>
    let b := { b with cmd := none }
    match reply with
    | none => b
    | some r =>
      if r.any fun x => x == .eras then
        if b.repeated then { b with abandoned := b.abandoned + 1 }
        else { b with stack := { p := p, pre := pre, repeated := true } :: b.stack }
      else
        match r.findIdx? fun x => x == .coll with
        | none => { b with toAssign := [BitVec.ofNat 64 (natOfBits (pre ++ r.map rbit))] }
        | some k =>
          let known := pre ++ (r.take k).map rbit
          if p + k = 63 then
            { b with toAssign := [BitVec.ofNat 64 (natOfBits (known ++ [false])), BitVec.ofNat 64 (natOfBits (known ++ [true]))] }
          else { b with stack := node (p + k + 1) (known ++ [false]) :: node (p + k + 1) (known ++ [true]) :: b.stack }) s

/-- A repeat of an addressed command (R154): up to three attempts, while the span left over holds it; AUTH_1 and AUTH_1U with a
fresh challenge. -/
def retry (svc : Nat) (c : AirCmd) (s : State) : Option State :=
  match findBlock s svc with
  | none => none
  | some b =>
    if 3 ≤ b.attempt then none
    else
      let t := takeRb svc b s
      let rb := ((findBlock t svc).map fun b => b.rb).getD 0
      let (c, s) := match c with
        | .auth1 h _ slow => (AirCmd.auth1 h rb slow, t)
        | .auth1u uid _ => (AirCmd.auth1u uid rb, t)
        | c => (c, s)
      if usable b < b.used + cmdCost c + keptSpan s b c then none else some (send svc c (b.attempt + 1) s)

/-- Words of a reply's data. -/
def dataWords (bits : List Bool) (n : Nat) : List Word :=
  (List.range n).map fun i => BitVec.ofNat 32 (natOfBits ((bits.drop (32 * i)).take 32))

/-- Samples of a reply's data. -/
def dataSamples (bits : List Bool) (n : Nat) : List Nat := (List.range n).map fun i => natOfBits ((bits.drop (10 * i)).take 10)

/-- Clean ACK: descriptor and U4 to U7 (R136). -/
def ackDesc (bits : List Bool) : Word := BitVec.ofNat 32 (natOfBits (bits.take 32))
def ackLow (bits : List Bool) : Nat := natOfBits (bits.drop 32)

/-- The outcome of INV_ASSIGN (R145, R155). -/
def assignReply (svc : Nat) (c : AirCmd) (uid : Dword) (h : Nat) (o : Outcome) (s : State) : State :=
  let s := modBlock svc (fun b => { b with cmd := none }) s
  let ok := match o with
    | .clean bits => ackLow bits == uid.toNat % 2 ^ 32
    | _ => false
  let clash := o == .collision || (match o with
    | .clean _ => !ok
    | _ => false)
  let st := if ok then ST_OK else if clash then ST_ILK_COLLISION else outcomeStatus o
  let s := if clash then barHandle h s else s
  let s := match o with
    | .clean bits => if ok then modBlock svc (fun b => { b with found := b.found ++ [(uid, h, ackDesc bits)] }) s else s
    | _ => s
  let s := if ok then s else opFailed svc c st s
  match findBlock s svc with
  | none => s
  | some b =>
    if b.type = ROSTER_READ then
      if ok then
        let s := readStep svc s
        if (findBlock s svc).any fun b => b.cmd.isNone && !b.finished then measureStep svc s else s
      else closeExchange svc st s
    else if b.step = 10 then
      if ok then issue svc (.hStatus h (blockSlow s b)) (modBlock svc (fun b => { b with step := 11 }) s)
      else closeExchange svc st s
    else walkOn svc (if ok then s else modBlock svc (fun b => { b with walkStatus := st }) s)

/-- tp has arrived (R148). -/
def auth1Reply (svc : Nat) (bits : List Bool) (s : State) : State :=
  let rt : Word := BitVec.ofNat 32 (natOfBits (bits.take 32))
  let tp : Word := BitVec.ofNat 32 (natOfBits (bits.drop 32))
  let s := modBlock svc (fun b => { b with cmd := none, rt := rt }) s
  match findBlock s svc with
  | none => s
  | some b =>
    let ok := !b.kt.isEmpty && tp == proofTp b.kt b.rb rt (authUid b)
    if b.type = IMMO_AUTH then
      if ok then issueAuth2 svc false false s else closeExchange svc ST_AUTH_FAIL s
    else if ok then issueAuth2 svc true (blockSlow s b) (modBlock svc (fun b => { b with step := b.step + 1 }) s)
    else if b.step = 2 then
      issue svc (.read (foundHandle b) 3 8 (blockSlow s b)) (modBlock svc (fun b => { b with step := 4, status := ST_AUTH_FAIL }) s)
    else closeExchange svc (sideStatus b ST_AUTH_FAIL) s

/-- The next DATA operation of an open chain transfer (15 R437): 28 bytes over the hitch, or STATUS alone where the data goes by
bus. -/
def chainStep (svc : Nat) (s : State) : State :=
  match findBlock s svc with
  | none => s
  | some b =>
    let slow := blockSlow s b
    if b.chainAddr ≠ 254 then
      if b.step = 15 then closeExchange svc ST_OK s
      else issueChain svc OP_STATUS [] slow (modBlock svc (fun b => { b with step := 15 }) s)
    else if streamLen (runBank s).blob ≤ b.chainNext || !mayOffer s then closeExchange svc ST_OK s
    else
      issueChain svc OP_DATA (leBytes 4 b.chainNext ++ streamBytes s b.chainNext 28) slow (modBlock svc (fun b => { b with step := 14 }) s)

/-- What follows a clean reply with a status (06 R199, R202; 05 R172; 15 R436). -/
def statusReply (svc : Nat) (c : AirCmd) (bits : List Bool) (s : State) : State :=
  let data := bits.drop 8
  let s := modBlock svc (fun b => { b with cmd := none }) s
  match findBlock s svc with
  | none => s
  | some b =>
    let slow := blockSlow s b
    match c with
    | .read _ _ n _ =>
      let ws := dataWords data n
      let s := modBlock svc (fun b => { b with data := ws, readOk := true }) s
      if b.type = ROSTER_READ then
        measureStep svc (modBlock svc (fun b => { b with recs := b.recs ++ markerWord (svcHandle (atStart b s) svc) 1 n :: ws }) s)
      else issue svc (.hStatus (foundHandle b) slow) (modBlock svc (fun b => { b with step := 5 }) s)
    | .measure _ ch n _ =>
      let xs := dataSamples data (n * popBelow ch 8)
      let words := markerWord (svcHandle (atStart b s) svc) 0 (ch * 256 + n) :: sampleRun xs
      closeExchange svc ST_OK (modBlock svc (fun b => { b with samples := xs, recs := b.recs ++ words }) s)
    | .auth2 .. =>
      let s := modBlock svc (fun b => { b with authOk := true }) s
      if b.step = 13 then chainStep svc s
      else issue svc (.read (foundHandle b) 3 8 slow) (modBlock svc (fun b => { b with step := 4 }) s)
    | .hStatus .. =>
      let word : Word := BitVec.ofNat 32 (natOfBits data)
      let s := modBlock svc (fun b => { b with island := word, islandOk := true }) s
      if b.step = 11 then
        if ((findSvc s svc).any fun v => v.chain.isSome) then issueAuth1 svc slow (modBlock svc (fun b => { b with step := 12 }) s)
        else closeExchange svc ST_OK s
      else if b.authOk && (svcPar (atStart b s) svc 12).testBit 16 && word.getLsbD 19 && mayOffer s then
        issueChain svc OP_OFFER (offerPayload s) slow (modBlock svc (fun b => { b with step := 6 }) s)
      else closeExchange svc ST_OK s
    | .hChain h op pl _ _ =>
      let body := bytesOfBits (bits.take (bits.length - 32))
      let mac : Word := BitVec.ofNat 32 (natOfBits (bits.drop (bits.length - 32)))
      let reply := body.drop 2
      -- the quarantine of R152 opens and ends within this step, which no host access divides
      if mac ≠ mac4 b.ks (beBytes 2 b.ctr ++ chainRequest h op pl ++ body) then
        closeExchange svc (sideStatus b ST_AUTH_FAIL) (modSec (fun x => { x with zeroised := x.zeroised + 1 }) s)
      else
        let s := modBlock svc (fun b => { b with ctr := b.ctr + 1, chainOk := true, ks := if b.ctr = 0xFFFF then [] else b.ks }) s
        if op = OP_OFFER then
          let accepted := reply.headD 1 == 0
          let s := modUpd (fun u => { u with chainRole := if accepted then 1 else u.chainRole }) s
          closeExchange svc ST_OK (modBlock svc (fun b =>
            { b with chainNext := leNat ((reply.drop 4).take 4), chainAddr := (reply.getD 14 254).toNat,
                     accepted := accepted }) s)
        else if op = OP_DATA then
          let s := modUpd (fun u => { u with chainBytes := u.chainBytes + BitVec.ofNat 32 (pl.length - 4) }) s
          chainStep svc (modBlock svc (fun b => { b with chainNext := leNat (reply.take 4) }) s)
        else closeExchange svc ST_OK (modBlock svc (fun b => { b with chainNext := leNat ((reply.drop 4).take 4) }) s)
    | _ => closeExchange svc ST_OK s

/-- A command that failed for good (R153, R154; 05 R172; 06 R199, R200). -/
def failedReply (svc : Nat) (c : AirCmd) (o : Outcome) (s : State) : State :=
  let s := modBlock svc (fun b => { b with cmd := none }) s
  let s := match o with
    | .tag t => modSvc svc (fun v => { v with tagStatus := t }) (modBlock svc (fun b => { b with tagStatus := t }) s)
    | _ => s
  let st := match c, o with
    | .auth2 .., .tag 5 => ST_AUTH_FAIL
    | _, _ => outcomeStatus o
  let s := opFailed svc c st s
  match findBlock s svc with
  | none => s
  | some b =>
    match c with
    | .read .. =>
      if b.type = ROSTER_READ ∧ (o = .noReply ∨ o = .corrupt) then measureStep svc s else closeExchange svc st s
    | .auth1u .. =>
      closeExchange svc st (if o = .collision then modSvc svc (fun v => { v with byWalk := true }) s else s)
    | _ => closeExchange svc (sideStatus b st) s

/-- The outcome of the command in hand. -/
def commandOutcome (svc : Nat) (c : AirCmd) (reply : Option (List RBit)) (s : State) : State :=
  match c with
  | .invWalk _ _ p pre => walkReply svc p pre reply s
  | _ =>
    let o := match reply with
      | none => Outcome.noReply
      | some bits => outcomeOf (hasStatus c) bits
    let again := if o = .noReply ∨ o = .corrupt then retry svc c s else none
    match again with
    | some t => t
    | none =>
      match c, o with
      | .invAssign _ _ uid h, o => assignReply svc c uid h o s
      | .auth1 .., .clean bits => auth1Reply svc bits s
      | .auth1u .., .clean bits => auth1Reply svc bits s
      | c, .clean bits => statusReply svc c bits s
      | c, o => failedReply svc c o s

/-! ## Starting a block's exchange -/

/-- The wake pattern of a block (R115). -/
def sendWake (svc code : Nat) (s : State) : State :=
  let bits := bitsOf 8 code
  modBlock svc (fun b => { b with used := b.used + frameCyc bits }) (sendFrame svc bits s)

/-- The first command of a block (R220, R166, R172, R199, R202; 07 R218, 08 R237). -/
def beginExchange (svc : Nat) (s : State) : State :=
  match findBlock s svc with
  | none => s
  | some b =>
    match b.type with
    | 1 => closeExchange svc ST_OK (sendWake svc (par s (lockId 4 0)) s)
    | 2 => closeExchange svc ST_OK (sendWake svc (255 - par s (lockId 4 0)) s)
    | 3 =>
      match b.uid with
      | none => closeExchange svc ST_OK s
      | some uid =>
        withKey svc b uid (fun s =>
          if (findSvc s svc).any fun v => v.byWalk then
            walkOn svc (modSvc svc (fun v => { v with byWalk := false })
              (modBlock svc (fun b => { b with step := 1, stack := [Node.root] }) s))
          else issue svc (.auth1u uid b.rb) s) s
    | 4 => walkOn svc s
    | 5 =>
      if svcPassMode s svc then closeExchange svc ST_OK s
      else match findEntry s (svcHandle s svc) with
        | none => closeExchange svc ST_ILK_NO_REPLY s
        | some e =>
          let (s, h) := takeHandle s
          issue svc (.invAssign true (svcReadSlow s svc) e.uid h) s
    | 6 =>
      match ((findSvc s svc).bind fun v => v.hitched).bind (findEntry s) with
      | some e =>
        let (s, h) := takeHandle s
        let chain := ((findSvc s svc).bind fun v => v.chain).getD (0, 254)
        issue svc (.invAssign true (blockSlow s b) e.uid h)
          (modBlock svc (fun b => { b with step := 10, uid := some e.uid, chainNext := chain.1, chainAddr := chain.2 }) s)
      | none =>
        walkOn svc (modBlock svc (fun b => { b with step := 1, stack := [Node.root] }) (sendWake svc (svcPar s svc 12 % 256) s))
    | _ => closeExchange svc ST_OK s

/-- REPLY_WINDOW_CLOSE (R121): the window of the command in hand closes, and its outcome is decided. -/
def execReplyWindowClose (svc : Nat) (rx : List RxChannel) (s : State) : Host.Outcome State Fault Refusal :=
  match findBlock s svc with
  | none => .next s
  | some b =>
    match b.cmd with
    | none => .next s
    | some c =>
      if !isRunning s then .next s
      else
        let reply := receive s b (replyLen c) rx
        let fin := b.used + frameCyc (cmdFrame c) + windowClose c reply.isSome
        let s := modBlock svc (fun b => { b with used := fin }) (advanceTo (b.startClk + fin * b.div) s)
        .next (commandOutcome svc c reply s)

end Sys2Proof.Machine
end

