-- ==== Sys2Proof/Machine/Position.lean ====
section
/-!
DEFINITION. Sys2Proof/Machine/Position.lean: where a key stands: candidates of the LF spheres, the weighted fit and its sigma (08
R242, R249, R254). Lengths are in µm, unit vectors in 2^-20, weights in 2^80 per µm². The spec asks for least squares and names no
arithmetic: the method and its rounding are DESIGN CHOICE (assumption log 7).
-/
namespace Sys2Proof.Machine

/-- A point or vector of the machine frame. -/
structure Vec where
  x : Int
  y : Int
  z : Int
  deriving DecidableEq, Repr

def Vec.add (a b : Vec) : Vec := { x := a.x + b.x, y := a.y + b.y, z := a.z + b.z }
def Vec.sub (a b : Vec) : Vec := { x := a.x - b.x, y := a.y - b.y, z := a.z - b.z }
def Vec.scale (k : Int) (a : Vec) : Vec := { x := k * a.x, y := k * a.y, z := k * a.z }
def Vec.dot (a b : Vec) : Int := a.x * b.x + a.y * b.y + a.z * b.z
def Vec.cross (a b : Vec) : Vec := { x := a.y * b.z - a.z * b.y, y := a.z * b.x - a.x * b.z, z := a.x * b.y - a.y * b.x }

/-- Every component divided and rounded. -/
def Vec.div (a : Vec) (n : Nat) : Vec := { x := divRound a.x n, y := divRound a.y n, z := divRound a.z n }

/-- A point given in cm. -/
def Vec.ofCm (p : Int × Int × Int) : Vec := Vec.scale 10000 { x := p.1, y := p.2.1, z := p.2.2 }

/-- A point rounded to cm. -/
def Vec.toCm (a : Vec) : Int × Int × Int := (divRound a.x 10000, divRound a.y 10000, divRound a.z 10000)

def Vec.dist (a b : Vec) : Nat := isqrt ((a.sub b).dot (a.sub b)).toNat

/-- A measured distance from a known point, with its standard deviation. -/
structure Sphere where
  centre : Vec
  r : Nat
  sigma : Nat
  deriving DecidableEq, Repr

/-! ## Symmetric matrices of three rows -/

structure Sym3 where
  xx : Int
  yy : Int
  zz : Int
  xy : Int
  xz : Int
  yz : Int
  deriving DecidableEq, Repr

def Sym3.add (a b : Sym3) : Sym3 :=
  { xx := a.xx + b.xx, yy := a.yy + b.yy, zz := a.zz + b.zz, xy := a.xy + b.xy, xz := a.xz + b.xz, yz := a.yz + b.yz }

/-- The identity, scaled. -/
def Sym3.eye (k : Int) : Sym3 := { xx := k, yy := k, zz := k, xy := 0, xz := 0, yz := 0 }

/-- A vector times its transpose, scaled. -/
def Sym3.outer (k : Int) (u : Vec) : Sym3 :=
  { xx := k * u.x * u.x, yy := k * u.y * u.y, zz := k * u.z * u.z, xy := k * u.x * u.y, xz := k * u.x * u.z, yz := k * u.y * u.z }

def Sym3.scale (k : Int) (a : Sym3) : Sym3 := { xx := k * a.xx, yy := k * a.yy, zz := k * a.zz, xy := k * a.xy, xz := k * a.xz, yz := k * a.yz }

/-- The adjugate. -/
def Sym3.adj (a : Sym3) : Sym3 :=
  { xx := a.yy * a.zz - a.yz * a.yz, yy := a.xx * a.zz - a.xz * a.xz, zz := a.xx * a.yy - a.xy * a.xy,
    xy := a.xz * a.yz - a.xy * a.zz, xz := a.xy * a.yz - a.xz * a.yy, yz := a.xy * a.xz - a.xx * a.yz }

def Sym3.apply (a : Sym3) (v : Vec) : Vec :=
  { x := a.xx * v.x + a.xy * v.y + a.xz * v.z, y := a.xy * v.x + a.yy * v.y + a.yz * v.z, z := a.xz * v.x + a.yz * v.y + a.zz * v.z }

def Sym3.det (a : Sym3) : Int := a.xx * a.adj.xx + a.xy * a.adj.xy + a.xz * a.adj.xz

/-- Positive semidefinite: every principal minor is at least 0. -/
def Sym3.psd (a : Sym3) : Bool :=
  0 ≤ a.xx && 0 ≤ a.yy && 0 ≤ a.zz && 0 ≤ a.adj.xx && 0 ≤ a.adj.yy && 0 ≤ a.adj.zz && 0 ≤ a.det

/-! ## Least squares -/

/-- Direction from a sphere's centre to a point. -/
def Sphere.unit (p : Vec) (s : Sphere) : Vec :=
  let d := p.dist s.centre
  if d = 0 then { x := 0, y := 0, z := 0 } else ((p.sub s.centre).scale (2 ^ 20)).div d

def Sphere.weight (s : Sphere) : Int := 2 ^ 80 / (max 1 (s.sigma * s.sigma) : Nat)

/-- The normal matrix at a point, in 2^-120 per µm². -/
def normal (ss : List Sphere) (p : Vec) : Sym3 := ss.foldl (fun a s => a.add (Sym3.outer s.weight (s.unit p))) (Sym3.eye 0)

/-- One Gauss-Newton step. The matrix is damped by the least unit, so that it has an inverse. -/
def gaussNewton (ss : List Sphere) (p : Vec) : Vec :=
  let a := (normal ss p).add (Sym3.eye 1)
  let b := ss.foldl (fun (b : Vec) s => b.add (Vec.scale (s.weight * ((s.r : Int) - p.dist s.centre)) (s.unit p))) { x := 0, y := 0, z := 0 }
  p.add ((a.adj.apply (b.scale (2 ^ 20))).div a.det.toNat)

/-- Eight iterations (R249). -/
def leastSquares (ss : List Sphere) (p : Vec) : Vec := (List.range 8).foldl (fun p _ => gaussNewton ss p) p

/-- Where three spheres meet: two points mirrored in the plane of their centres. Where they do not meet, the points at height `miss` over the
foot of both, if that is given; none where the centres lie on one line. -/
def meet (miss : Option Nat) (a b c : Sphere) : Option (Vec × Vec) :=
  let u := b.centre.sub a.centre
  let v := c.centre.sub a.centre
  let n := u.cross v
  let nn := (n.dot n).toNat
  if nn = 0 then none
  else
    let k := fun (e : Vec) (s : Sphere) => (e.dot e : Int) + (a.r : Int) * a.r - (s.r : Int) * s.r
    let f := ((v.cross n).scale (k u b)).add ((n.cross u).scale (k v c))
    let foot := f.div (2 * nn)
    let h2 := (a.r : Int) * a.r - foot.dot foot
    let height := if 0 < h2 then some (isqrt h2.toNat) else miss
    height.map fun h =>
      let up := (n.scale h).div (isqrt nn)
      (a.centre.add (foot.add up), a.centre.add (foot.sub up))

/-- The first three spheres that meet. -/
def spanning (miss : Option Nat) (ss : List Sphere) : Option (Vec × Vec) :=
  ss.zipIdx.findSome? fun i => (ss.drop (i.2 + 1)).zipIdx.findSome? fun j =>
    (ss.drop (i.2 + j.2 + 2)).findSome? fun c => meet miss i.1 j.1 c

/-- Where the iterations of the LF spheres begin: the two points where the first three of them that meet do; where no three meet, 10 cm to
either side of the plane of the first three, so that a solution to each side of a plane of coils is found (DESIGN CHOICE, assumption log 7). -/
def lfStarts (ss : List Sphere) : Option (Vec × Vec) := spanning none ss <|> spanning (some 100000) ss

/-- The least-squares solutions of the LF distances alone: from each point where three spheres meet. Centres all on one line leave a circle
of solutions, of which the spec names none: free. -/
def lfSolutions (ss : List Sphere) : List Vec :=
  match lfStarts ss with
  | some (p, q) => [leastSquares ss p, leastSquares ss q]
  | none => (Config.lineSolutions (ss.map fun s => (s.centre.x, s.centre.y, s.centre.z, s.r))).map fun t => { x := t.1, y := t.2.1, z := t.2.2 }

/-! ## Sigma -/

/-- The standard deviation in every direction is at most `k` + 0.5 cm. -/
def sigmaWithin (a : Sym3) (k : Nat) : Bool :=
  ((Sym3.scale (((5000 * (2 * k + 1)) ^ 2 : Nat) : Int) a).add (Sym3.eye (-(2 ^ 120)))).psd

/-- Least k below 2^n, from `base` up, that holds. -/
def leastFrom (p : Nat → Bool) : Nat → Nat → Nat
  | 0, base => base
  | n + 1, base => if p (base + 2 ^ n - 1) then leastFrom p n base else leastFrom p n (base + 2 ^ n)

/-- Square root of the largest eigenvalue of the covariance, in cm, rounded; at most 65,535. -/
def sigmaCm (ss : List Sphere) (p : Vec) : Nat := min 65535 (leastFrom (sigmaWithin (normal ss p)) 16 0)

/-- Standard deviation of a range in µm (R254): at 1, 5 and 15 m the table's; between and beyond, the spec gives none. -/
def rangeSigma (band mm : Nat) : Nat :=
  if mm = 1000 then (if band = 0 then 200000 else 500000)
  else if mm = 5000 then (if band = 0 then 250000 else 600000)
  else if mm = 15000 then (if band = 0 then 450000 else 1100000)
  else Config.rangeSigmaUm band mm

end Sys2Proof.Machine
end

