-- ==== Sys2Proof/Machine/Wake.lean ====
section
/-!
DEFINITION. Sys2Proof/Machine/Wake.lean: what sleep entry asks of its participants, and what a wake source brings about (13
R364, R366, R370, R372; 14 R402).
-/
namespace Sys2Proof.Machine

/-- The lowest participant that refuses in prepare (R370, R402); none where all agree. -/
def prepareRefuser (s : State) : Option Nat :=
  -- between two parts a job is still under way
  let jobs := fun pk => s.sec.jobs.any fun j => j.pk == pk && (j.running || j.serial.isSome)
  ([(1, s.port.held.any fun h => match h.kind with
        | .post _ => false
        | .sleepEntry => false
        | _ => true),
    (2, s.locks.any fun l => l.state != 0),
    (3, !s.sched.blocks.isEmpty),
    -- requests that no operation has been started for do not count
    (4, !s.radio.queue.isEmpty || !s.radio.listen.isEmpty),
    (5, jobs false),
    (6, jobs true),
    (7, !s.sec.flash.isEmpty),
    (8, s.mnt.running != 0 || !s.mnt.queue.isEmpty),
    (9, s.twin.pairing.isSome || s.twin.resyncSeq.isSome || s.locks.any (fun l => l.state == 1) ||
        (isActive s && twinStands s && !s.twin.backlog.isEmpty)),
    (10, !s.bus.sess.isEmpty)].find? fun p => p.2).map fun p => p.1

/-- Prepare has ended: every participant agrees, or commit runs (R369). -/
def prepareEnded (s : State) : Bool :=
  match s.dev.mode with
  | .prepare => (prepareRefuser s).isNone
  | .commit => true
  | _ => false

/-- A wake source is enabled (R366, R324): 0 SPI, 1 CAN, 2 hitch, 3 angle, 4 timer. -/
def wakeEnabled (s : State) (src : Nat) : Bool := src == 0 || s.pwr.wakeEn.getLsbD src

/-- A wake pattern's code wakes the device (04 R115, 06 R185): it is hitch.wake_code, or any where that is 0xFF. -/
def codeWakes (s : State) (code : Nat) : Bool := par s (hitchId 1) == 0xFF || par s (hitchId 1) == code

/-- last_wake of a set of sources: the lowest code among them (R366). -/
def lowestWake (b : BitVec 5) : Nat := (((List.range 5).find? fun k => b.getLsbD k).map fun k => k + 1).getD 0

/-- Latched events replayed as a wake from RUN (R372): no wake order runs. -/
def replayWake (bits : BitVec 5) (s : State) : State :=
  let s := modPwr (fun p => { p with lastWake := lowestWake bits, replayed := true, wakeReplays := p.wakeReplays + 1 }) (raiseWake bits s)
  postEvent 0x8101 (payload [s.pwr.wakeSrc.toNat, 1, 0, 0]) s

/-- The wake order starts from a sleep state; an event latched while the state was being reached is replayed (R364, R372). -/
def startWake (step : Nat) (bits : BitVec 5) (replayed : Bool) (s : State) : State :=
  modDev (fun d => { d with mode := .waking })
    (modPwr (fun p => { p with latched := bits, wakeStep := step, wokeClk := s.clk, replayed := replayed,
                               wakeReplays := if replayed then p.wakeReplays + 1 else p.wakeReplays }) s)

/-- First step of the wake order: the short logic step from HALT (R364). -/
def firstStep (s : State) : Nat := if s.pwr.target = 2 then 1 else 4

/-- An event of a wake source (R364, R366, R372): latched during entry, the clock in which it ends with it; starts the wake order in a
sleep state, where a second event of the same clock joins it; sets its WAKE_SRC bit while the order runs. -/
def wakeEvent (src : Nat) (s : State) : State :=
  if !wakeEnabled s src then s
  else
    let bit : BitVec 5 := 1 <<< src
    match s.dev.mode with
    | .prepare => modPwr (fun p => { p with latched := p.latched ||| bit }) s
    | .commit => modPwr (fun p => { p with latched := p.latched ||| bit }) s
    | .halt => startWake (firstStep s) bit (s.pwr.asleepClk == s.clk) s
    | .stabled => startWake (firstStep s) bit (s.pwr.asleepClk == s.clk) s
    | .waking =>
      if s.pwr.wokeClk = s.clk then modPwr (fun p => { p with latched := p.latched ||| bit }) s
      else raiseWake bit s
    | .run => if s.pwr.abortClk = some s.clk then replayWake bit s else s
    | _ => s

end Sys2Proof.Machine
end

