-- ==== Sys2Proof/Machine/Radio.lean ====
section
/-!
DEFINITION. Sys2Proof/Machine/Radio.lean: the sub-GHz radio: operations in order, return states, lock, coexistence, power, aerial
ports, background calibration, carrier (09 R260 to R273, R278 to R280; 12 R351).
-/
namespace Sys2Proof.Machine

/-! ## Kinds of operation -/

/-- Request kinds. -/
def ZT_POLL : Nat := 0
def RANGE : Nat := 1
def FOB_ACK : Nat := 2
def RESYNC : Nat := 3
def RADIO_CW : Nat := 4

/-- A packet on the data channel. -/
def TxReq.isPacket (q : TxReq) : Bool := q.kind != RANGE && q.kind != RADIO_CW

/-- Requests are carried: powered, in RUN with no sleep entry (R261, 13 R368). -/
def radioWorks (s : State) : Bool := s.radio.on && isRunning s

/-- New operations start. -/
def radioStarts (s : State) : Bool := radioWorks s && s.dev.mode == .run

def coexOn (s : State) : Bool := radioPar s 6 == 1

/-- COEX_GRANT as the device takes it (R267). -/
def granted (s : State) : Bool := !coexOn s || s.radio.grant

/-- Bit of radio.coex_prio_mask of a request; RADIO_CW has none. -/
def prioOf (s : State) (kind : Nat) : Bool := kind < 4 && (radioPar s 9).testBit kind

/-- The receiver hears packets: RX, on a data channel (R264, R278). Without an operation a data channel of 0 holds packets off (R280). -/
def hears (s : State) : Bool := radioWorks s && radioNow s == R_RX && (radioSet s || !s.radio.queue.isEmpty)

/-- With no operation in hand it hears the packets of any key (R278). -/
def hearsAny (s : State) : Bool := hears s && s.radio.queue.isEmpty

/-! ## Power and ports (R260, R273, R279) -/

/-- Cap of the region, in dBm. -/
def capDbm (s : State) : Int := if par s (radioId 0) = 1 then 14 else 20

/-- Output power of an operation: what it asks for, no more than the cap. -/
def powerOf (s : State) (q : TxReq) : Int :=
  min (capDbm s) (if q.kind = RADIO_CW then q.dbm else if q.kind = RANGE then radioParInt s 3 else radioParInt s 2)

/-- The port of RADIO_CW (12 R351). -/
def cwPort (s : State) : Nat := if radioPar s 4 = 1 then 1 else 0

/-- Sum and count of the correlations heard on one port. -/
def portSum (corr : List (Option Nat)) (p : Nat) : Nat × Nat :=
  let heard := (corr.zipIdx.filter fun x => x.2 / 4 % 2 == p).filterMap fun x => x.1
  (heard.sum, heard.length)

/-- The port that a packet is received on (R272). In auto the first four symbols are taken on the port used last, A of the pattern A, B, A, B
(DEDUCED, assumption log 18); where the other has no symbols left it does not win. -/
def packetPort (s : State) (corr : List (Option Nat)) : Nat :=
  if radioPar s 4 < 2 then radioPar s 4
  else
    let a := portSum (corr.take 16) 0
    let b := portSum (corr.take 16) 1
    if a.1 * b.2 < b.1 * a.2 || (a.2 == 0 && b.2 != 0) then 1 - s.radio.lastPort else s.radio.lastPort

/-! ## Background calibration (R270) -/

/-- A request or a preamble aborts a slice: the item runs again from its first slice. -/
def abortSlice (s : State) : State := modRadio (fun r => { r with calSlice := 0, calRunning := r.calRound != 0 }) s

/-- A slice may run. -/
def sliceMayRun (s : State) : Bool :=
  radioStarts s && (radioNow s == R_IDLE || (radioNow s == R_RX && !s.radio.preamble))

/-- Slices of an item: image rejection has three. -/
def calSlices (item : Nat) : Nat := if item = 0 then 3 else 1

/-- A sensor has moved by radio.bg_temp_dc since the last complete round; sensors read 0.5 °C per count. -/
def tempMoved (s : State) : Bool := (s.dev.sensors.zip s.radio.bgTemp).any fun p => 2 * radioPar s 11 ≤ (p.1 - p.2).natAbs

/-- BG_CAL_INTERVAL (R270): the next item starts, a radio.bg_interval_ms after the item before it, or at once where a sensor has moved. The
items of class 15 that it goes by are those in force, a write to which waits for the next operation (R280). -/
def execBgCalInterval (s : State) : Host.Outcome State Fault Refusal :=
  if radioStarts s && radioSet s && !s.radio.calRunning && s.radio.state ≠ R_SLEEP then
    let s := if tempMoved s then s else advanceTo (s.radio.bgClk + clkMs (radioPar s 10)) s
    .next (modRadio (fun r => { r with calRunning := true, calSlice := 0, bgClk := s.clk }) s)
  else .next s

/-- An item is complete: its results take effect, and after the last of the four the round is complete. -/
def endItem (s : State) : State :=
  modRadio (fun r => { r with bgCals := r.bgCals + 1, calItem := (r.calItem + 1) % 4, calSlice := 0, calRound := r.calRound - 1,
                              calRunning := 1 < r.calRound, bgTemp := if r.calItem = 3 then s.dev.sensors else r.bgTemp }) s

/-- BG_CAL_SLICE_END (R270): the last slice of an item makes its results take effect; RADIO_CAL completes with its round (12
R351). -/
def execBgCalSliceEnd (s : State) : Host.Outcome State Fault Refusal :=
  if !(s.radio.calRunning && sliceMayRun s) then .next s
  else if s.radio.calSlice + 1 < calSlices s.radio.calItem then .next (modRadio (fun r => { r with calSlice := r.calSlice + 1 }) s)
  else if s.radio.calRound = 1 then .next (completeWhere (fun h => h.kind == .radioCal) ST_OK 4 0 0 (endItem s))
  else .next (endItem s)

/-- PREAMBLE_DETECTED (R270, R272): aborts a slice; after prepare has ended it makes the radio refuse the commit (13 R370). -/
def execPreambleDetected (s : State) : Host.Outcome State Fault Refusal :=
  if !hears s then .next s
  else
    let s := modRadio (fun r => { r with preamble := true }) (if s.radio.calRunning then abortSlice s else s)
    if prepareEnded s then .next (modPwr (fun p => { p with preambleSeen := true }) s) else .next s

/-! ## Operations in hand (R262 to R268) -/

/-- Drop both wires. -/
def coexFall (s : State) : State := modRadio (fun r => { r with coexReq := false, coexPrio := false }) s

/-- What waits for a request is told its status: the descriptor of RADIO_CW, the oldest, since the radio takes them in order. A ranging
request tells its fix elsewhere. -/
def tellRequest (q : TxReq) (status : Nat) (s : State) : State :=
  if q.kind = RADIO_CW then
    match s.port.held.find? fun h => h.kind == .radioCw with
    | some h => done h status s
    | none => s
  else s

/-- Count an outcome (R280). -/
def countOutcome (status : Nat) (s : State) : State :=
  if status = ST_TX_LATE then modRadio (fun r => { r with txLate := r.txLate + 1 }) s
  else if status = ST_COEX_DENIED then modRadio (fun r => { r with coexDenied := r.coexDenied + 1 }) s
  else s

/-- Frequency an operation needs: packets share the data channel (R260, R264). -/
def targetKhz (s : State) (q : TxReq) : Nat := if q.isPacket then dataKhz s else q.khz

/-- The synthesiser stands locked on the channel that a packet or a carrier needs, so that no channel change comes before it (R262, R264). A changed
radio.data_khz makes one: the operation that starts is the next change to the data channel (DESIGN CHOICE, assumption log 18). -/
def standsOn (s : State) (q : TxReq) : Bool :=
  s.radio.locked && (s.radio.state == R_RX || s.radio.state == R_SYNTH || s.radio.state == R_TX) && q.kind != RANGE &&
    s.radio.chan == targetKhz s q

/-- The operation at the head of the queue is taken: its items of class 15 are in force, its wait starts, the wires rise, and the
synthesiser changes channel unless it stands on the one needed. The deadline of RADIO_CW is this moment (12 R351), so that a carrier goes out
only where the synthesiser stands locked on its frequency and nothing is left to wait for. -/
def startHead (s : State) : State :=
  match s.radio.queue with
  | [] => s
  | q :: rest =>
    let s := takeConf s
    modRadio (fun r =>
      { r with
        queue := { q with taken := s.clk, deadline := if q.kind = RADIO_CW then s.clk else q.deadline } :: rest,
        state := R_SYNTH, leadPassed := r.coexReq, locked := standsOn s q, chan := targetKhz s q, paOn := false, preamble := false,
        coexReq := coexOn s, coexPrio := coexOn s && prioOf s q.kind,
        coexReqClk := if r.coexReq then r.coexReqClk else s.clk }) (abortSlice s)

/-- The operation in hand ends and the next follows, or the return state (R263), into a listen window that stands open (R278). An exchange or a
carrier does not end on the data channel. During sleep entry no operation starts: what the radio had taken waits as requests (13 R368). -/
def nextOp (s : State) : State :=
  let onData := (s.radio.queue.head?).any TxReq.isPacket
  let s := modRadio (fun r => { r with queue := r.queue.drop 1, paOn := false, cwEnd := none, locked := r.locked && onData,
                                       silent := [], lostSlot := none, cutUs := 0 }) s
  if s.radio.queue.isEmpty then radioRest (beginWindows s)
  else if s.dev.mode = .run then startHead s
  else radioRest (modRadio (fun r => { r with wants := r.queue ++ r.wants, queue := [] }) s)

/-- The operation in hand of a packet or carrier ends with a status. -/
def endPacket (status : Nat) (s : State) : State :=
  match s.radio.queue with
  | [] => s
  | q :: _ => nextOp (tellRequest q status (countOutcome status s))

/-- A radio that receives for a listen window stands locked on the data channel (R278). -/
def receiving (s : State) : State := if radioNow s = R_RX then modRadio (fun r => { r with state := R_RX, locked := true }) s else s

/-- Put a request into the queue, behind those taken before. -/
def takeRequest (q : TxReq) (s : State) : State :=
  let s := receiving (beginWindows s)
  let idle := s.radio.queue.isEmpty
  let s := modRadio (fun r => { r with queue := r.queue ++ [q] }) s
  if idle then startHead s else s

/-- End of the wait for the grant of the operation in hand. -/
def waitEnd (s : State) (q : TxReq) : Nat :=
  let w := q.taken + clkUs (radioPar s 7)
  if q.kind = RANGE then min w q.deadline else w

/-- Moment at which the lead time of R267 has passed; at once where COEX_REQ was high before (R268). -/
def leadEnd (s : State) : Nat := if coexOn s && !s.radio.leadPassed then s.radio.coexReqClk + clkUs (radioPar s 8) else s.clk

/-- The latest moment for the ramp has passed, or lock has come only in its clock (R266). -/
def tooLate (s : State) (q : TxReq) : Bool := q.deadline < s.clk || (q.deadline == s.clk && s.radio.lockClk == q.deadline)

/-- Whether a frequency in kHz lies in the region in force. -/
def inRegion (s : State) (khz : Nat) : Bool :=
  match par s (radioId 0) with
  | 1 => 863000 ≤ khz && khz ≤ 870000
  | 2 => 902000 ≤ khz && khz ≤ 928000
  | _ => false

/-- Nothing is transmitted without a region, nor a packet or exchange without a data channel, nor a carrier outside the region (R260). -/
def heldOff (s : State) (q : TxReq) : Bool := if q.kind = RADIO_CW then !inRegion s q.khz else !radioSet s

/-- COEX_GRANT_RISE (R267). -/
def execCoexGrantRise (s : State) : Host.Outcome State Fault Refusal :=
  .next (modRadio (fun r => { r with grant := true }) s)

/-! ## Own transmit time in band 1 (08 R256) -/

def noteDuty (us : Nat) (s : State) : State :=
  modProx (fun p => { p with duty := (s.clk, us) :: p.duty.filter fun d => s.clk < d.1 + clkS 3600 }) s

def recordDuty (us : Nat) (s : State) : State := if par s (radioId 0) = 1 then noteDuty us s else s

/-- A transmission begins on the air at this clock. -/
def onAir (s : State) : State := modRadio (fun r => { r with airClk := s.clk }) s

/-- Tone slots that were silent up to a slot (R265): those from the loss of lock on with them. -/
def silentTo (s : State) (u : Nat) : List Nat :=
  s.radio.silent ++ match s.radio.lostSlot with
    | some l => (List.range u).drop l
    | none => []

/-- µs of tones that the device has transmitted in an exchange `us` after its start: 40 µs of each slot of 130. -/
def toneUs (s : State) (us : Nat) : Nat :=
  let u := us / 130
  let silent := silentTo s (u + 1)
  s.radio.cutUs + (((List.range u).filter fun t => !silent.contains t).length) * 40 +
    (if silent.contains u || 80 ≤ u then 0 else min 40 (us % 130 - 30))

/-- µs that the operation in hand has transmitted so far. -/
def sentUs (s : State) : Option Nat :=
  match s.radio.queue with
  | [] => none
  | q :: _ =>
    let us := (s.clk - s.radio.airClk) / 32
    if q.kind = RANGE then (if s.radio.state = R_RANGE then some (toneUs s us) else none)
    else if s.radio.paOn then some us else none

/-- What the operation in hand has transmitted when it ends early counts too. -/
def dutyCut (s : State) : State :=
  match sentUs s with
  | some us => recordDuty us s
  | none => s

/-! ## The carrier (12 R351) -/

/-- The carrier stops; its transmit time counts in band 1. -/
def stopCw (s : State) : State :=
  endPacket ST_OK (dutyCut s)

def cwInHand (s : State) : Bool := (s.radio.queue.head?).any fun q => q.kind == RADIO_CW

/-- RADIO_CW_END (R351). -/
def execRadioCwEnd (s : State) : Host.Outcome State Fault Refusal :=
  match s.radio.cwEnd with
  | some t => if cwInHand s && s.radio.paOn then .next (stopCw (advanceTo t s)) else .next s
  | none => .next s

/-- RADIO_STOP (R351): a running RADIO_CW ends with ST_OK; a RADIO_CW that waits its turn is left. -/
def radioStop (h : Held) (s : State) : State := done h ST_OK (if cwInHand s then stopCw s else s)

def execRadioStop (ring : Nat) (s : State) : Host.Outcome State Fault Refusal := cmdPlain ring 0x0A03 radioStop s

/-- RADIO_CAL (R351): one full background round at once. -/
def radioCal (h : Held) (s : State) : State :=
  if !radioSet s then done h ST_BAD_ARG s
  else
    let s := wakeRadio (setKind h .radioCal s)
    if s.radio.calRound ≠ 0 then s
    else modRadio (fun r => { r with calRound := 4, calItem := 0, calSlice := 0, calRunning := true, bgClk := s.clk }) s

def execRadioCal (ring : Nat) (s : State) : Host.Outcome State Fault Refusal := cmdPlain ring 0x0A01 radioCal s

/-- RADIO_CW (R351): its argument words are checked, then it is a transmit operation. -/
def radioCw (h : Held) (s : State) : State :=
  let ms := h.a2.toNat
  if ms = 0 then done h ST_OK s
  else if !(s.nv.lifecycle == lcBlank || s.nv.lifecycle == lcProvisioned || debugOpen s) then done h ST_LC_REFUSED s
  else if !inRegion s h.a0.toNat || 60000 < ms then done h ST_BAD_ARG s
  else
    let q : TxReq := { kind := RADIO_CW, slot := 255, seq := 0, arg := h.a2, deadline := s.clk, taken := s.clk, khz := h.a0.toNat, dbm := h.a1.toInt }
    takeRequest q (setKind h .radioCw s)

def execRadioCw (ring : Nat) (s : State) : Host.Outcome State Fault Refusal := cmdPlain ring 0x0A02 radioCw s

end Sys2Proof.Machine
end

