-- ==== Sys2Proof/Machine/Prox.lean ====
section
/-!
DEFINITION. Sys2Proof/Machine/Prox.lean: ranging and fixes: tone order, phase fit, LF distance, fusion, zones, relay verdict,
fix record (08 R239 to R256), and the end of a ZONE_TRACK sequence.
-/
namespace Sys2Proof.Machine

/-! ## Geometry in force when the block started (R249, R258) -/

def geomInt (g : Cells) (id : Nat) : Int := (Cells.getD g id (paramReset id)).toInt
def geomNat (g : Cells) (id : Nat) : Nat := (Cells.getD g id (paramReset id)).toNat

/-! ## Tone order (R244) -/

/-- Keystream of an exchange: twelve counter blocks under K_F. -/
def rangeStream (kf : List Byte) (seed : Word) (uid : Dword) : List Bool :=
  bitsOfBytes ((List.range 12).flatMap fun i =>
    aesEnc kf ((0x05 : Byte) :: beBytes 4 seed.toNat ++ (beBytes 8 uid.toNat).drop 1 ++ beBytes 4 i))

/-- Exchange two places of a list. -/
def swapAt (l : List Nat) (i j : Nat) : List Nat := (l.set i (l.getD j 0)).set j (l.getD i 0)

/-- Tone of each slot: 79 draws of 16 bits. -/
def toneOrder (ks : List Bool) : List Nat :=
  (List.range 79).foldl (fun o k =>
    let i := 79 - k
    swapAt o i (natOfBits ((ks.drop (16 * k)).take 16) % (i + 1))) (List.range 80)

/-- Quarter turns of slot `t`: the 2-bit draws after the 79 of 16. -/
def quarterTurn (ks : List Bool) (t : Nat) : Nat := natOfBits ((ks.drop (1264 + 2 * t)).take 2)

/-! ## Phase fit (R246) -/

/-- Frequency of tone `k` in kHz (R243). -/
def toneKhz (g : Cells) (k : Nat) : Nat :=
  if geomNat g (proxId 0) = 0 then geomNat g (proxId 1) + 320 * k else geomNat g (proxId 2) + 80 * k

/-- The slots' measurements by tone number; one never measured is 0. -/
def tonesByK (order : List Nat) (tones : List Tone) : List Tone :=
  (List.range 80).map fun k => ((order.idxOf? k).bind fun t => tones[t]?).getD { phi := 0, amp := 0 }

/-- Tones used, by frequency: tone number and phase with the quarter turns removed, in 1/1024 turn. -/
def usedTones (order : List Nat) (ks : List Bool) (tones : List Tone) : List (Nat × Int) :=
  (List.range 80).filterMap fun k =>
    match order.idxOf? k with
    | none => none
    | some t =>
      match tones[t]? with
      | some x => if x.amp < 16 then none else some (k, x.phi - 256 * quarterTurn ks t)
      | none => none

/-- Unwrap: each phase brought to within half a turn of the one before. -/
def unwrapFrom (prev : Int) : List (Nat × Int) → List (Nat × Int)
  | [] => []
  | (k, p) :: rest => let q := prev + signed 10 ((p - prev) % 1024).toNat; (k, q) :: unwrapFrom q rest

def unwrapTones : List (Nat × Int) → List (Nat × Int)
  | [] => []
  | (k, p) :: rest => (k, p) :: unwrapFrom p rest

/-- A range as measured: r in mm, and the residual in 0.1 degree. -/
structure RangeFit where
  rMm : Nat
  resid10 : Nat
  deriving DecidableEq, Repr

/-- Least squares over the tones (R246): none with fewer than 72. -/
def rangeFit (g : Cells) (tauKeyPs devPs : Int) (pts : List (Nat × Int)) : Option RangeFit :=
  if pts.length < 72 then none
  else
    let n : Int := pts.length
    let sx : Int := (pts.map fun p => (toneKhz g p.1 : Int)).sum
    let sy : Int := (pts.map fun p => p.2).sum
    let sxx := n * (pts.map fun p => (toneKhz g p.1 : Int) * toneKhz g p.1).sum - sx * sx
    let sxy := n * (pts.map fun p => (toneKhz g p.1 : Int) * p.2).sum - sx * sy
    let syy := n * (pts.map fun p => p.2 * p.2).sum - sy * sy
    -- tau in ps is -slope / 1024 turns per kHz; r is half the way light goes in what is left of it
    let ps := -sxy * 1000000000 - (tauKeyPs + devPs) * 1024 * sxx
    let r := divRound (ps * 149896229) (1024 * sxx.toNat * 1000000000)
    let sq := ((syy * sxx - sxy * sxy) * 3600 * 3600).toNat * 4 / ((sxx * n * n).toNat * 1024 * 1024)
    some { rMm := r.toNat, resid10 := (isqrt sq + 1) / 2 }

/-! ## LF distance (R241, R242) -/

/-- Combined count of three axes. -/
def combinedCount (axes : List Nat) : Nat :=
  let sum := ((axes.filter fun c => 0 < c).map fun (c : Nat) => exp2Q ((c : Int) * log2Of10 / 100)).sum
  if sum = 0 then 0 else (divRound (100 * ((log2Q sum : Int) - 32 * 2 ^ 32)) log2Of10.toNat).toNat

/-- LF distance in µm. -/
def lfUm (refRssi txAmp combined decade : Nat) : Nat :=
  let x := ((refRssi : Int) - combined) * log2Of10 / decade + 200 * ((log2Q txAmp : Int) - log2Q 1023) / decade
  (divRound (1000000 * exp2Q x) (2 ^ 32)).toNat

/-- A line of a report that is valid for the fix. -/
def lineValid (g : Cells) (m : Nat) (axes : List Nat) : Bool :=
  axes.any (fun c => 0 < c) && axes.all (fun c => c ≠ 1023) && geomNat g (proxLineId m 3) ≠ 0

/-- The spheres of the valid lines (R242): each distance has a standard deviation of prox.lf_sigma_pct per cent. -/
def lfLines (q : ZtSeq) : List Sphere :=
  (q.lines.zip q.bursts).filterMap fun p =>
    let m := p.1
    let axes := [p.2.1, p.2.2.1, p.2.2.2]
    if lineValid q.geom m axes then
      let d := lfUm (geomNat q.geom (proxLineId m 3)) (weightAmp (Cells.getD q.geom (routeId q.route m) 0)) (combinedCount axes)
        (geomNat q.geom (proxLineId m 4))
      some { centre := Vec.ofCm (geomInt q.geom (proxLineId m 0), geomInt q.geom (proxLineId m 1), geomInt q.geom (proxLineId m 2)),
             r := d, sigma := geomNat q.geom (proxId 8) * d / 100 }
    else none

/-! ## Position (R249) -/

def aerialOf (g : Cells) (port : Nat) : Vec :=
  Vec.ofCm (geomInt g (proxId (13 + 3 * port)), geomInt g (proxId (14 + 3 * port)), geomInt g (proxId (15 + 3 * port)))

/-- The candidate of least cost, the first on a tie. -/
def bestBy (cost : Vec → Nat) : List Vec → Option Vec
  | [] => none
  | c :: rest => some (rest.foldl (fun b x => if cost x < cost b then x else b) c)

/-! ## Zones (R250) -/

/-- Inside a box (items base to base + 5), shrunk by h on every side. -/
def inBox (g : Cells) (base : Nat) (h : Int) (p : Int × Int × Int) : Bool :=
  let ok := fun (i : Nat) (x : Int) =>
    geomInt g (proxZoneId (base + i)) + h ≤ x && x ≤ geomInt g (proxZoneId (base + i + 1)) - h
  ok 0 p.1 && ok 2 p.2.1 && ok 4 p.2.2

/-- Inside the region of a zone shrunk by h: 1 CAB, 2 DOOR, 3 REAR. -/
def inZone (g : Cells) (zone : Nat) (h : Int) (p : Int × Int × Int) : Bool :=
  match zone with
  | 1 => inBox g 0 h p
  | 2 => inBox g 6 h p || inBox g 12 h p
  | 3 =>
    let d := fun (x y : Int) => (x - y) * (x - y)
    h ≤ 150 && d p.1 (geomInt g (proxZoneId 18)) + d p.2.1 (geomInt g (proxZoneId 19)) + d p.2.2 (geomInt g (proxZoneId 20)) ≤
      (150 - h) * (150 - h)
  | _ => false

/-- The zone of a position, given the zone the key was in. -/
def zoneOf (g : Cells) (prev : Nat) (p : Int × Int × Int) : Nat :=
  ([1, 3, 2].find? fun z => inZone g z (geomInt g (proxZoneId 21)) p || (z == prev && inZone g z 0 p)).getD 0

/-! ## The fix (R247 to R254) -/

/-- What the exchange gave: a range measured, or reused with its verdict. -/
inductive RangeGot where
  | none
  | measured (f : RangeFit)
  | reused (h : RangeHist)
  deriving DecidableEq, Repr

def RangeGot.mm : RangeGot → Option Nat
  | .none => Option.none
  | .measured f => some f.rMm
  | .reused h => some (10 * h.rCm)

def RangeGot.resid10 : RangeGot → Option Nat
  | .none => Option.none
  | .measured f => some f.resid10
  | .reused h => some h.resid10

def int16 (v : Int) : Nat := unsigned 16 (max (-32768) (min 32767 v))

/-- Everything a fix is: position, sigma, e in cm, tests failed, verdict, zone. -/
structure FixParts where
  pos : Option (Int × Int × Int)
  sigma : Nat
  eCm : Option Int
  far : Bool
  disagree : Bool
  slope : Bool
  few : Bool
  wide : Bool
  verdict : Nat
  zone : Nat
  valid : Nat
  deriving DecidableEq, Repr

/-- A range recorded as far (R246): measured now, or as it was when it was measured (R248). -/
def RangeGot.far (g : Cells) : RangeGot → Bool
  | .none => false
  | .measured f => decide (10 * geomNat g (proxId 11) < f.rMm)
  | .reused h => h.far

/-- The candidate that the position starts from (R249). -/
def chooseLf (cands : List Vec) (aerial : Vec) (rUm : Option Nat) (prevPos : Option (Int × Int × Int)) : Option Vec :=
  match rUm with
  | some r => bestBy (fun c => ((r : Int) - c.dist aerial).natAbs) cands
  | none => match prevPos with
    | some q => bestBy (fun c => c.dist (Vec.ofCm q)) cands
    | none => cands.head?

/-- Form a fix (R249 to R252); `run` is the key's run of failures before it. -/
def formFix (g : Cells) (lf : List Sphere) (port prevZone run : Nat) (prevPos : Option (Int × Int × Int)) (got : RangeGot) : FixParts :=
  let few := lf.length < 3
  let aerial := aerialOf g port
  let band := geomNat g (proxId 0)
  let rUm := got.mm.map fun mm => 1000 * mm
  let pLf := chooseLf (if few then [] else lfSolutions lf) aerial rUm prevPos
  let range : Option Sphere := got.mm.map fun mm => { centre := aerial, r := 1000 * mm, sigma := rangeSigma band mm }
  let all := lf ++ range.toList
  let fused := pLf.map fun p => if range.isSome then leastSquares all p else p
  let pos := fused.map Vec.toCm
  let sigma := (fused.map (sigmaCm all)).getD 0
  let e := match rUm, pLf with
    | some r, some p => some ((r : Int) - p.dist aerial)
    | _, _ => none
  let far := got.far g
  let margin : Int := 10000 * (if band = 0 then geomNat g (proxId 3) else geomNat g (proxId 4) : Nat)
  let measured := match got with
    | .measured _ => true
    | _ => false
  let disagree := measured && pos.isSome && (far || (e.any fun x => margin < x))
  let slope := measured && (got.resid10.any fun x => 10 * geomNat g (proxId 5) < x)
  let wide := pos.isSome && geomNat g (proxId 7) < sigma
  let verdict := match got with
    | .reused h => h.verdict
    | _ =>
      if disagree || slope then (if run + 1 < geomNat g (proxId 6) then 1 else 2)
      else if got.mm.isNone || pos.isNone || (e.any fun x => x < -margin) then 3
      else 0
  let zone := match pos with
    | some p => if wide || got.mm.isNone || verdict ≠ 0 then 0 else zoneOf g prevZone p
    | none => 0
  { pos := pos, sigma := sigma, eCm := e.map fun x => divRound x 10000, far := far, disagree := disagree, slope := slope, few := few, wide := wide,
    verdict := verdict, zone := zone, valid := lf.length }

/-- The fix record (R254). -/
def fixWords (slot port band status : Nat) (f : FixParts) (got : RangeGot) (bursts : List (Nat × Nat × Nat)) : List Word :=
  let reused := match got with
    | .reused _ => true
    | _ => false
  let st := if status ≠ ST_OK then status else if f.few then ST_PROX_FEW_LINES else ST_OK
  let coord := fun (sel : Int × Int × Int → Int) => (f.pos.map fun p => int16 (sel p)).getD 0x8000
  let r := match got.mm with
    | some mm => if f.far then 0xFFFF else min 0xFFFE ((mm + 5) / 10)
    | none => 0xFFFF
  [w (2 ^ 31 + slot * 2 ^ 25 + f.zone * 2 ^ 23 + f.verdict * 2 ^ 21 + reused.toNat * 2 ^ 20 +
      ofBits [f.disagree, f.slope, f.few, f.wide] * 65536 + st),
   w (coord (fun p => p.1) * 65536 + coord (fun p => p.2.1)),
   w (coord (fun p => p.2.2) * 65536 + min 0xFFFF f.sigma),
   w (r * 65536 + (f.eCm.map int16).getD 0x8000),
   w ((got.resid10.map (min 0xFFFE)).getD 0xFFFF * 65536 + port * 512 + band * 256 + f.valid)] ++
  bursts.zipIdx.map fun b => sampleWord (if b.2 + 1 = bursts.length then 1 else 0) [b.1.1, b.1.2.1, b.1.2.2]

/-! ## End of a sequence -/

/-- Words of a completed ZONE_FIX. -/
def fixResult (s : State) (slot i : Nat) : Word := (((getKey s slot).fix.map fun f => f.words).getD []).getD i 0

/-- Demands that a block starting at `start` serves. -/
def servedBy (start : Nat) (h : Held) : Bool := h.taken ≤ start

/-- Complete the SVC_DEMANDs a block of a service served (12 R348). -/
def completeDemands (svc start status : Nat) (w5 : Word) (s : State) : State :=
  completeWhere (fun h => servedBy start h && (match h.kind with
    | .svcDemand n _ => n == svc
    | _ => false)) status (w status) w5 0 s

/-- A sequence leaves the radio part with a status: what waited for its fix completes, and with the block's last sequence
its demands and its results, all together (11 R334). -/
def endSeq (q : ZtSeq) (status : Nat) (withFix : Bool) (s : State) : State :=
  let s := modProx (fun p => { p with seqs := p.seqs.filter fun x => x.id != q.id }) s
  let word := fun i => if withFix then fixResult s q.slot i else 0
  let status := if q.status = ST_OK then status else q.status
  let s := completeWhere (fun h => servedBy q.startClk h && h.kind == .zoneFix q.slot) status (word 0) (word 1) (word 2) s
  if s.prox.seqs.any fun x => x.svc == q.svc && x.startClk == q.startClk then s
  else completeDemands q.svc q.startClk status (w (q.angle + 65536 * q.revs)) (flushResults q.svc q.startClk s)

/-- PROX_RELAY (12 R357). -/
def postRelay (slot : Nat) (f : FixParts) (got : RangeGot) (s : State) : State :=
  let e := (f.eCm.map int16).getD 0x8000
  let r := if f.far then 0xFFFF else (got.mm.map fun x => (x + 5) / 10).getD 0xFFFF
  postEvent 0x8020 (payload [slot, ofBits [f.disagree, f.slope]] ++ leBytes 2 e ++ leBytes 2 r)
    (modProx (fun p => { p with relayVerdicts := p.relayVerdicts + 1 }) s)

/-- A fix of a sequence completes (R239, R249 to R254; 07 R215). -/
def completeFix (q : ZtSeq) (status : Nat) (got : RangeGot) (s : State) : State :=
  let k := getKey s q.slot
  let f := formFix q.geom (lfLines q) q.port k.zone k.relayRun k.position got
  let ws := fixWords q.slot q.port (geomNat q.geom (proxId 0)) status f got q.bursts
  let reused := match got with
    | .reused _ => true
    | _ => false
  let s := modProx (fun p => { p with fixes := p.fixes + 1 }) s
  let s := modKey q.slot (fun k =>
    { k with position := f.pos,
             relayRun := if reused then k.relayRun else if f.verdict = 0 then 0
                         else if f.disagree || f.slope then k.relayRun + 1 else k.relayRun,
             range := match got with
               | .measured m => some { clk := s.clk, rCm := (m.rMm + 5) / 10, far := f.far, resid10 := m.resid10, verdict := f.verdict }
               | _ => k.range }) s
  let s := if f.verdict = 2 && !reused then postRelay q.slot f got s else s
  let s := applyFix q.slot { clk := s.clk, zone := f.zone, verdict := f.verdict, reused := reused, words := ws } s
  endSeq q (if status ≠ ST_OK then status else if f.few then ST_PROX_FEW_LINES else ST_OK) true (gather q.svc q.startClk ws s)

/-- The sequence in the radio: that of the request at the head of the queue. -/
def seqInHand (s : State) : Option ZtSeq :=
  match s.radio.queue.head? with
  | some r => if r.kind = ZT_POLL ∨ r.kind = RANGE then s.prox.seqs.find? fun q => q.id == r.seq else none
  | none => none

/-- The operation in hand ends with a status, whatever it is: a packet, a poll that leaves its key without a fix, or an
exchange that leaves a fix without a range (R247). -/
def endHead (status : Nat) (s : State) : State :=
  match s.radio.queue with
  | [] => s
  | r :: _ =>
    let q := seqInHand s
    let s := nextOp (tellRequest r status (countOutcome status s))
    match q with
    | none => s
    | some q => if r.kind = RANGE then completeFix q status .none s else endSeq q status false s

/-- The operation in hand ends with ST_BAD_ARG where the region in force no longer lets it transmit. What it sent in band 1 counts. The rule
says it of packets and exchanges; of a carrier on the air it says only that the radio is held in SLEEP or keeps to the region: the model ends it
alike (R260; DESIGN CHOICE, assumption log 18). -/
def refuseHeld (s : State) : State :=
  if (s.radio.queue.head?).any (heldOff s) then
    endHead ST_BAD_ARG (match sentUs s with
      | some us => if s.radio.chan ≤ 870000 then noteDuty us s else s
      | none => s)
  else s

/-- After a write of class 15: what the radio has taken and may no longer send (R260). -/
def holdRadio (s : State) : State := (List.range s.radio.queue.length).foldl (fun s _ => refuseHeld s) s

def modSeq (id : Nat) (f : ZtSeq → ZtSeq) (s : State) : State :=
  modProx (fun p => { p with seqs := p.seqs.map fun x => if x.id == id then f x else x }) s

end Sys2Proof.Machine
end

