-- ==== Sys2Proof/Machine/Sched.lean ====
section
/-!
DEFINITION. Sys2Proof/Machine/Sched.lean: from a Timetable entry to a running block: arming, contest, price and admission,
finality, crossing, deferral, start (01 R25 to R32; 02 R58 to R62; 03 R75, R83, R84, R97; 10 R293; 13 R373 to R377).
-/
namespace Sys2Proof.Machine

/-- Blocks are submitted and started: not in FAILED, in SIDING, or while the role is not decided (01 R34, 14 R384). -/
def blocksWork (s : State) : Bool := isRunning s && !isSiding s && !s.twin.deciding

/-! ## Crossings (R58, R59) -/

/-- Counts from where a source stands forward to an angle: a whole turn where it stands on it. -/
def toAngle (a : AngleSrc) (angle : Nat) : Nat := (nextAt (counts a + 1) angle - counts a).toNat

/-- Predicted clock at which a source reaches a position in counts, by its last edge interval or the synthetic rate (R58). -/
def predictReach (s : State) (n : Nat) (target : Int) : Option Nat := (reachClk s (getSrc s n) target).map (max s.clk)

/-- The machine as a source meets a position in counts: now, or where the motion it is in brings it there with no further edge (R39, R59).
None where it does not: a source that has stopped meets no entry (R29). -/
def meets (s : State) (n : Nat) (target : Int) : Option State :=
  if target ≤ counts (getSrc s n) then some s
  else match reachClk s (getSrc s n) target with
    | none => none
    | some t => let u := advanceTo t s; if target ≤ counts (getSrc u n) then some u else none

/-- The source lets its entries fire (R60). -/
def sourceFires (s : State) (n : Nat) : Bool :=
  let a := getSrc s n
  a.en && a.ttEn && (a.kind == 4 || (a.synced && !a.stalled && !a.reverse))

/-! ## Spans (R58) -/

/-- Worst cost of one repeat of AUTH_1U. -/
def auth1uRepeat : Nat := 84 + 28 * 72 + 150 + 84 * 16

/-- Span of a block at submission, never above max_span (R218, R220, R237, R167, R172, R173, R199). An IMMO_AUTH that selects by walk
and one that names no key have no AUTH_1U frame to fix it by. Where a route has gained driven members since SVC_DEFINE, R58 bounds the span of
a ZONE_TRACK by max_span and R237 fixes it whatever max_span is: the model follows R237 (DESIGN CHOICE, assumption log 15). -/
def blockSpan (s : State) (svc : Nat) (uid : Option Dword) (rb : Word) : Nat :=
  let max := svcPar s svc 7
  match svcPar s svc 0 with
  | 1 => 312
  | 2 => frameCyc (bitsOf 8 (255 - par s (lockId 4 0))) + 72 * popBelow (drivenMembers s (svcPar s svc 1)).toNat 24
  | 3 =>
    match uid with
    | some u =>
      if (findSvc s svc).any fun v => v.byWalk then max
      else frameCyc (cmdFrame (.auth1u u rb)) + 1494 + 1680 + 8 + min 2 ((max - 5282) / auth1uRepeat) * auth1uRepeat
    | none => 5282
  | 0 => 0
  | _ => max

/-! ## Price (13 R374) -/

/-- Gaps of a block of a service. -/
def blockGaps (s : State) (svc span : Nat) : Nat :=
  match svcPar s svc 0 with
  | 1 => frameGaps 8
  | 2 => frameGaps 8 + popBelow (drivenMembers s (svcPar s svc 1)).toNat 24
  | 3 => if (findSvc s svc).any fun v => v.byWalk then Config.sweepGaps svc span else frameGaps 72 + frameGaps 57
  | 4 => Config.sweepGaps svc span
  | 5 =>
    if svcPassMode s svc then 0
    else frameGaps 58 + (if svcReadCount s svc = 0 then 0 else frameGaps 64) + (if svcMeasures s svc then frameGaps 56 else 0)
  | 6 =>
    if (findSvc s svc).any fun v => v.hitched.isSome then
      -- INV_ASSIGN and H_STATUS, and the frames of an open chain transfer (06 R202)
      frameGaps 58 + frameGaps 40 +
        (if (findSvc s svc).any fun v => v.chain.isSome then frameGaps 72 + frameGaps 57 + frameGaps 344 else 0)
    else frameGaps 8 + frameGaps 36 + frameGaps 58 + frameGaps 72 + frameGaps 57 + frameGaps 64 + frameGaps 40 +
      (if (svcPar s svc 12).testBit 16 then frameGaps 344 else 0)
  | _ => 0

/-- Price of one driven member, to 1 µW: the three terms over the denominator 280,000 × span × div. -/
def memberPrice (s : State) (l peak gaps span : Nat) : Nat :=
  let slewMw := [3, 6, 15, 30].getD (linePar s l 2) 0
  let div := linePar s l 1
  let n := max 1 span
  let q := if 38000 < s.dev.vbatMv then gaps * linePar s l 11 * peak * peak * 16 * 28000 else 0
  (divRound (peak * peak * 70000 * n * div + slewMw * 1000 * s.dev.vbatMv * 256 * 20 * n + q : Nat) (280000 * n * div)).toNat

/-- Price of a block on a route in µW. -/
def routePrice (s : State) (r gaps span : Nat) : Nat :=
  ((linesOf (drivenMembers s r)).map fun l => memberPrice s l (targetPeak s r l) gaps span).sum

/-! ## The ledger (R375, R376) -/

/-- An interval of clocks with a price. -/
structure Load where
  start : Nat
  stop : Nat
  uw : Nat
  deriving DecidableEq, Repr

def blockEndClk (b : Block) : Nat := b.startClk + b.span * b.div

/-- Carrier divider of a set of lines, which share one (03 R75). -/
def linesDiv (s : State) (m : BitVec 24) : Nat := ((linesOf m).head?.map fun l => linePar s l 1).getD 256

def candEnd (s : State) (c : Cand) : Nat := c.crossing + c.span * linesDiv s c.lines

def blockLoad (b : Block) : Load := { start := b.startClk, stop := blockEndClk b, uw := b.priceUw }
def candLoad (s : State) (c : Cand) : Load := { start := c.crossing, stop := candEnd s c, uw := c.priceUw }

def overlap (a0 a1 b0 b1 : Nat) : Bool := a0 < b1 && b0 < a1

/-- P_peak of R375: the largest total over the 1 ms intervals of a span. -/
def peakUw (core : Nat) (loads : List Load) (start stop uw : Nat) : Nat :=
  ((List.range (ceilDiv (stop - start) 32000)).map fun k =>
    let t := start + 32000 * k
    core + uw + ((loads.filter fun x => overlap x.start x.stop t (min stop (t + 32000))).map fun x => x.uw).sum).foldl max 0

/-- The tests of R375. -/
def heatFits (s : State) (peak : Nat) : Bool :=
  decide (s.pwr.taEst + (pwrConf s 1 * peak : Nat) ≤ ((pwrConf s 0 * 10000000 : Nat) : Int)) && peak ≤ pwrConf s 2 * 1000

/-- Why the ledger refuses a candidate (R377): 0 not, 1 heat (until T_hot has fallen below tj_limit − 2 °C), 2 low VBAT. -/
def ledgerRefuses (s : State) (loads : List Load) (start stop uw : Nat) : Nat :=
  if s.pwr.hot || ((10 * pwrConf s 0 : Nat) : Int) ≤ tHot s then 1
  else if vbatMon s * 50 < pwrConf s 5 then 2
  else if heatFits s (peakUw (pwrConf s 3 * 1000) loads start stop uw) then 0 else 1

/-- Count a refusal (R375, R377). -/
def countRefusal (why : Nat) (s : State) : State :=
  if why = 1 then raise 0x188 1 (modPwr (fun p => { p with heatDefer := satSucc 0xFFFF p.heatDefer, deferHeat := p.deferHeat + 1 }) s)
  else modPwr (fun p => { p with deferVbat := p.deferVbat + 1 }) s

/-! ## Engines (10 R293) -/

/-- AES engines held by blocks, by the radio sequence in hand and by parts of background jobs. -/
def aesBusy (s : State) : Nat :=
  (s.sched.blocks.filter fun b => b.engine).length + (seqInHand s).isSome.toNat +
    (s.sec.jobs.filter fun j => !j.pk && j.running).length

/-! ## Decisions (01 R27, 13 R376) -/

def sameCand (a b : Cand) : Bool := a.svc == b.svc && a.opp == b.opp && a.target == b.target

def modCand (c : Cand) (f : Cand → Cand) (s : State) : State :=
  modSched (fun d => { d with cands := d.cands.map fun x => if sameCand x c then f x else x }) s

/-- Candidates that stand in the ledger. -/
def standing (s : State) : List Cand := s.sched.cands.filter fun c => c.decision == .admitted && !c.displaced

/-- Rank of R27: higher priority, then lower instance. -/
def outranks (a b : Cand) : Bool := b.priority < a.priority || (a.priority == b.priority && a.svc < b.svc)

/-- Place by rank. R27 and R376 order no two candidates of one service: the model keeps the one armed first ahead (DESIGN CHOICE,
assumption log 15). -/
def insertCand (c : Cand) : List Cand → List Cand
  | [] => [c]
  | x :: xs => if outranks x c then x :: insertCand c xs else c :: x :: xs

/-- Rivals that a candidate contests with for the only free engine at a clock: where the engines of blocks, of the radio, of jobs and of the
rivals active then leave it none, the lowest in rank of those rivals, as many as are needed (R27; DEDUCED, assumption log 15). -/
def engineRivals (s : State) (rivals : List Cand) (t : Nat) : List Cand :=
  let active := rivals.filter fun o => o.engine && o.crossing ≤ t && decide (t < candEnd s o)
  let blocks := (s.sched.blocks.filter fun b => b.engine && b.startClk ≤ t && decide (t < blockEndClk b)).length
  let others := (seqInHand s).isSome.toNat + (s.sec.jobs.filter fun j => !j.pk && j.running).length
  ((active.foldr insertCand []).reverse).take (blocks + others + active.length - 3)

/-- The admitted candidates a candidate contests with: those of other services that overlap it and share a line, or an engine at some
time of its span. A candidate of the calibration sweep claims no engine. -/
def contested (s : State) (c : Cand) : List Cand :=
  let rivals := (standing s).filter fun o => o.svc != c.svc && overlap c.crossing (candEnd s c) o.crossing (candEnd s o)
  let lines := rivals.filter fun o => o.lines &&& c.lines ≠ 0
  let rest := rivals.filter fun o => o.lines &&& c.lines == 0
  let times := c.crossing :: (rest.map fun o => o.crossing).filter fun t => c.crossing ≤ t
  lines ++ (if c.engine then rest.filter fun o => times.any fun t => (engineRivals s rest t).any (sameCand o) else [])

/-- Running blocks of other services that a candidate would overlap on a line, or that hold every engine as it would start: their admission is
final, so that it loses to them whatever its priority (R27, R376). -/
def runningRivals (s : State) (c : Cand) : List Block :=
  let alongside := s.sched.blocks.filter fun b => b.svc != c.svc && overlap c.crossing (candEnd s c) b.startClk (blockEndClk b)
  let engines := alongside.filter fun b => b.engine && decide (c.crossing < blockEndClk b)
  alongside.filter (fun b => b.lines &&& c.lines ≠ 0) ++ (if c.engine && decide (4 ≤ engines.length) then engines else [])

/-- A decision is final from 50 µs before the predicted crossing on (R58). -/
def isFinal (s : State) (c : Cand) : Bool := c.decision != .waiting && (c.final || c.crossing ≤ s.clk + clkUs 50)

/-- One candidate is decided (R27, R376, R377). -/
def decideCand (c : Cand) (s : State) : State :=
  let stop := candEnd s c
  let own := ((standing s).any fun o => o.svc == c.svc && overlap c.crossing stop o.crossing (candEnd s o)) ||
    (s.sched.blocks.any fun b => b.svc == c.svc && overlap c.crossing stop b.startClk (blockEndClk b))
  let rivals := contested s c
  if own || !(runningRivals s c).isEmpty || rivals.any fun o => isFinal s o || !outranks c o then modCand c (fun x => { x with decision := .refused }) s
  else
    let others := (standing s).filter fun o => !rivals.any fun r => sameCand r o
    let loads := s.sched.blocks.map blockLoad ++ others.map (candLoad s)
    match ledgerRefuses s loads c.crossing stop c.priceUw with
    | 0 =>
      let s := rivals.foldl (fun s r => modCand r (fun x => { x with displaced := true }) s) s
      modCand c (fun x => { x with decision := .admitted }) s
    | why => modCand c (fun x => { x with decision := .refused }) (countRefusal why s)

/-- Decide every candidate that waits, in the order of R27, and of one service in the order armed (insertCand; DESIGN CHOICE, assumption log
15); from 50 µs before its crossing on it is too late for one (R58). Sleep entry admits none (13 R368). -/
def decideWaiting (s : State) : State :=
  if s.dev.mode = .run then
    ((s.sched.cands.filter fun c => c.decision == .waiting && decide (s.clk + clkUs 50 ≤ c.crossing)).foldr insertCand []).foldl
      (fun s c => decideCand c s) s
  else s

/-! ## Arming (R58) -/

/-- A candidate whose decision is not final is predicted anew (R58; the spec does not say when a prediction is renewed: the model renews it at
each ledger step and admission, assumption log 15). One that is already crossed keeps its prediction. -/
def renewCand (s : State) (c : Cand) : Cand :=
  if isFinal s c || decide (c.target ≤ counts (getSrc s c.src)) then c
  else { c with crossing := (predictReach s c.src c.target).getD c.crossing }

def renewCands (s : State) : State := modSched (fun d => { d with cands := d.cands.map (renewCand s) }) s

/-- Entries of a service crossed no later than entry `opp` (its own next crossing counts as 1). -/
def entriesAhead (s : State) (svc opp : Nat) : Nat :=
  let a := getSrc s (svcPar s svc 3)
  (List.range (entryCount s svc)).countP fun k => toAngle a (entryAngle s svc k) ≤ toAngle a (entryAngle s svc opp)

/-- Due at an entry `ahead` crossings from now (12 R359). -/
def dueAhead (s : State) (v : Svc) (ahead : Nat) : Bool := svcDue s { v with crossings := v.crossings + ahead }

/-- The demand a block of a service would serve: the oldest. -/
def servedDemand (v : Svc) : Nat × Option Dword := ((v.demands.head?.map fun d => (d.slot, d.uid))).getD (255, none)

/-- The UID an IMMO_AUTH selects: that of the demand, or of the key's slot. -/
def targetUid (s : State) (slot : Nat) (uid : Option Dword) : Option Dword :=
  uid <|> (if slot < 32 ∧ (getKeyNv s slot).state ≠ 0 then some (getKeyNv s slot).uid else none)

/-- Complete with a status what waits for blocks of a service (03 R97). -/
def failDemands (svc status : Nat) (s : State) : State :=
  let slots := ((findSvc s svc).map fun v => v.demands.map fun d => d.slot).getD []
  let type := svcPar s svc 0
  let s := modSvc svc (fun v => { v with demands := [] }) s
  completeWhere (fun h => match h.kind with
    | .svcDemand n _ => n == svc
    | .authKey k => type == IMMO_AUTH && slots.contains k
    | .zoneFix k => type == ZONE_TRACK && slots.contains k
    | _ => false) status (w status) 0 0 s

/-- A candidate for an entry. -/
def makeCand (s : State) (svc opp : Nat) (target : Int) (crossing : Nat) (v : Svc) : Cand :=
  let r := svcPar s svc 1
  let d := servedDemand v
  let uid := if svcPar s svc 0 = IMMO_AUTH then targetUid s d.1 d.2 else none
  let rb := drawRb s
  let span := blockSpan s svc uid rb
  { svc := svc, opp := opp, route := r, lines := routeMembers s r, span := span,
    priceUw := routePrice s r (blockGaps s svc span) span, priority := svcPar s svc 8, decision := .waiting, final := false,
    displaced := false, src := svcPar s svc 3, target := target, crossing := crossing, engine := true, slot := d.1, uid := uid, rb := rb }

/-! ### The line calibration sweep (16 R454): one block per line at multiples of 0x2000 on ANGLE4 -/

/-- Number that stands for the sweep where a service is named. -/
def SWEEP : Nat := 256

/-- Lines still to be swept: those not fitted or faulted are skipped. -/
def skipLines (s : State) : State :=
  let bad := fun l => linePar s l 0 == 0 || (getLine s l).fault != 0
  let gone := s.mnt.sweepLeft.takeWhile bad
  modMnt (fun m => { m with sweepLeft := m.sweepLeft.drop gone.length,
                            skipped := gone.foldl (fun b l => b ||| (1 <<< l)) m.skipped }) s

def sweepBusy (s : State) : Bool := s.sched.cands.any (fun c => c.svc == SWEEP) || s.sched.blocks.any fun b => b.svc == SWEEP

def sweepCand (s : State) (opp : Nat) (target : Int) (crossing l : Nat) : Cand :=
  { svc := SWEEP, opp := opp, route := 16, lines := 1 <<< l, span := 2088,
    priceUw := memberPrice s l (linePar s l 3 * par s (maintId 2) / 1023) 0 2088, priority := 16, decision := .waiting, final := false,
    displaced := false, src := 4, target := target, crossing := crossing, engine := false, slot := 255, uid := none, rb := 0 }

/-- The next crossing of an angle of a source, once its prediction is no more than arm_lead_us away: its position in counts, and the
machine then (R58). -/
def armAt (s : State) (n angle : Nat) : Option (Int × Nat × State) :=
  let target := nextAt (counts (getSrc s n) + 1) angle
  match predictReach s n target with
  | none => none
  | some t =>
    let u := advanceTo (t - clkUs (anglePar s n 10)) s
    (predictReach u n target).map fun t => (target, t, u)

/-- Arming of the sweep's next line. -/
def armSweep (opp : Nat) (s : State) : State :=
  if !(blocksWork s && s.dev.mode == .run && s.mnt.running == 2 && opp < 8 && (getSrc s 4).en) then s
  else
    let s := skipLines s
    match s.mnt.sweepLeft, armAt s 4 (opp * 0x2000) with
    | l :: _, some (target, t, u) =>
      if sweepBusy u then u else modSched (fun d => { d with cands := d.cands ++ [sweepCand u opp target t l] }) u
    | _, _ => s

/-- ENTRY_ARM (R58): the predicted crossing is arm_lead_us away. -/
def execEntryArm (svc opp : Nat) (s : State) : Host.Outcome State Fault Refusal :=
  match findSvc s svc with
  | none => .next (if svc = SWEEP then armSweep opp s else s)
  | some v =>
    let n := svcPar s svc 3
    if !(blocksWork s && s.dev.mode == .run && v.defined && opp < entryCount s svc && sourceFires s n) then .next s
    else match armAt s n (entryAngle s svc opp) with
      | none => .next s
      | some (target, t, s) =>
        if !sourceFires s n || !dueAhead s v (entriesAhead s svc opp) || s.sched.cands.any (fun c => c.svc == svc && c.opp == opp) ||
            svcPar s svc 7 = 0 || routeMembers s (svcPar s svc 1) = 0 then .next s
        else if routeState s (svcPar s svc 1) = 2 then .next (failDemands svc ST_LINE_FAULT s)
        else .next (used 4 (modSched (fun d => { d with cands := d.cands ++ [makeCand s svc opp target t v] }) s))

/-! ## Ledger step (R373, R377) -/

/-- The three quantities of R373, `k` clocks after the last step. -/
def ledgerQuantities (k : Nat) (s : State) : State :=
  let now := pwrConf s 3 * 1000 + (s.sched.blocks.map fun b => b.priceUw).sum
  let keep := expNeg k (clkS (pwrConf s 4))
  let filt := (s.pwr.pFilt * keep + now * 2 ^ 32 * (2 ^ 32 - keep)) / 2 ^ 32
  let hot := tHot s
  modPwr (fun p => { p with pNowUw := now, pFilt := filt, taEst := hot * 1000000 - ((pwrConf s 1 * filt / 2 ^ 32 : Nat) : Int),
                            tPeak := max p.tPeak hot }) s

/-- HEAT_LIMIT (R377, R380). -/
def heatLimit (s : State) : State :=
  let hot := tHot s
  let lim : Int := 10 * (pwrConf s 0 : Nat)
  let post := fun (on : Nat) (s : State) => postEvent 0x8102 (payload [on, (hottest s.dev.sensors).2] ++ leBytes 2 (unsigned 16 hot)) s
  if !s.pwr.hot && lim ≤ hot then post 1 (modPwr (fun p => { p with hot := true }) s)
  else if s.pwr.hot && hot < lim - 20 then post 0 (modPwr (fun p => { p with hot := false }) s)
  else s

/-- LEDGER_STEP (R373): sensors and supply as read now, and what was written to the power items (R381); then every waiting candidate is decided. -/
def ledgerTick (sensors : List Int) (vbatMv : Nat) (s : State) : State :=
  if !boxRuns s || sensors.length ≠ 8 then s
  else
    let s := advanceTo (s.pwr.ledgerClk + clkMs 1) s
    let s := takePwrConf (setVbat vbatMv (modDev (fun d => { d with sensors := sensors }) s))
    let s := ledgerQuantities (s.clk - s.pwr.ledgerClk) s
    let s := heatLimit (modPwr (fun p => { p with ledgerClk := s.clk, stepped := true }) s)
    if blocksWork s then decideWaiting (renewCands s) else s

/-- ADMISSION_FINAL (R58): 50 µs before the crossing; a candidate still undecided is decided now. -/
def execAdmissionFinal (svc : Nat) (s : State) : Host.Outcome State Fault Refusal :=
  match s.sched.cands.find? fun c => c.svc == svc && !c.final with
  | none => .next s
  | some c0 =>
    let c := renewCand s c0
    if c.crossing < s.clk + clkUs 50 || decide (c.target ≤ counts (getSrc s c.src)) then .next s
    else
      let s := decideWaiting (renewCands (advanceTo (c.crossing - clkUs 50) s))
      let last := fun (x : Cand) => { x with final := x.decision != .waiting }
      .next (modSched (fun d => { d with cands := d.cands.map fun x => if x.svc == c.svc && x.opp == c.opp then last x else x }) s)

/-! ## Crossing (R59 to R61) -/

/-- tt_late of a source (R58, R53). -/
def setLate (n : Nat) (s : State) : State := raise 0x17F (2 ^ n) <| modTb (fun t => { t with ttLate := t.ttLate ||| (1 <<< n) }) s

/-- The block of a candidate, started at a clock. -/
def freshBlock (s : State) (c : Cand) : Block :=
  let a := getSrc s (svcPar s c.svc 3)
  let sweep := ((findSvc s c.svc).bind fun v => v.sweep)
  { svc := c.svc, type := svcPar s c.svc 0, route := c.route, lines := c.lines, driven := drivenMembers s c.route, bursts := drivenMembers s c.route, quenched := 0,
    span := c.span,
    div := linesDiv s c.lines, priceUw := c.priceUw, engine := c.engine, startClk := s.clk, startAngle := angleHalf a,
    startRevs := revsHalf a, slot := c.slot, uid := c.uid, used := 0, frames := [], cmd := none, attempt := 0, step := 0, finished := false,
    stack := (sweep.map fun x => x.stack).getD [Node.root], repeated := false, abandoned := 0,
    sweepNo := (sweep.map fun x => x.number).getD s.roster.sweeps, sweepLost := (sweep.map fun x => x.abandoned).getD 0, toAssign := [], found := [], gaps := [],
    walkStatus := ST_OK, rb := c.rb, rbs := [c.rb],
    rt := 0, kt := [], ks := [], ctr := 0, authOk := false, status := ST_OK, tagStatus := 0, readOk := false, data := [],
    samples := [], island := 0, islandOk := false, chainOk := false, accepted := false, chainNext := 0, chainAddr := 254, failed := false, recs := [],
    faulted := false, ended := none, geom := s.par }

/-- What the start of a block changes in its service: its demand is taken up, its count of crossings restarts (R359), and a sweep
begins or goes on (05 R168). -/
def svcStarted (c : Cand) (number : Word) (v : Svc) : Svc :=
  { v with started := true, deferred := false, crossings := 0,
           demands := v.demands.filter fun d => !(d.slot == c.slot && (d.uid == c.uid || d.uid.isNone)),
           sweep := v.sweep <|> some { stack := [Node.root], abandoned := 0, number := number } }

/-- The listening of a KEY_POLL runs from E + 0.2 ms to E + 12.0 ms of its wake pattern (07 R218, 09 R278), and its answers are gathered. -/
def startListen (svc : Nat) (s : State) : State :=
  match findBlock s svc with
  | none => s
  | some b =>
    if b.type ≠ KEY_POLL then s
    else
      let e := b.startClk + frameCyc (bitsOf 8 (par s (lockId 4 0))) * b.div
      let s := openResults svc b.startClk (svcPar s svc 2) s
      modRadio (fun r => { r with listen := r.listen ++
        [{ svc := svc, startClk := b.startClk, opens := e + clkUs 200, closes := e + clkMs 12, began := false }] }) s

/-- The first carrier cycle boundary of a divider from now on. The spec gives the cycles no phase: the model counts them from clock 0, for
every carrier (R59; DESIGN CHOICE, assumption log 15). -/
def nextBoundary (s : State) (div : Nat) : Nat := ceilDiv s.clk div * div

/-- A block starts (R59): at the first carrier cycle boundary at or after the crossing; a start of any block is a trigger of the timer
channels (R64). -/
def startBlock (c : Cand) (s : State) : State :=
  let s := captureTrig 6 (advanceTo (nextBoundary s (linesDiv s c.lines)) s)
  let sweeping := svcPar s c.svc 0 == ROSTER_SWEEP
  let fresh := sweeping && ((findSvc s c.svc).any fun v => v.sweep.isNone)
  let s := if fresh then modRoster (fun r => { r with sweeps := r.sweeps + 1 }) s else s
  let s := modSvc c.svc (fun v => let v' := svcStarted c s.roster.sweeps v; if sweeping then v' else { v' with sweep := none }) s
  let s := modSched (fun x => { x with blocks := x.blocks ++ [freshBlock s c] }) s
  let s := if c.engine then modSec (fun x => { x with engineJobs := x.engineJobs + 1 }) s else s
  startListen c.svc (beginExchange c.svc s)

def dropCand (c : Cand) (s : State) : State := modSched (fun d => { d with cands := d.cands.filter fun x => !sameCand x c }) s

/-- The candidate of an entry meets its crossing (R61). In commit the signal box is being stopped, and a block that could not run its whole
span does not start: it is deferred (R28, 13 R362, R369; DEDUCED, assumption log 15). Route items staged for the block apply as it starts (R84), and only then. Where its
route has a faulted line and it is displaced, late or refused besides, the spec gives no order: the model defers it, and leaves its demand
pending (R97; DESIGN CHOICE, assumption log 15). -/
def crossCand (c : Cand) (n : Nat) (s : State) : State :=
  let s := dropCand c s
  if c.displaced || s.dev.mode == .commit then deferSvc c.svc s
  else if !isFinal s c then deferSvc c.svc (setLate n s)
  else if c.decision != .admitted then deferSvc c.svc s
  else
    let t := applyStaged (fun id => id / 2048 == 3 && id % 2048 / 32 == c.route) s
    let c := { c with lines := routeMembers t c.route }
    if c.lines = 0 then s
    else if routeState t c.route = 2 then failDemands c.svc ST_LINE_FAULT s
    else if linesHeld s &&& c.lines ≠ 0 || 4 ≤ aesBusy s then deferSvc c.svc s
    else startBlock c t

/-- The sweep's candidate meets its crossing: it starts, or waits for a later one (16 R454). -/
def crossSweep (opp : Nat) (s : State) : State :=
  match s.sched.cands.find? fun c => c.svc == SWEEP && c.opp == opp with
  | none => s
  | some c =>
    match if blocksWork s then meets s 4 c.target else none with
    | none => s
    | some s =>
      let s := dropCand c s
      if s.dev.mode == .commit || !isFinal s c || c.decision != .admitted || c.displaced || linesHeld s &&& c.lines ≠ 0 ||
          c.lines &&& faultedLines s ≠ 0 || !(getSrc s 4).en || !(getSrc s 4).ttEn then s
      else
        let s := captureTrig 6 (advanceTo (nextBoundary s (linesDiv s c.lines)) s)
        modSched (fun x => { x with blocks := x.blocks ++
          [{ freshBlock s c with type := 7, driven := c.lines, bursts := c.lines, finished := true, stack := [] }] }) s

/-- Position in counts of the crossing of an angle that ENTRY_CROSSING stands for (R59): the last one the source has passed where the service
has not taken it yet, else the next. -/
def crossingOf (v : Svc) (a : AngleSrc) (angle : Nat) : Int :=
  let next := nextAt (counts a + 1) angle
  if v.crossed < next - 65536 then next - 65536 else next

/-- ENTRY_CROSSING (R59): the accumulator meets or passes the entry. One that a reversed source passes again before its mark is crossed and
does not fire (R60); the candidate armed for the next turn stays. -/
def execEntryCrossing (svc opp : Nat) (s : State) : Host.Outcome State Fault Refusal :=
  match findSvc s svc with
  | none => .next (if svc = SWEEP then crossSweep opp s else s)
  | some v =>
    let n := svcPar s svc 3
    let armed := s.sched.cands.find? fun c => c.svc == svc && c.opp == opp
    let at' := crossingOf v (getSrc s n) (entryAngle s svc opp)
    let target := (armed.map fun c => min c.target at').getD at'
    let cand := armed.filter fun c => c.target == target
    if !(blocksWork s && v.defined && opp < entryCount s svc) then .next s
    else match meets s n target with
      | none => .next s
      | some s =>
        let s := modSvc svc (fun v => { v with crossings := v.crossings + 1, crossed := target }) s
        let dropped := (cand.map fun c => dropCand c s).getD s
        if !((findSvc s svc).any fun v => svcDue s v) then .next dropped
        else if !sourceFires s n then .next (deferSvc svc dropped)
        else match cand with
          | some c => .next (crossCand c n s)
          | none =>
            if svcPar s svc 7 = 0 || routeMembers s (svcPar s svc 1) = 0 then .next s
            else if routeState s (svcPar s svc 1) = 2 then .next (failDemands svc ST_LINE_FAULT s)
            else .next (deferSvc svc (setLate n s))

end Sys2Proof.Machine
end

