-- ==== Sys2Proof/Machine/IslandMem.lean ====
section
/-!
DEFINITION. Sys2Proof/Machine/IslandMem.lean: the transponder memory of the hitch island: what a block holds, the commit of a block in
four steps, host writes while a session is open or a commit runs, and the blocks the device itself writes (06 R186 to R198; 15 R438).
-/
namespace Sys2Proof.Machine

/-! ## Reading (R187, R195) -/

/-- The Class H descriptor (R187). -/
def hitchDesc (s : State) : Word := BitVec.ofNat 32 (0x31B08000 + s.isl.authFrom)

/-- A block's last committed value: from the shadow slot while its copy runs (R195). -/
def islBlock (s : State) (blk : Nat) : Word :=
  match blk with
  | 0 => BitVec.ofNat 32 ((deviceUid s).toNat / 2 ^ 32)
  | 1 => BitVec.ofNat 32 (deviceUid s).toNat
  | 2 => hitchDesc s
  | _ =>
    match s.isl.flag with
    | some f => if f.blk = blk then f.data else Cells.getD s.isl.mem blk 0
    | none => Cells.getD s.isl.mem blk 0

/-- Blocks of the memory. -/
def islBlocks : Nat := 512

/-- Whether the host may write a block (R187). -/
def hostMayWrite (blk : Nat) : Bool := 3 ≤ blk && !(8 ≤ blk && blk ≤ 10)

/-! ## The commit (R189) -/

/-- Steps 1 and 2: the next shadow slot is written and the flag set. -/
def shadowWrite (blk : Nat) (data : Word) (i : Island) : Island :=
  let e : Shadow := { blk := blk, data := data, seq := i.shadowSeq }
  { i with shadow := (i.shadow ++ [e]).drop (i.shadow.length + 1 - 16), shadowSeq := i.shadowSeq + 1, flag := some e }

/-- Steps 3 and 4: the slot is copied and the flag cleared. -/
def shadowCopy (i : Island) : Island :=
  match i.flag with
  | some e => { i with mem := Cells.putD i.mem e.blk e.data 0, flag := none }
  | none => i

/-- A commit runs (R189, R191). -/
def committing (s : State) : Bool := s.isl.flag.isSome || s.isl.rolling

/-! ## Host writes (R196, R197) -/

/-- The next waiting block of host writes taken with no session open starts its commit; the last of a command completes it. -/
def startNext (s : State) : State :=
  match s.isl.writing with
  | [] => s
  | b :: rest =>
    if s.isl.session || committing s || s.isl.applying then s
    else
      let s := modIsl (fun i => { shadowWrite b.blk b.data i with writing := rest }) s
      if rest.any fun x => x.ring == b.ring && x.idx == b.idx then s else complete b.ring b.idx ST_OK 0 0 0 0 s

/-- Blocks of a write join the queue. -/
def queueWrites (l : List StagedBlk) (s : State) : State :=
  startNext (modIsl (fun i => { i with writing := i.writing ++ l }) s)

/-- The next staged block but the last starts its commit after a session. -/
def applyNext (s : State) : State :=
  match s.isl.staged with
  | b :: c :: rest =>
    if s.isl.applying && !s.isl.session && !committing s then modIsl (fun i => { shadowWrite b.blk b.data i with staged := c :: rest }) s
    else s
  | _ => s

/-- ISLAND_COMMIT_COMPLETE (R189, R191): steps 3 and 4 end, of a commit or of a roll forward. -/
def execIslandCommitComplete (s : State) : Host.Outcome State Fault Refusal :=
  if !(s.isl.powered && committing s) then .next s
  else
    let torn := s.isl.rolling
    let s := modIsl (fun i => { shadowCopy i with rolling := false, torn := if torn then i.torn + 1 else i.torn }) s
    if isRunning s then .next (applyNext (startNext s)) else .next s

/-- XPM_APPLIED (R197): the last staged block passes step 2; the event names the last command applied. -/
def execXpmApplied (s : State) : Host.Outcome State Fault Refusal :=
  if !(isRunning s && s.isl.applying && !s.isl.session && !s.isl.staged.isEmpty && !s.isl.rolling) then .next s
  else
    let staged := s.isl.staged
    let s := modIsl (fun i => { staged.foldl (fun i b => shadowWrite b.blk b.data (shadowCopy i)) i with staged := [], applying := false }) s
    match (staged.filter fun b => b.ring < 64).getLast? with
    | some b => .next (postEvent 0x8030 (payload [b.seq, b.ring]) s)
    | none => .next s

/-- Most blocks staged (R196). -/
def stageMax : Nat := 128

/-- Blocks of host writes staged (R196, R205): the device's own are not among them. -/
def hostStaged (s : State) : Nat := (s.isl.staged.filter fun b => b.ring < 64).length

/-- What is left of one write as a session opens is staged, or dropped where it does not fit (R196); the device's own always is. -/
def stageOne (rest : List StagedBlk) (s : State) (r : Nat × Nat) : State :=
  let mine := rest.filter fun b => b.ring == r.1 && b.idx == r.2
  let staged := modIsl (fun i => { i with staged := i.staged ++ mine }) s
  if r.1 = 64 then staged
  else if hostStaged s + mine.length ≤ stageMax then complete r.1 r.2 ST_QUEUED 0 0 0 0 staged
  else complete r.1 r.2 ST_XPM_FULL 0 0 0 0 s

/-- A session opens: host writes not yet through are staged in the order taken, each where it fits (R196); application of staged writes
waits (R197). -/
def stageRest (s : State) : State :=
  let rest := s.isl.writing
  (rest.map fun b => (b.ring, b.idx)).eraseDups.foldl (stageOne rest) (modIsl (fun i => { i with writing := [], applying := false }) s)

/-! ## After a session (R197, R203; 10 R291) -/

/-- HITCH_SESSION events of sessions that closed are posted once the device can (R203; the spec does not say what becomes of one that closes
in a sleep state or in boot: DESIGN CHOICE, assumption log 21). -/
def postSessions (s : State) : State :=
  if isRunning s then
    s.isl.sessionsDue.foldl (fun s e => postEvent 0x8032 (leBytes 2 e.1 ++ [BitVec.ofNat 8 e.2.toNat]) s)
      (modIsl (fun i => { i with sessionsDue := [] }) s)
  else s

/-- The hitch key goes into slot 5 and the island key cell in one step, or, while a field session is open, when that closes (10 R291). -/
def enrolHitch (usage owner : Nat) (key : List Byte) (s : State) : State :=
  if s.isl.session then modIsl (fun i => { i with enrolWait := some (usage, owner, key) }) s
  else writeSlot 5 KEY_AES128 usage owner key (modIsl (fun i => { i with keyCell := key }) s)

/-- An enrolment that waited for the session to close takes effect: slot 5 and the island key cell in one step (10 R291), which needs the
device's own supply. -/
def settleEnrolWait (s : State) : State :=
  match s.isl.enrolWait with
  | none => s
  | some (usage, owner, key) =>
    if isRunning s && !s.isl.session then
      writeSlot 5 KEY_AES128 usage owner key (modIsl (fun i => { i with keyCell := key, enrolWait := none }) s)
    else s

/-- What waited for the session to close and for a device that runs. -/
def afterSession (s : State) : State := if isRunning s then applyNext (settleEnrolWait (postSessions s)) else s

/-! ## Blocks of the device's own (R187, 15 R438) -/

/-- Block 10: the target's chain state. -/
def chainStateWord (s : State) : Word :=
  BitVec.ofNat 32 (s.nv.updStage * 2 ^ 28 + par s (updId 1) % 2 * 2 ^ 27 + piecesMissing s % 2048 * 65536 + imageIdNat (handBlob s) % 65536)

/-- The value a block has or will have. -/
def blockToCome (s : State) (blk : Nat) : Word :=
  (((s.isl.staged ++ s.isl.writing).filter fun b => b.blk == blk).getLast?.map fun b => b.data).getD (islBlock s blk)

/-- The device rewrites one of its blocks through the staging path. -/
def writeOwnBlock (blk : Nat) (v : Word) (s : State) : State :=
  if blockToCome s blk = v then s
  else
    let b : StagedBlk := { blk := blk, data := v, seq := 0, ring := 64, idx := 0 }
    if s.isl.session then modIsl (fun i => { i with staged := i.staged ++ [b] }) s else queueWrites [b] s

/-- Blocks 8 to 10 follow the firmware and the chain state (R187). -/
def refreshOwnBlocks (s : State) : State :=
  if !isRunning s then s
  else
    let b := (runBank s).blob
    writeOwnBlock 10 (chainStateWord s) (writeOwnBlock 9 (BitVec.ofNat 32 (hdrSecver b)) (writeOwnBlock 8 (BitVec.ofNat 32 (hdrRelease b)) s))

end Sys2Proof.Machine
end

