-- ==== Sys2Proof/Machine/Update.lean ====
section
/-!
DEFINITION. Sys2Proof/Machine/Update.lean: receiving, verifying, activating, confirming and giving up an image (15 R418 to R428, R438,
R440).
-/
namespace Sys2Proof.Machine

def ST_UPD_FORMAT : Nat := 0x0800
def ST_UPD_TARGET : Nat := 0x0801
def ST_UPD_ROLLBACK : Nat := 0x0802
def ST_UPD_STAGE : Nat := 0x0803
def ST_UPD_DIGEST : Nat := 0x0804
def ST_UPD_OUTPUTS : Nat := 0x0805
def ST_UPD_BUSY : Nat := 0x0806
def ST_UPD_RUNNING : Nat := 0x0807
def ST_UPD_SETTINGS : Nat := 0x0808

/-! ## Headers (R418, R420, R421) -/

def blobSlice (blob : List Byte) (off n : Nat) : List Byte := (blob.drop off).take n

/-- Length of a blob by its flags. -/
def blobLength (flags : Nat) : Nat := if flags.testBit 0 then 576 else 384

/-- First check of R420: length, magic, format, blob length, flags and body length agree. -/
def headerFormat (blob : List Byte) : Bool :=
  let n := blobLength (hdrFlags blob)
  blob.length == n && hdrNat blob 6 2 == n && blob.take 4 == ascii "DPT1" && hdrNat blob 4 2 == 1 && decide (hdrFlags blob < 8) &&
  decide (1 ≤ hdrPieces blob) && decide (hdrPieces blob ≤ 1024) && decide (1 ≤ hdrLast blob) && decide (hdrLast blob ≤ 4096) &&
  hdrNat blob 36 4 == (hdrPieces blob - 1) * 4096 + hdrLast blob

def headerTarget (blob : List Byte) : Bool := hdrNat blob 16 2 == 0x2464 && decide (hdrNat blob 18 2 ≤ 0x00B0)

/-- Digest under both signatures: SHA-384 of bytes 0 to 127. -/
def headerDigest (blob : List Byte) : List Byte := sha384 (blob.take 128)

def vendorSigned (s : State) (blob : List Byte) : Bool :=
  sha384 (blobSlice blob 192 96) == brixquaHash s && ecdsaVerify (blobSlice blob 192 96) (headerDigest blob) (blobSlice blob 288 96)

/-- The co-signature: required and bound to the burnt root hash once there is one; one that is present must verify in any case. -/
def coSigned (s : State) (blob : List Byte) : Bool :=
  let has := (hdrFlags blob).testBit 0
  let good := ecdsaVerify (blobSlice blob 384 96) (headerDigest blob) (blobSlice blob 480 96)
  if oemRootSet s then has && sha384 (blobSlice blob 384 96) == oemHash s && good else !has || good

/-- The checks of R420 in order: the first status that refuses a header. -/
def headerRefused (s : State) (blob : List Byte) : Option Nat :=
  let running := hdrSettings (runBank s).blob
  if !headerFormat blob then some ST_UPD_FORMAT
  else if !headerTarget blob then some ST_UPD_TARGET
  else if !vendorSigned s blob then some ST_AUTH_FAIL
  else if !coSigned s blob then some ST_AUTH_FAIL
  else if hdrSecver blob < secver s then some ST_UPD_ROLLBACK
  else if !(hdrOldest blob ≤ running && running ≤ hdrSettings blob) then some ST_UPD_SETTINGS
  else if s.nv.updStage = TRIAL || s.nv.updStage = VERIFYING then some ST_UPD_STAGE
  else if hdrImageId blob == hdrImageId (runBank s).blob then some ST_UPD_RUNNING
  else none

/-- A header that passed acts (R421). The bank itself keeps what it holds until its sectors are written. -/
def acceptHeader (blob : List Byte) (s : State) : State :=
  let same := s.nv.updStage ≠ IDLE && hdrImageId blob == hdrImageId (idleBank s).blob
  refreshOwnBlocks <|
    if same then (if s.nv.updStage = REVERTED then setStage VERIFIED s else s)
    else
      let s := modBank (!s.upd.bank) (fun b => { blob := blob, pieces := b.pieces, good := b.good && b.blob == blob }) s
      setStage RECEIVING (modNv (fun n => { n with bitmap := [], chainTarget := false }) s)

/-- A header from the host or the chain: the status, and the pieces of the image where it passed. -/
def takeHeader (blob : List Byte) (s : State) : State × Nat :=
  match headerRefused s blob with
  | some st => (s, st)
  | none => (acceptHeader blob s, ST_OK)

/-! ## Pieces (R423) -/

/-- Steps 1 to 3: the status of a piece that is not decrypted. -/
def pieceStatus (s : State) (i len : Nat) : Option Nat :=
  let blob := (idleBank s).blob
  if s.nv.updStage ≠ RECEIVING then some ST_UPD_STAGE
  else if hdrPieces blob ≤ i || len ≠ pieceLen blob i + 16 then some ST_BAD_ARG
  else if s.nv.bitmap.contains i then some ST_OK
  else none

/-- A piece from the host or the chain, under the key that its job derived. What is held of it meanwhile is zeroised where its tag fails (10
R295). -/
def takePiece (key : List Byte) (i : Nat) (bs : List Byte) (s : State) : State × Nat :=
  match pieceStatus s i bs.length with
  | some st => (s, st)
  | none =>
    match openPiece key (idleBank s).blob i bs with
    | none => (modSec (fun x => { x with zeroised := x.zeroised + 1 }) (modUpd (fun u => { u with piecesBad := u.piecesBad + 1 }) s), ST_AUTH_FAIL)
    | some plain =>
      let s := modBank (!s.upd.bank) (fun b => { b with pieces := (b.pieces.filter fun p => p.1 != i) ++ [(i, plain)],
                                                        good := b.good && b.pieces.any fun p => p.1 == i && p.2 == plain }) s
      let s := modNv (fun n => { n with bitmap := n.bitmap ++ [i] }) s
      let s := if piecesMissing s = 0 then postStage (setStage RECEIVED s) else s
      (refreshOwnBlocks s, ST_OK)

/-! ## Verification (R424), confirmation (R427), giving up (R428) -/

/-- Opcode under which a verification runs as a job of the hash engine; ring 255 for the device's own (R438). -/
def OP_VERIFY : Nat := 0x0C03

/-- The image is confirmed (R427): the boot record first, then the thermometer. -/
def confirmImage (s : State) : State :=
  let b := (runBank s).blob
  let s := writeBoot s.upd.bank false 0 (bootRecord s).previous s
  let s := burnSecver (hdrSecver b) s
  let s := setStage IDLE (modUpd (fun u => { u with unconfirmed := false, trialNow := 0 }) s)
  postEvent 0x8303 (payload [hdrRelease b % 256, hdrRelease b / 256, 0, 0] ++ leBytes 4 (hdrSecver b)) (refreshOwnBlocks s)

/-- The image in hand is given up (R428). -/
def abandonImage (s : State) : State := refreshOwnBlocks (setStage IDLE (modNv (fun n => { n with bitmap := [], chainTarget := false }) s))

/-- The body check ends (R424): the status of the command, and what waited for it. -/
def endVerify (s : State) : State × Nat :=
  let (s, st) := verifyBody s
  let s := refreshOwnBlocks s
  let waits := s.port.held.filter fun h => h.kind == .updAbort
  if waits.isEmpty then (s, st) else (waits.foldl (fun s h => done h ST_OK s) (abandonImage s), st)

/-- AUTO_CONFIRM (R427): the trial image has run auto_confirm_s in this boot; a boot record that no nonce is left for is not written (10 R302). -/
def execAutoConfirm (s : State) : Host.Outcome State Fault Refusal :=
  let t := par s (updId 0)
  if isRunning s && s.nv.updStage == TRIAL && t != 0 then
    let s := advanceTo (s.upd.confirmClk + clkS t) s
    .next (if nonceLeft s then confirmImage s else retire s)
  else .next s

/-! ## Activation (R425) -/

def outputsLocked (s : State) : Bool := s.locks.all fun l => l.state == LOCKED

/-- The status that refuses an activation. -/
def activateRefused (s : State) : Option Nat :=
  if !(s.nv.updStage = VERIFIED || s.nv.updStage = REVERTED) then some ST_UPD_STAGE
  else if !outputsLocked s then some ST_UPD_OUTPUTS
  else if s.mnt.running ≠ 0 || !s.mnt.queue.isEmpty then some ST_UPD_BUSY
  else if !nonceLeft s then some ST_CTR_EXHAUSTED
  else none

/-- The flip: the mark, the boot record, the reset (R425). -/
def activateImage (s : State) : State :=
  let b := !s.upd.bank
  let s := modArea b (fun a => { a with unmigrated := true }) s
  resetDevice causeHost (writeBoot b true 0 s.upd.bank (setStage TRIAL (modNv (fun n => { n with chainTarget := false }) s)))

end Sys2Proof.Machine
end

