-- ==== Sys2Proof/Machine/Jobs.lean ====
section
/-!
DEFINITION. Sys2Proof/Machine/Jobs.lean: background jobs of the AES engines and jobs of the public-key and hash engine, in order of
arrival; contexts saved between parts; a slot's key held by a job, and its destruction (10 R286, R287, R293 to R299).
-/
namespace Sys2Proof.Machine

/-! ## The queues -/

def findJob (s : State) (id : Nat) : Option Job := s.sec.jobs.find? fun j => j.id == id

def modJob (id : Nat) (f : Job → Job) (s : State) : State :=
  modSec (fun x => { x with jobs := x.jobs.map fun j => if j.id == id then f j else j }) s

def dropJob (id : Nat) (s : State) : State := modSec (fun x => { x with jobs := x.jobs.filter fun j => j.id != id }) s

/-- One more job of a kind may run: one on the public-key engine, three background jobs of the four AES engines (R293, R299). -/
def jobMayRun (s : State) (pk : Bool) : Bool :=
  if pk then !(s.sec.jobs.any fun j => j.pk && j.running)
  else (s.sec.jobs.countP fun j => !j.pk && j.running) < 3 && aesBusy s < 4

/-- The area a descriptor of KEY_CCM_DEC quarantined is open again (R295). -/
def openQuarantine (h : Held) (s : State) : State :=
  if h.opcode = 0x0B0E then modPort (fun p => { p with quarantine := p.quarantine.filter fun a => a.1 != h.a2.toNat }) s else s

/-- A job cannot start: its descriptor completes, and it leaves the queue. -/
def refuseJob (j : Job) (status : Nat) (s : State) : State :=
  let s := match findHeld s j.ring j.idx with
    | some h => openQuarantine h s
    | none => s
  complete j.ring j.idx status 0 0 0 0 (dropJob j.id s)

/-- Opcode of a job that decrypts a piece (15 R423). -/
def OP_PIECE : Nat := 0x0C02

/-! ## Saved contexts (R296 to R298) -/

/-- The clear form of a saved context (R296), for a key of a slot, or 0xFF for a derived one. -/
def ctxClear (form mode keySize slot tagLen : Nat) (boot gen : Word) (serial : Nat) (run ctr pend : List Byte) (declared count : Nat) : List Byte :=
  [BitVec.ofNat 8 form, BitVec.ofNat 8 mode, BitVec.ofNat 8 keySize, BitVec.ofNat 8 pend.length] ++ leBytes 4 boot.toNat ++
    [BitVec.ofNat 8 slot, BitVec.ofNat 8 tagLen] ++ leBytes 2 serial ++ leBytes 4 gen.toNat ++ run ++ ctr ++ pend ++ zeros (16 - pend.length) ++
    leBytes 4 declared ++ leBytes 4 count

/-- The wrapped form: the key follows, and EK wraps it all. -/
def ctxWrapped (ek clear key : List Byte) : List Byte := keyWrap ek (clear ++ key ++ zeros (32 - key.length))

/-- The slot of a saved context is empty now, or of another generation than the one saved (R298); a derived key has no slot. -/
def slotMoved (s : State) (clear : List Byte) : Bool :=
  let slot := (clear.getD 8 0).toNat
  slot != 0xFF && (!slotHolds s slot || leNat (blobSlice clear 12 4) != (slotGen s slot).toNat)

/-- The restore of a job's context (R298): its key, or the status that refuses it. -/
def restoreJob (s : State) (j : Job) (serial : Nat) : Except Nat (List Byte) :=
  match keyUnwrap s.sec.ek j.ctx with
  | none => .error ST_CTX_STALE
  | some clear =>
    if leNat (blobSlice clear 4 4) ≠ s.sec.bootCount.toNat then .error ST_CTX_STALE
    else if slotMoved s clear then .error ST_KEY_EMPTY
    else if 2 ≤ (clear.getD 1 0).toNat && !s.sec.ccmSaved.contains serial then .error ST_CTR_EXHAUSTED
    else .ok (blobSlice clear 72 (clear.getD 2 0).toNat)

/-! ### The context of a KEY_CMAC (R296 to R298; 12 R352) -/

def cmacSlot (h : Held) : Nat := h.a0.toNat % 256
def cmacFirst (h : Held) : Bool := h.a0.getLsbD 8
def cmacLastPart (h : Held) : Bool := h.a0.getLsbD 9
def cmacWrapped (h : Held) : Bool := h.a0.getLsbD 10

/-- Length of a saved context. -/
def ctxLen (wrapped : Bool) : Nat := if wrapped then 112 else 72

/-- What a restored context gives: running value, pending bytes, bytes processed. -/
structure Ctx where
  run : List Byte
  pend : List Byte
  count : Nat

def ctxOf (clear : List Byte) : Ctx :=
  { run := blobSlice clear 16 16, pend := (blobSlice clear 48 16).take (clear.getD 3 0).toNat, count := leNat (blobSlice clear 68 4) }

/-- The restore of a context for a slot (R298): its clear bytes, or the status that refuses it. -/
def restoreCtx (s : State) (wrapped : Bool) (slot : Nat) (bs : List Byte) : Except Nat (List Byte) :=
  let check := fun (form : Nat) (clear : List Byte) =>
    if (clear.getD 0 0).toNat ≠ form ∨ (clear.getD 1 0).toNat ≠ 1 ∨ 16 < (clear.getD 3 0).toNat ∨ (clear.getD 8 0).toNat ≠ slot then
      Except.error ST_BAD_ARG
    else if slotMoved s clear then Except.error ST_KEY_EMPTY
    else Except.ok clear
  if wrapped then
    match keyUnwrap s.sec.ek bs with
    | none => .error ST_CTX_STALE
    | some clear =>
      if leNat (blobSlice clear 4 4) ≠ s.sec.bootCount.toNat then .error ST_CTX_STALE else check 2 (clear.take 72)
  else if (bs.getD 8 0).toNat = 0xFF ∨ bs.getD 2 0 ≠ 0 then .error ST_BAD_ARG
  else check 1 bs

/-- A restore is refused (R307 item 7). -/
def refuseRestore (s : State) : State := modSec (fun x => { x with ctxRefused := x.ctxRefused + 1 }) s

/-! ## Which jobs touch a slot (R285, R287; 11 R333) -/

/-- The slot that the command of a job writes or destroys. -/
def writesSlot (s : State) (j : Job) : Option Nat :=
  if j.opcode = 0x0B08 ∨ j.opcode = 0x0B09 ∨ j.opcode = 0x0B0B then (findHeld s j.ring j.idx).map fun h => h.a0.toNat else none

/-- An earlier descriptor of a ring writes a slot, and its job has not ended. -/
def slotWritten (s : State) (ring slot before : Nat) : Bool :=
  s.sec.jobs.any fun j => j.ring == ring && decide (j.id < before) && writesSlot s j == some slot

/-- The usage bit that a job needs of its key, and whether the key is a P-384 one (R285). -/
def jobUse (opcode : Nat) : Option (Nat × Bool) :=
  match opcode with
  | 0x0B07 => some (4, true)
  | 0x0B0C => some (1, false)
  | 0x0B0D => some (2, false)
  | 0x0B0E => some (2, false)
  | 0x0B10 => some (4, true)
  | 0x0B13 => some (4, true)
  | 0x0C02 => some (0, false)
  | _ => none

/-- A key may be used so; one of a slot that the host names must be the host's too. -/
def usageFits (a : Dword) (bit : Nat) (ec : Bool) : Bool :=
  (attrUsage a).getLsbD bit && (attrType a == KEY_P384) == ec && (attrSlot a < 16 || (attrUsage a).getLsbD 6)

/-! ## Starting -/

/-- A job runs with its key. A piece is decrypted under the key derived from its slot's (R289). -/
def runJob (j : Job) (key : List Byte) (s : State) : State :=
  let first := !j.pk && j.serial.isNone
  let draws := j.opcode == 0x0B0D && j.serial.isNone
  let key := if j.opcode = OP_PIECE ∧ j.serial.isNone then kdf256 key (ascii "ILK-IMG") (hdrImageId (idleBank s).blob) else key
  let s := modJob j.id (fun x => { x with running := true, key := key, serial := none, ctx := [],
                                          nonce := if draws then nonceHead s ++ [0x10] else x.nonce }) s
  let s := if draws then bumpNonce s else s
  modSec (fun x => { x with engineJobs := if first then x.engineJobs + 1 else x.engineJobs,
                            ccmSaved := x.ccmSaved.filter fun n => some n != j.serial }) s

/-- The context that a job of KEY_CMAC goes on from is restored as the job starts: the status that refuses it (R298). -/
def cmacRefused (s : State) (j : Job) : Option Nat :=
  match if j.opcode = 0x0B0C then findHeld s j.ring j.idx else none with
  | none => none
  | some h =>
    if cmacFirst h then none
    else match restoreCtx s (cmacWrapped h) j.slot (winRead s h.a1.toNat (ctxLen (cmacWrapped h))) with
      | .ok _ => none
      | .error st => some st

/-- A job is a KEY_CMAC that goes on from a context. -/
def cmacContinues (s : State) (j : Job) : Bool := j.opcode == 0x0B0C && (findHeld s j.ring j.idx).any fun h => !cmacFirst h

/-- A job starts with the key its slot gives it (R285, R286). -/
def loadKey (j : Job) (a : Dword) (key : List Byte) (s : State) : State :=
  if !(jobUse j.opcode).all (fun u => usageFits a u.1 u.2) then refuseJob j ST_KEY_USAGE s
  else match cmacRefused s j with
    | some st => refuseJob j st (refuseRestore s)
    | none => if j.opcode = 0x0B0D ∧ !nonceLeft s then refuseJob j ST_CTR_EXHAUSTED (retire s) else runJob j key s

/-- A job, or its next part, starts; the key is loaded once (R287), and between two parts it is in the saved context (R293). -/
def startJob (j : Job) (s : State) : State :=
  match j.serial with
  | some n =>
    match restoreJob s j n with
    | .ok key => runJob j key s
    | .error st => refuseJob j st (refuseRestore (if st = ST_CTR_EXHAUSTED then retire s else s))
  | none =>
    if 128 ≤ j.slot then runJob j [] s
    else match readSlot s j.slot with
      | .key a k => loadKey j a k s
      | .corrupt => corruptSlot j.slot (refuseJob j ST_KEY_CORRUPT s)
      | .empty => refuseJob j ST_KEY_EMPTY (if cmacContinues s j then refuseRestore s else s)

/-- Descriptors taken before another that is held. -/
def takenBefore (s : State) (ring idx : Nat) : List Held := s.port.held.takeWhile fun x => !(x.ring == ring && x.idx == idx)

/-- A job waits for what a descriptor before it does to the slot it names (R287; 11 R333). -/
def jobBlocked (s : State) (j : Job) : Bool :=
  slotWritten s j.ring j.slot j.id ||
    match writesSlot s j with
    | some k => j.opcode != 0x0B0B && (takenBefore s j.ring j.idx).any fun x => x.kind == .destroy k
    | none => false

/-- A job may start, or go on with its next part: none starts during sleep entry, and those begun finish (13 R368). -/
def jobTurn (s : State) (j : Job) : Bool :=
  !j.running && (s.dev.mode == .run || (s.dev.mode == .prepare && j.serial.isSome)) && jobMayRun s j.pk && !jobBlocked s j

/-- Every job that may start does, in order of arrival. -/
def pumpJobs (s : State) : State :=
  s.sec.jobs.foldl (fun s j => if (findJob s j.id).any (jobTurn s) then startJob j s else s) s

/-- A new job, with the piece of a chain transfer that it decrypts. -/
def addJob (pk : Bool) (parts slot ring idx opcode : Nat) (unit : Option (Nat × List Byte)) (s : State) : State :=
  let j : Job := { id := s.sec.nextJob, pk := pk, running := false, parts := parts, slot := slot, ring := ring, idx := idx,
                   key := [], opcode := opcode, past := 0, nonce := [], serial := none, ctx := [], unit := unit }
  pumpJobs (modSec (fun x => { x with jobs := x.jobs ++ [j], nextJob := x.nextJob + 1 }) s)

/-- A descriptor's command becomes a job. -/
def submitJob (pk : Bool) (parts slot : Nat) (h : Held) (s : State) : State :=
  let s := setKind h (.job s.sec.nextJob) s
  addJob pk parts slot h.ring h.idx h.opcode none s

/-! ## The public-key and hash engine in turn (R299) -/

/-- No job runs or waits on the public-key and hash engine. -/
def pkFree (s : State) : Bool := !s.sec.jobs.any fun j => j.pk

/-- What a command asks of the public-key and hash engine: at once where that is free, else in order of arrival, as a job of its own. -/
def inTurn (h : Held) (act : Held → State → State) (s : State) : State := if pkFree s then act h s else submitJob true 1 255 h s

/-! ## Destruction (R287) -/

/-- A job submitted before a destruction holds its slot's key, will, or writes the slot (R287; 11 R333); an access block and a radio sequence
hold a key derived from slot 4 (R293). -/
def slotBusy (s : State) (slot : Nat) (h : Held) : Bool :=
  (s.sec.jobs.any fun j => (j.slot == slot || writesSlot s j == some slot) &&
    (j.ring == 255 || (takenBefore s h.ring h.idx).any fun x => x.ring == j.ring && x.idx == j.idx)) ||
    (slot == 4 && ((s.sched.blocks.any fun b => b.engine) || (seqInHand s).isSome))

/-- A destruction acts; that of an empty slot does nothing. -/
def destroyNow (h : Held) (slot : Nat) (s : State) : State :=
  if (slotRecord s slot).isNone then done h ST_OK s else finishMirrored s.twin.mirrorSeq h ST_OK 0 0 0 0 (destroySlot slot s)

/-- Waiting destructions whose slot no job holds any more take place. -/
def settleDestroys (s : State) : State :=
  s.port.held.foldl (fun s h => match h.kind with
    | .destroy slot => if slotBusy s slot h then s else destroyNow h slot s
    | _ => s) s

/-- A slot as the twin sent it, stored under this device's own KEK (R390 step 6, 10 R286), at this device's own generation, which rises at
every write and destruction (10 R285). -/
def writeStored (slot : Nat) (wrapped : List Byte) (s : State) : State :=
  if wrapped.isEmpty then raiseGen slot (dropRecord slot s)
  else match (pairKey s).bind fun pk => keyUnwrap pk wrapped with
    | none => s
    | some plain =>
      let a : Dword := BitVec.ofNat 64 (leNat (plain.take 8))
      let s := raiseGen slot s
      let own := slotAttr slot (attrType a) (attrUsage a).toNat (attrOwner a) (slotGen s slot)
      modNv (fun n => { n with
        slots := (n.slots.filter fun r => r.1 != slot) ++ [(slot, keyWrap (slotKek s slot) (leBytes 8 own.toNat ++ plain.drop 8))],
        received := n.received.filter (· != slot) ++ [slot] }) s

/-- A job holds a slot's key: it runs, or its context is saved (R287); an access block and a radio sequence hold one derived from slot 4. -/
def slotHeld (s : State) (slot : Nat) : Bool :=
  (s.sec.jobs.any fun j => j.slot == slot && (j.running || j.serial.isSome)) ||
    (slot == 4 && ((s.sched.blocks.any fun b => b.engine) || (seqInHand s).isSome))

/-- A mirrored slot is rewritten once no job holds its key (R287), while the frame that brought it is acknowledged at once (DEDUCED, assumption
log 25); later rewrites of it stay behind earlier ones. -/
def storeSlot (slot : Nat) (wrapped : List Byte) (s : State) : State :=
  if slotHeld s slot then modSec (fun x => { x with slotWrites := x.slotWrites ++ [(slot, wrapped)] }) s else writeStored slot wrapped s

/-- Rewrites that waited take place. -/
def settleStores (s : State) : State :=
  let (wait, go) := s.sec.slotWrites.partition fun x => slotHeld s x.1
  go.foldl (fun s x => writeStored x.1 x.2 s) (modSec (fun x => { x with slotWrites := wait }) s)

/-! ## Self-tests (16 R442 to R444) -/

def sensorsAgree (s : State) : Bool := s.dev.sensors.all fun x => s.dev.sensors.all fun y => x - y ≤ 16

def slotCorrupt (s : State) (slot : Nat) : Bool := readSlot s slot == .corrupt

/-- What tests 2 and 6 find wrong, whatever the silicon does (16 R442). -/
def testFinds (s : State) (k : Nat) : Bool := (k == 2 && (slotCorrupt s 0 || slotCorrupt s 1)) || (k == 6 && !sensorsAgree s)

/-- Code and argument of a failed test; a corrupt slot 0 or 1 has its own (R445). -/
def testFault (s : State) (k : Nat) : Nat × Nat :=
  if k = 2 ∧ slotCorrupt s 0 then (0x0004, 0) else if k = 2 ∧ slotCorrupt s 1 then (0x0004, 1) else (0x0001, k)

/-- The tests that fail: those of `fails`, which is what the silicon would fail, and those that find something. -/
def failedTests (s : State) (fails : BitVec 12) : BitVec 12 := fails ||| BitVec.ofNat 12 (ofBits ((List.range 12).map (testFinds s)))

/-- A test waits where its resource is busy: the engines it tests (10 R293, R299), lines held, an output not LOCKED. In FAILED none is. -/
def testWaits (s : State) (k : Nat) : Bool :=
  !s.dev.failed && ((k == 3 && !jobMayRun s false) || (k == 4 && !jobMayRun s true) || (k == 9 && linesHeld s != 0) || (k == 10 && !outputsLocked s))

/-- A test that DIAG_SELFTEST names waits. -/
def selftestWaits (s : State) (h : Held) : Bool := (List.range 12).any fun k => h.a0.getLsbD k && testWaits s k

/-- The tests of a mask run, in bit order: the descriptor completes before the device becomes FAILED (R444). -/
def endSelftest (fails : BitVec 12) (h : Held) (s : State) : State :=
  let bad := failedTests s fails &&& BitVec.ofNat 12 h.a0.toNat
  let t := done1 h ST_OK (bad.setWidth 32) s
  match (List.range 12).find? fun k => bad.getLsbD k with
  | some k => failDevice (testFault s k).1 (testFault s k).2 t
  | none => t

/-- Self-tests that waited run once nothing they need is busy. -/
def settleSelftests (s : State) : State :=
  s.port.held.foldl (fun s h => match h.kind with
    | .selftest fails => if (findHeld s h.ring h.idx).isNone || selftestWaits s h then s else endSelftest fails h s
    | _ => s) s

/-- An engine may have come free: what waits for it or for its key proceeds (R287, R293). -/
def freed (s : State) : State := sendWaiting (settleSelftests (pumpJobs (settleStores (settleDestroys s))))

/-! ## Verification of an update (15 R424, R438) -/

/-- A body check begins: VERIFYING, and a job of the hash engine. -/
def beginVerify (ring idx : Nat) (s : State) : State :=
  addJob true 1 255 ring idx OP_VERIFY none (refreshOwnBlocks (setStage VERIFYING s))

/-- A chain target that reaches RECEIVED, whoever delivered the last piece, verifies at once (R438). -/
def verifyTarget (s : State) : State := if s.nv.chainTarget ∧ s.nv.updStage = RECEIVED then beginVerify 255 0 s else s

/-- The next activation of a chain target (R438): at once where R425 allows. -/
def chainActivate (s : State) : State :=
  if s.nv.chainTarget && par s (updId 5) == 1 && (activateRefused s).isNone && isRunning s && s.nv.updStage == VERIFIED then activateImage s
  else s

end Sys2Proof.Machine
end

