-- ==== Sys2Proof/Machine/Fob.lean ====
section
/-!
DEFINITION. Sys2Proof/Machine/Fob.lean: the radio's operations as they run, packets to and from keys: checks, counters and their
marks, presence, events, transmissions, the ranging exchange (07 R210 to R214; 08 R239 to R248; 09 R260 to R276; 14 R396).
-/
namespace Sys2Proof.Machine

/-! ## Requests to transmit -/

/-- A request the signal box makes of the radio, for a sequence where it is a poll. -/
def wantTx (kind slot seq : Nat) (arg : Word) (deadline : Nat) (s : State) : State :=
  modRadio (fun r => { r with wants := r.wants ++ [{ kind := kind, slot := slot, seq := seq, arg := arg, deadline := deadline, taken := s.clk,
                                                     khz := 0, dbm := 0 }] }) s

def dropWant (q : TxReq) (s : State) : State := modRadio (fun r => { r with wants := r.wants.erase q }) s

/-- A slot becomes RETIRED, and the loss is counted (07 R214, 09 R275, 10 R302); its key qualifies for no output any more (07 R230). -/
def retireSlot (k : Nat) (s : State) : State :=
  if (getKeyNv s k).state = 3 then s
  else
    let s := retire (modKeyNv k (fun n => { n with state := 3 }) s)
    decideAll (checkHolds 4 (mirrorChange [keyRec s k] s))

def hasDlWork (s : State) (k : Nat) : Bool :=
  s.sec.flash.any (fun f => f == .dlMark k) || s.sec.awaiting.any fun a => a.2 == .dlMark k

/-- The next downlink counter of a slot lies under its mark (R275). -/
def dlReserved (s : State) (k : Nat) : Bool := (getKey s k).dlCtr.toNat < (getKeyNv s k).dlMark.toNat

/-- A new mark is asked for. -/
def reserveDl (k : Nat) (s : State) : State :=
  if hasDlWork s k then s else modSec (fun x => { x with flash := x.flash ++ [.dlMark k] }) s

/-- A request is refused with a status: a poll leaves its key without a fix. -/
def refuseWant (q : TxReq) (status : Nat) (s : State) : State :=
  let s := dropWant q s
  if q.kind = ZT_POLL then
    match s.prox.seqs.find? fun x => x.id == q.seq with
    | some x => endSeq x status false s
    | none => s
  else s

/-- A request that names no key is taken as it stands: a carrier that a sleep entry sent back to wait (13 R368). -/
def retakeCw (q : TxReq) (s : State) : State := takeRequest q (dropWant q s)

/-- RADIO_TX_REQUEST (R266): the radio takes the oldest request, once a downlink counter below its mark is left (R275). A request whose K_M is
missing or corrupt cannot be protected (10 R286). -/
def execRadioTxRequest (s : State) : Host.Outcome State Fault Refusal :=
  match s.radio.wants with
  | [] => .next s
  | q :: _ =>
    if !radioStarts s then .next s
    else if q.kind = RADIO_CW then .next (retakeCw q s)
    else if !radioSet s then .next (freed (refuseWant q ST_BAD_ARG s))
    else if (getKey s q.slot).dlCtr = 0xFFFFFFFF then .next (freed (refuseWant q ST_CTR_EXHAUSTED (retireSlot q.slot s)))
    else if !dlReserved s q.slot then .next (reserveDl q.slot s)
    else match accessKey s (s.clk + 1) "ILK-FOB" (getKeyNv s q.slot).uid with
      | .error st => .next (freed (tellKey st (refuseWant q st s)))
      | .ok _ => .next (takeRequest q (dropWant q s))

/-! ## The operation in hand -/

/-- An event of an operation whose synthesiser is on its way (R260): nothing goes on the air without a region and a data channel. -/
def inSynth (f : TxReq → State → State) (s : State) : Host.Outcome State Fault Refusal :=
  match s.radio.queue.head? with
  | none => .next s
  | some q =>
    if !(radioWorks s && s.radio.state == R_SYNTH) then .next s
    else if heldOff s q then .next (freed (endHead ST_BAD_ARG s))
    else .next (freed (f q s))

/-- Clocks of a tone slot, and of its settling (R245, R265). -/
def slotClocks : Nat := clkUs 130

/-- The tone slot that a clock lies in, of the exchange in hand. -/
def toneSlot (s : State) : Nat := min 79 ((s.clk - s.radio.airClk) / slotClocks)

/-- Clocks since that slot began. -/
def slotOffset (s : State) : Nat := s.clk - s.radio.airClk - toneSlot s * slotClocks

/-- The loop locks again in an exchange (R265): its next tone step tries, and within 30 µs of it the slot is not lost. -/
def relock (s : State) : State :=
  let u := toneSlot s
  modRadio (fun r => { r with silent := silentTo s (if slotOffset s ≤ clkUs 30 then max u (r.lostSlot.getD 0 + 1) else u + 1), lostSlot := none,
                              locked := true, lockClk := s.clk, paOn := true }) s

/-- SYNTH_LOCK (R265): the synthesiser declares lock on the channel of the operation in hand, or again in an exchange. -/
def execSynthLock (s : State) : Host.Outcome State Fault Refusal :=
  if radioWorks s && s.radio.state == R_RANGE then .next (if s.radio.locked then s else relock s)
  else inSynth (fun _ s => if s.radio.locked then s else modRadio (fun r => { r with locked := true, lockClk := s.clk }) s) s

/-- Type codes (R276). -/
def packetCode (kind : Nat) : Nat := if kind = ZT_POLL then 2 else if kind = FOB_ACK then 5 else 6

def SYNC_WORD : Half := 0xC6A9

/-- A packet of the device's as sent (R273 to R275), on the port that received the key's last packet; or the status that K_M gives. -/
def devicePacket (s : State) (q : TxReq) (ctr : Word) : Except Nat AirPacket :=
  let uid := (getKeyNv s q.slot).uid
  match accessKey s q.taken "ILK-FOB" uid with
  | .error st => .error st
  | .ok kf =>
    let type : Byte := BitVec.ofNat 8 (packetCode q.kind * 16 + 1)
    let clear := beBytes 2 (uidchk uid).toNat ++ beBytes 4 ctr.toNat
    let nonce := (0x02 : Byte) :: beBytes 8 uid.toNat ++ beBytes 4 ctr.toNat
    let sealedMsg := ccmSeal kf nonce (type :: clear) (beBytes 4 q.arg.toNat) 4
    .ok { port := (getKey s q.slot).port, dbm := powerOf s q, khz := s.radio.chan, preamble := 0x5555, sync := SYNC_WORD,
          type := type, clear := clear, payload := sealedMsg.take 4, mic := sealedMsg.drop 4 }

/-- A packet goes on the air with the next downlink counter (R275); the last one leaves its slot RETIRED. -/
def rampPacket (q : TxReq) (s : State) : State :=
  let c := (getKey s q.slot).dlCtr + 1
  if (getKey s q.slot).dlCtr = 0xFFFFFFFF then endHead ST_CTR_EXHAUSTED (retireSlot q.slot s)
  else if !dlReserved s q.slot then reserveDl q.slot s
  else match devicePacket s q c with
    | .error st => tellKey st (endHead st s)
    | .ok p =>
      let s := modKey q.slot (fun k => { k with dlCtr := c }) s
      let s := if c = 0xFFFFFFFF then retireSlot q.slot s else s
      onAir (modRadio (fun r => { r with state := R_TX, paOn := true, port := p.port, dbm := p.dbm, sent := p :: r.sent }) s)

/-- The carrier goes on the air (12 R351). -/
def rampCw (q : TxReq) (s : State) : State :=
  onAir (modRadio (fun r => { r with state := R_TX, paOn := true, port := cwPort s, dbm := powerOf s q,
                                     cwEnd := some (s.clk + clkMs q.arg.toNat) }) s)

/-- PA_RAMP_START (R267): lock, grant and lead time are met and the deadline has not passed. -/
def execPaRampStart (s : State) : Host.Outcome State Fault Refusal :=
  inSynth (fun q s =>
    if q.kind = RANGE || !(s.radio.locked && granted s) then s
    else
      let s := advanceTo (leadEnd s) s
      if tooLate s q then endHead ST_TX_LATE s else if q.kind = RADIO_CW then rampCw q s else rampPacket q s) s

/-- Clocks from the start of the PA ramp to the end of a packet of 152 bits (R262, R276). -/
def packetClocks (kind : Nat) : Nat := clkUs 20 + 152 * (if kind = ZT_POLL then 1250 else 2500) / 3

/-- TX_END (R263): a poll leaves the radio receiving its report; the others end. -/
def execTxEnd (s : State) : Host.Outcome State Fault Refusal :=
  match s.radio.queue.head? with
  | none => .next s
  | some q =>
    if !(s.radio.paOn && s.radio.state == R_TX) || q.kind = RADIO_CW then .next s
    else
      let s := advanceTo (s.radio.airClk + packetClocks q.kind) s
      if q.kind = ZT_POLL then
        let s := recordDuty 1979 (coexFall (modRadio (fun r => { r with state := R_RX, paOn := false }) s))
        .next (modSeq q.seq (fun x => { x with polled := true }) s)
      else .next (endPacket ST_OK (recordDuty 3958 s))

/-- TX_DEADLINE_EXPIRY (R266). -/
def execTxDeadlineExpiry (s : State) : Host.Outcome State Fault Refusal :=
  inSynth (fun q s => endHead ST_TX_LATE (advanceTo q.deadline s)) s

/-- COEX_WAIT_EXPIRY (R268): ST_TX_LATE where the deadline has come too. -/
def execCoexWaitExpiry (s : State) : Host.Outcome State Fault Refusal :=
  inSynth (fun q s =>
    if granted s then s
    else
      let s := advanceTo (min (waitEnd s q) q.deadline) s
      endHead (if q.deadline ≤ s.clk then ST_TX_LATE else ST_COEX_DENIED) s) s

/-- A ramp that would begin in this clock does not (R268): the packet and its counter are as before, unless the slot is RETIRED with the last, and
the wait goes on. -/
def undoRamp (s : State) : State :=
  let packet := fun (s : State) => match s.radio.queue with
    | [] => s
    | q :: _ =>
      if q.kind = RADIO_CW then s
      else
        let s := modRadio (fun r => { r with sent := r.sent.drop 1 }) s
        if (getKeyNv s q.slot).state = 3 then s else modKey q.slot (fun k => { k with dlCtr := k.dlCtr - 1 }) s
  modRadio (fun r => { r with state := R_SYNTH, paOn := false, cwEnd := none }) (packet s)

/-- COEX_GRANT_FALL (R268): ends a transmission and an exchange or its foreground calibration; a ramp not begun waits on, and so does one due in
the clock of the fall. -/
def execCoexGrantFall (s : State) : Host.Outcome State Fault Refusal :=
  let was := s.radio.grant
  let s := modRadio (fun r => { r with grant := false }) s
  if !(coexOn s && was && radioWorks s) then .next s
  else if s.radio.state == R_TX && s.radio.paOn && s.radio.airClk == s.clk then .next (undoRamp s)
  else if s.radio.state == R_TX || s.radio.state == R_RANGE ||
      (s.radio.state == R_SYNTH && s.radio.locked && (s.radio.queue.head?).any fun q => q.kind == RANGE) then
    .next (freed (endHead ST_COEX_DENIED (dutyCut s)))
  else .next s

def countUnlock (s : State) : State := modRadio (fun r => { r with unlocks := r.unlocks + 1 }) s

/-- Lock is lost in a tone slot (R265): the slot's transmission is silent or ends, and so is every slot until the loop locks again. -/
def loseTone (s : State) : State :=
  modRadio (fun r => { r with lostSlot := some (toneSlot s), paOn := false, cutUs := r.cutUs + min 40 (slotOffset s / 32 - 30) }) (countUnlock s)

/-- LOCK_LOSS (R265): a packet ends with ST_RADIO_UNLOCK; a tone slot is silent and its amplitude 0. -/
def execLockLoss (s : State) : Host.Outcome State Fault Refusal :=
  let lost := modRadio (fun r => { r with locked := false }) s
  if !(radioWorks s && s.radio.locked) then .next s
  else if s.radio.state = R_TX then .next (freed (endHead ST_RADIO_UNLOCK (dutyCut (countUnlock lost))))
  else if s.radio.state = R_RANGE then .next (loseTone lost)
  else .next lost

/-! ## The ranging exchange (08 R244 to R247) -/

/-- Keystream of a sequence's exchange, under the K_F that its engine holds. -/
def seqStream (s : State) (q : ZtSeq) : List Bool :=
  let uid := (getKeyNv s q.slot).uid
  match accessKey s q.startClk "ILK-FOB" uid with
  | .ok kf => rangeStream kf q.seed uid
  | .error _ => []

/-- Frequency of the tone of a slot of a sequence's exchange, in kHz. -/
def slotKhz (s : State) (q : ZtSeq) (t : Nat) : Nat := toneKhz q.geom ((toneOrder (seqStream s q)).getD t 0)

/-- RANGING_EXCHANGE (R245, R267, R269): foreground calibration has given the device's own delay, and slot 0 begins, on the port of the key's
report (R273). Where the lead time ends only after the start of slot 0 the exchange is late. -/
def execRangingExchange (devDelayPs : Nat) (s : State) : Host.Outcome State Fault Refusal :=
  inSynth (fun r s =>
    if r.kind != RANGE || !(s.radio.locked && granted s) then s
    else if r.deadline < leadEnd s || tooLate s r then endHead ST_TX_LATE (advanceTo r.deadline s)
    else
      let s := advanceTo r.deadline s
      modProx (fun p => { p with devDelayPs := devDelayPs })
        (onAir (modRadio (fun x => { x with state := R_RANGE, paOn := true, fgCals := x.fgCals + 1, dbm := powerOf s r,
                                            port := ((seqInHand s).map fun q => q.port).getD x.port }) s))) s

/-- The slots as the device recorded them: those without lock have amplitude 0 (R265). -/
def heardTones (silent : List Nat) (tones : List Tone) : List Tone :=
  tones.zipIdx.map fun t => if silent.contains t.2 then { t.1 with amp := 0 } else t.1

/-- RANGING_END (R246): slot 79 has ended; the tones are as the receiver measured them, slot by slot. -/
def execRangingEnd (tones : List Tone) (s : State) : Host.Outcome State Fault Refusal :=
  if !(radioWorks s && s.radio.state == R_RANGE) then .next s
  else
    let s := advanceTo (s.radio.airClk + clkUs 10400) s
    match seqInHand s with
    | none => .next (nextOp s)
    | some q =>
      let ks := seqStream s q
      let order := toneOrder ks
      let heard := heardTones (silentTo s 80) tones
      let fit := rangeFit q.geom q.tauKeyPs s.prox.devDelayPs (unwrapTones (usedTones order ks heard))
      let status := if fit.isSome then ST_OK else ST_RANGE_TIMEOUT
      let s := modRadio (fun r => { r with chan := slotKhz s q 79 }) (recordDuty (toneUs s 10400) s)
      let s := modKey q.slot (fun k => { k with exch := some (status, tonesByK order heard) }) (nextOp s)
      let got : RangeGot := match fit with
        | some f => .measured f
        | none => .none
      .next (freed (completeFix q status got s))

/-! ## Packets from keys -/

/-- The slot that holds a UID. -/
def slotOfUid (s : State) (uid : Dword) : Option Nat :=
  (List.range 32).find? fun k => (getKeyNv s k).state != 0 && (getKeyNv s k).uid == uid

/-- A packet is taken up (R272, R274): 20 preamble symbols and the sync word, of version 1 and of a type. -/
def wellFormed (p : FobPacket) (type clearLen : Nat) : Bool :=
  20 ≤ p.symbols && p.sync == SYNC_WORD && p.type.toNat == type * 16 + 1 && p.clear.length == clearLen

/-- Plaintext of a packet of a key, where its MIC matches (R275). -/
def openFob (kf : List Byte) (p : FobPacket) (uid : Dword) (ctr : Word) : Option (List Byte) :=
  ccmOpen kf ((0x01 : Byte) :: beBytes 8 uid.toNat ++ beBytes 4 ctr.toNat) (p.type :: p.clear) p.payload p.mic

/-- RESYNC (R212): at most once in 100 ms per slot, begun within 5 ms of the packet. -/
def wantResync (k : Nat) (s : State) : State :=
  if (getKey s k).resyncClk.any fun t => s.clk < t + clkMs 100 then s
  else wantTx RESYNC k 0 (getKey s k).ctrLast (s.clk + clkMs 5) (modKey k (fun q => { q with resyncClk := some s.clk }) s)

/-- Highest counter of a slot accepted or on its way to be. -/
def highestCtr (s : State) (k : Nat) : Nat :=
  ((s.sec.flash ++ s.sec.awaiting.map fun a => a.2).map fun f => match f with
    | .fobMark j c _ _ _ _ => if j = k then c.toNat else 0
    | _ => 0).foldl max (getKey s k).ctrLast.toNat

def refuseFob (k : Nat) (s : State) : State := modKey k (fun q => { q with refused := q.refused + 1 }) s

/-! ### Answers to a KEY_POLL (R218; 11 R334) -/

/-- The listen window that an answer was heard in: of windows that overlap that of the latest wake pattern, which the key answers (DEDUCED,
assumption log 18). -/
def windowNow (s : State) : List (Nat × Nat) := ((openWindows s).getLast?.map fun x => (x.svc, x.startClk)).toList

/-- Answers of a window still wait for a mark. -/
def windowWaits (s : State) (x : Nat × Nat) : Bool :=
  s.radio.listen.any (fun y => y.svc == x.1 && y.startClk == x.2) ||
  (s.sec.flash ++ s.sec.awaiting.map fun a => a.2).any fun f => match f with
    | .fobMark _ _ _ _ _ heard => heard.contains x
    | _ => false

/-- Once a window is over and its last answer settled, the block's records go out together. -/
def settleWindows (heard : List (Nat × Nat)) (s : State) : State :=
  heard.foldl (fun s x => if windowWaits s x then s else flushResults x.1 x.2 s) s

/-- The record of an answer goes to the results of the block that it was heard for. -/
def recordAnswer (k : Nat) (data : List Byte) (heard : List (Nat × Nat)) (s : State) : State :=
  heard.foldl (fun s x => gather x.1 x.2 [w (2 ^ 31 + k * 2 ^ 25 + (data.headD 0).toNat)] s) s

/-- Report fields (R276): count, age in 0.1 ms. -/
def reportCount (clear : List Byte) : Nat := beNat (clear.drop 4) / 2048
def reportAge (clear : List Byte) : Nat := beNat (clear.drop 4) % 2048

/-- RSSI triplets of a report's plaintext. -/
def reportBursts (count : Nat) (plain : List Byte) : List (Nat × Nat × Nat) :=
  let bits := bitsOfBytes (plain.drop 3)
  (List.range count).map fun i =>
    let f := fun j => natOfBits ((bits.drop (30 * i + 10 * j)).take 10)
    (f 0, f 1, f 2)

/-- Clocks of a ZT_REPORT on the air: 76.8 kbit/s (R276). -/
def reportClocks (count : Nat) : Nat := (160 + 8 * ceilDiv (30 * count) 8) * 1250 / 3

/-- R240: the report belongs to the sequence's block. -/
def reportMatches (s : State) (q : ZtSeq) (count age ended : Nat) : Bool :=
  let began : Int := (ended : Int) - reportClocks count - age * 3200
  let last : Int := (q.endClk : Int) - 8 * q.div
  count == q.lines.length && (began - last).natAbs ≤ 16000 && s.clk ≤ q.endClk + clkMs (geomNat q.geom (proxId 12))

/-- Whether the region permits the ranging band (R243, R260). -/
def bandPermitted (s : State) (q : ZtSeq) : Bool :=
  if geomNat q.geom (proxId 0) = 0 then par s (radioId 0) == 2 else par s (radioId 0) == 1

/-- A report accepted for the key polled: discarded where it matches no block (R240); a range still young is reused (R248);
else the exchange follows, where band and duty permit it (R243, R247). -/
def reportAccepted (q : ZtSeq) (clear plain : List Byte) (ended : Nat) (s : State) : State :=
  let count := reportCount clear
  if !reportMatches s q count (reportAge clear) ended then endHead ST_RANGE_TIMEOUT s
  else
    let q' := { q with bursts := reportBursts count plain, tauKeyPs := beNat (plain.take 3), reported := true }
    let s := modSeq q.id (fun _ => q') s
    let reuse := geomNat q.geom (proxId 9)
    match (getKey s q.slot).range.filter fun h => reuse != 0 && within s h.clk reuse with
    | some h => completeFix q' ST_OK (.reused h) (nextOp s)
    | none =>
      if !(radioSet s && bandPermitted s q') then completeFix q' ST_BAD_ARG .none (nextOp s)
      else if geomNat q.geom (proxId 0) = 1 && geomNat q.geom (proxId 10) * 3600000 < dutyUs s + 3200 then
        completeFix q' ST_RANGE_DUTY .none (nextOp s)
      else
        let r : TxReq := { kind := RANGE, slot := q.slot, seq := q.id, arg := q.seed, deadline := ended + clkUs 800, taken := s.clk,
                           khz := slotKhz s q' 0, dbm := 0 }
        startHead (modRadio (fun x => { x with queue := r :: x.queue.drop 1, locked := false }) s)

/-- What an accepted message brings (R211, R214, R216, R239, R276). -/
def acceptFob (k : Nat) (ctr : Word) (type : Nat) (data : List Byte) (ended : Nat) (heard : List (Nat × Nat)) (s : State) : State :=
  let s := modKey k (fun q => { q with ctrLast := ctr }) s
  let s := if ctr = 0xFFFFFFFF then retireSlot k s else s
  match type with
  | 0 => s
  | 1 => fobHeard k (recordAnswer k data heard s)
  | 4 =>
    let s := fobHeard k s
    if data.isEmpty then s
    else
      wantTx FOB_ACK k 0 ctr (ended + clkMs 5)
        (postEvent 0x8021 (payload [k, data.length, 0, 0] ++ leBytes 4 ctr.toNat ++ data) s)
  | _ =>
    let s := fobHeard k s
    match seqInHand s with
    | some q => if q.slot = k ∧ q.polled ∧ !q.reported then reportAccepted q (data.take 6) (data.drop 6) ended s else s
    | none => s

/-- Data flash work that is a mark for a fob counter of a slot. -/
def marksKey (k : Nat) : FlashWork → Bool
  | .fobMark j _ _ _ _ _ => j == k
  | _ => false

/-- A message whose MIC is good, judged by its counter (R210 to R213): true where it is accepted or will be, once a mark that its counter lies
under is written and, with a standing twin, acknowledged (R211, 14 R396). -/
def judgeFob (k : Nat) (ctr : Word) (type : Nat) (data : List Byte) (s : State) : State × Bool :=
  let q := getKey s k
  if ctr.toNat ≤ highestCtr s k then (wantResync k (refuseFob k s), false)
  else if !keyActive s k then (refuseFob k s, false)
  else if q.ctrLast.toNat + par s (lockId 4 2) < ctr.toNat then
    (demandForKey IMMO_AUTH k true (modKey k (fun q => { q with ahead := some ctr }) (refuseFob k s)), false)
  else
    let f := FlashWork.fobMark k ctr type data s.clk (if type = 1 then windowNow s else [])
    match (s.sec.awaiting.filter fun a => marksKey k a.2).getLast? with
    | some a =>
      if (getKeyNv s k).ctrMark.toNat < ctr.toNat then (modSec (fun x => { x with flash := x.flash ++ [f] }) s, true)
      else (modSec (fun x => { x with awaiting := x.awaiting ++ [(a.1, f)] }) s, true)
    | none =>
      if (getKeyNv s k).ctrMark.toNat < ctr.toNat then (modSec (fun x => { x with flash := x.flash ++ [f] }) s, true)
      else (acceptFob k ctr type data s.clk (if type = 1 then windowNow s else []) s, true)

/-- The preamble is over, whatever comes of the packet. -/
def preambleOver (s : State) : State := modRadio (fun r => { r with preamble := false }) s

/-- A packet has been received: the aerial port used (R272). -/
def received (p : FobPacket) (s : State) : State := preambleOver (modRadio (fun r => { r with lastPort := packetPort s p.corr }) s)

def badMic (s : State) : State := modRadio (fun r => { r with rxBadMic := r.rxBadMic + 1 }) s
def goodMic (s : State) : State := modRadio (fun r => { r with rxPackets := r.rxPackets + 1 }) s

/-- A KP_ANSWER or FOB_DATA: UID and counter in clear. -/
def fobMessage (p : FobPacket) (type clearLen : Nat) (s : State) : State :=
  let s := beginWindows s
  if !hearsAny s then s
  else if !wellFormed p type clearLen then preambleOver s
  else
    let s := received p s
    let uid : Dword := BitVec.ofNat 64 (beNat (p.clear.take 8))
    let ctr : Word := BitVec.ofNat 32 (beNat ((p.clear.drop 8).take 4))
    match accessKey s (s.clk + 1) "ILK-FOB" uid with
    | .error st => tellKey st (badMic s)
    | .ok kf =>
      match openFob kf p uid ctr with
      | none => badMic s
      | some plain =>
        let s := goodMic s
        match slotOfUid s uid with
        | none => s
        | some k => (judgeFob k ctr type plain (modKey k (fun q => { q with port := s.radio.lastPort }) s)).1

/-- KP_ANSWER (R210). -/
def execKpAnswer (pkt : FobPacket) (s : State) : Host.Outcome State Fault Refusal :=
  if pkt.payload.length = 1 then .next (fobMessage pkt 1 12 s) else .next s

/-- FOB_DATA (R276). -/
def execFobData (pkt : FobPacket) (s : State) : Host.Outcome State Fault Refusal :=
  if pkt.payload.length ≤ 24 && (pkt.clear.getD 12 0).toNat == pkt.payload.length then .next (fobMessage pkt 4 13 s) else .next s

/-- A polled key leaves a fix with neither lines nor range (R247, R276): a burst that no report speaks of reads the floor (DESIGN CHOICE,
assumption log 18). -/
def completeUnheard (q : ZtSeq) (s : State) : State :=
  completeFix { q with bursts := q.lines.map fun _ => (0, 0, 0) } ST_RANGE_TIMEOUT .none (nextOp s)

/-- The report of the key polled: its counter judged, then the exchange or the fix. -/
def reportHeard (q : ZtSeq) (pkt : FobPacket) (s : State) : State :=
  let uid := (getKeyNv s q.slot).uid
  let ctr : Word := BitVec.ofNat 32 (beNat (pkt.clear.take 4))
  match accessKey s q.startClk "ILK-FOB" uid with
  | .error st => tellKey st (badMic s)
  | .ok kf =>
    match openFob kf pkt uid ctr with
    | none => badMic s
    | some plain =>
      let q := { q with port := s.radio.lastPort }
      let s := modKey q.slot (fun k => { k with port := q.port }) (modSeq q.id (fun _ => q) (goodMic s))
      let r := judgeFob q.slot ctr 3 (pkt.clear ++ plain) s
      if r.2 then r.1 else completeUnheard q r.1

/-- ZT_REPORT (R239, R240): it comes from the key polled. A refused one leaves a fix with neither lines nor range (R276). -/
def execZtReport (pkt : FobPacket) (s : State) : Host.Outcome State Fault Refusal :=
  if !hears s then .next s
  else
    match (seqInHand s).filter fun q => q.polled && !q.reported with
    | none => .next s
    | some q =>
      if !wellFormed pkt 3 6 || pkt.payload.length ≠ 3 + ceilDiv (30 * reportCount pkt.clear) 8 then .next (preambleOver s)
      else .next (freed (reportHeard q pkt (received pkt s)))

/-- A sequence leaves the requests of the radio, taken or not. -/
def forgetPoll (q : ZtSeq) (s : State) : State :=
  modRadio (fun r => { r with wants := r.wants.filter fun x => !(x.kind == ZT_POLL && x.seq == q.id),
                              queue := r.queue.filter fun x => !(x.kind == ZT_POLL && x.seq == q.id) }) s

/-- REPORT_AGE_EXPIRY (R240, R247): of a key that was polled and sent no report a fix without a range is made; a poll not sent in time is not
sent, and no fix is made: its deadline of R266 has passed, and it ends with ST_TX_LATE. -/
def execReportAgeExpiry (slot : Nat) (s : State) : Host.Outcome State Fault Refusal :=
  match s.prox.seqs.find? fun q => q.slot == slot with
  | none => .next s
  | some q =>
    if q.reported || !isRunning s then .next s
    else
      let s := advanceTo (q.endClk + clkMs (geomNat q.geom (proxId 12))) s
      if (seqInHand s).any fun x => x.id == q.id then
        if s.radio.paOn then .next s
        else .next (freed (if q.polled then completeUnheard q s else endHead ST_TX_LATE s))
      else .next (freed (endSeq q ST_TX_LATE false (countOutcome ST_TX_LATE (forgetPoll q s))))

/-- The listen window that closes first. -/
def firstWindow (s : State) : Option Listen :=
  s.radio.listen.foldl (fun m x => match m with
    | none => some x
    | some y => if x.closes < y.closes then some x else some y) none

/-- KEY_POLL_LISTEN_END (R278): the window that closes first does, and the answers to its block go out (11 R334). -/
def execKeyPollListenEnd (s : State) : Host.Outcome State Fault Refusal :=
  match firstWindow s with
  | none => .next s
  | some x =>
    let s := advanceTo x.closes s
    let s := settleWindows [(x.svc, x.startClk)] (modRadio (fun r => { r with listen := r.listen.erase x }) s)
    if s.radio.queue.isEmpty && radioWorks s then .next (radioRest s) else .next s

/-! ## Flash marks (R211, R275, 14 R396) -/

/-- The work that waited for a mark goes on: the message is held to R210 again, since its slot may have left ACTIVE meanwhile. -/
def markDone (f : FlashWork) (s : State) : State :=
  match f with
  | .fobMark k c type data ended heard =>
    settleWindows heard
      (if keyActive s k && (getKey s k).ctrLast.toNat < c.toNat then acceptFob k c type data ended heard s else refuseFob k s)
  | _ => s

/-- Messages of a slot that came while its mark was being written and lie under the new one: they need no write of their own (R211). -/
def underMark (k : Nat) (mark : Word) : FlashWork → Bool
  | .fobMark j c _ _ _ _ => j == k && c.toNat ≤ mark.toNat
  | _ => false

/-- A mark of a key is in data flash; with a standing twin the counter, and those behind it that it covers, wait for its acknowledgement. -/
def keyMarkWritten (f : FlashWork) (s : State) : State :=
  let k := match f with
    | .fobMark k .. => k
    | .dlMark k => k
    | _ => 0
  let s := match f with
    | .fobMark k c .. => modKeyNv k (fun n => { n with ctrMark := BitVec.ofNat 32 (min (c.toNat + 255) 0xFFFFFFFF) }) s
    | .dlMark k => modKeyNv k (fun n => { n with dlMark := BitVec.ofNat 32 (min ((getKey s k).dlCtr.toNat + 256) 0xFFFFFFFF) }) s
    | _ => s
  let s := mirrorChange [keyRec s k] s
  let covered := s.sec.flash.filter (underMark k (getKeyNv s k).ctrMark)
  let works := f :: covered
  let s := modSec (fun x => { x with flash := x.flash.filter fun y => !underMark k (getKeyNv s k).ctrMark y }) s
  if isActive s && twinStands s then modSec (fun x => { x with awaiting := x.awaiting ++ works.map fun y => (s.twin.mirrorSeq, y) }) s
  else freed (works.foldl (fun s y => markDone y s) s)

end Sys2Proof.Machine
end

