-- ==== Sys2Proof/Machine/Enrol.lean ====
section
/-!
DEFINITION. Sys2Proof/Machine/Enrol.lean: the end of an IMMO_AUTH for the key table: master rule, enrolment, ahead counters, waiting
commands (07 R208, R209, R213, R214, R216, R220; 12 R350).
-/
namespace Sys2Proof.Machine

/-- The master rule of R208 and R209: no ACTIVE master key, or one with a clean IMMO_AUTH within lock.master_window_s. -/
def masterOk (s : State) : Bool :=
  let masters := (List.range 32).filter fun k => keyActive s k && keyRight s k 4
  masters.isEmpty || masters.any fun k => (getKey s k).authClk.any fun c => within s c (1000 * par s (lockId 4 4))

/-- A new record of a key slot, mirrored (14 R395). -/
def putKeyNv (k : Nat) (n : KeyNv) (s : State) : State :=
  let s := modKeyNv k (fun _ => n) s
  mirrorChange [keyRec s k] s

/-- The checks of R208 that come before the proof. -/
def enrolRefused (s : State) (slot : Nat) (uid : Dword) : Option Nat :=
  let holds := (List.range 32).filter fun k => (getKeyNv s k).state != 0 && (getKeyNv s k).uid == uid
  let here := getKeyNv s slot
  if 32 ≤ slot then some ST_BAD_ARG
  else if holds.any fun k => (getKeyNv s k).state == 3 then some ST_CTR_EXHAUSTED
  else if holds.any fun k => k != slot then some ST_BAD_ARG
  else if here.state ≠ 0 ∧ (here.uid ≠ uid ∨ here.state ≠ 1) then some ST_BAD_ARG
  else none

/-- The key of a KEY_ENROL has proved itself (R208): the master rule is judged now. Where the table has changed since the take, so that a check
of that moment would fail, the command ends with its status (DEDUCED, assumption log 19). Rights given or taken are decided on (R228, R230). -/
def enrolProved (h : Held) (slot : Nat) (rights : BitVec 5) (uid : Dword) (s : State) : State :=
  let seq0 := s.twin.mirrorSeq
  if let some st := enrolRefused s slot uid then done h st s
  else if !masterOk s then done h ST_KEY_NEEDS_MASTER s
  else
    let old := getKeyNv s slot
    let s :=
      if old.state = 0 then
        let n : KeyNv := { state := 1, uid := uid, rights := rights, ctrMark := 0, dlMark := 0, barred := false }
        modKey slot (fun _ => Key.reset n) (putKeyNv slot n s)
      else putKeyNv slot { old with rights := rights } s
    decideAll (checkHolds 4 (finishMirrored seq0 h ST_OK 0 0 0 0 s))

/-- A clean IMMO_AUTH of a UID is remembered for 10 s (R208). -/
def recordProof (uid : Dword) (s : State) : State :=
  modSched (fun d => { d with proofs := (uid, s.clk) :: d.proofs.filter fun p => p.1 != uid && within s p.2 10000 }) s

/-- Whether a UID has proved itself within the last 10 s. -/
def proofFresh (s : State) (uid : Dword) : Bool := s.sched.proofs.any fun p => p.1 == uid && within s p.2 10000

/-- KEY_ENROLs that the block of a UID serves (R208). -/
def settleEnrol (uid : Dword) (start status : Nat) (clean : Bool) (s : State) : State :=
  s.port.held.foldl (fun s h => match h.kind with
    | .enrol slot rights u =>
      if u == uid && servedBy start h then (if clean then enrolProved h slot rights u s else done h status s) else s
    | _ => s) s

/-- An ahead counter is accepted after a clean IMMO_AUTH (R213, R211). -/
def settleAhead (k : Nat) (s : State) : State :=
  match (getKey s k).ahead with
  | none => s
  | some c =>
    let s := modKey k (fun q => { q with ahead := none }) s
    if c.toNat ≤ highestCtr s k then s
    else if (getKeyNv s k).ctrMark.toNat < c.toNat then
      modSec (fun x => { x with flash := x.flash ++ [.fobMark k c 0 [] s.clk []] }) s
    else acceptFob k c 0 [] s.clk [] s

/-- Status of an IMMO_AUTH of a slot: RETIRED and other slots that are not ACTIVE fail whatever the proofs (R209, R214, R220). -/
def slotAuthStatus (s : State) (k status : Nat) : Nat :=
  match (getKeyNv s k).state with
  | 1 => status
  | 3 => ST_CTR_EXHAUSTED
  | _ => ST_AUTH_FAIL

/-- The IMMO_AUTH of a slot has ended (R216, R213): its effects on the key, then what waits for it. -/
def keyAuthEnded (k start status shown : Nat) (s : State) : State :=
  let s :=
    if !keyActive s k then s
    else if status = ST_OK then settleAhead k (authClean k s)
    else if status = ST_AUTH_FAIL then authFailed k s
    else s
  completeWhere (fun h => servedBy start h && h.kind == .authKey k) shown (w shown) 0 0 s

end Sys2Proof.Machine
end

