-- ==== Sys2Proof/Machine/Blocks.lean ====
section
/-!
DEFINITION. Sys2Proof/Machine/Blocks.lean: what happens on the lines during a block and what its end brings about (03 R78, R92 to
R101; 05 R166 to R176; 06 R200 to R203; 07 R218; 08 R239, R240; 12 R348, R355; 15 R437; 16 R454).
-/
namespace Sys2Proof.Machine

/-! ## Live calibration (03 R99) -/

/-- Directions of k/512 turn for k = 0 to 511, scaled by 2^40. -/
def dirs : List (Int × Int) :=
  ((List.range 512).foldl (fun (st : (Int × Int) × List (Int × Int)) _ =>
    let c : Int := 1099428836573
    let d : Int := 13492699036
    ((divRound (st.1.1 * c - st.1.2 * d) (2 ^ 40), divRound (st.1.2 * c + st.1.1 * d) (2 ^ 40)), st.2 ++ [st.1])) ((2 ^ 40, 0), [])).2

/-- arg of a phasor in 1/512 cycle, to the nearest. -/
def argOf (p : Phasor) : Int :=
  let dot := fun (v : Int × Int) => v.1 * p.i + v.2 * p.q
  (dirs.zipIdx.foldl (fun (b : Int × Nat) v => if b.1 < dot v.1 then (dot v.1, v.2) else b) (dot (1, 0) * 2 ^ 40, 0)).2

/-- wrap of R99. -/
def wrap512 (x : Int) : Int := (x + 256) % 512 - 256

def phasorWord (p : Phasor) : Word := w (unsigned 10 p.i + 1024 * unsigned 10 p.q)

/-- One step of an item by ±1, or its limit flag; either counts as a step for the spacing. -/
def calStep (l item flag clk : Nat) (lo hi step : Int) (s : State) : State :=
  let v := (liveParam s (lineId l item)).toInt + step
  let s := modLine l (fun x => { x with lastStep := some clk }) s
  if v < lo ∨ hi < v then setFlag l flag s
  else modLine l (fun x => { x with calSteps := x.calSteps + 1 }) (setLive (lineId l item) (BitVec.ofInt 32 v) s)

def intSign (x : Int) : Int := if x < 0 then -1 else if x = 0 then 0 else 1

/-- Cycle of a block of a boundary counted in periods of the carrier, without a break between blocks (R99). -/
def boundaryCyc (b : Block) (boundary : Nat) : Nat := boundary - b.startClk / b.div

/-- driven_since_step of R99 at a boundary: driven downlink cycles of this block since the line's last step, or since the block's start. -/
def drivenSinceStep (s : State) (b : Block) (l boundary : Nat) : Nat :=
  downlinkCycles b (boundaryCyc b (((getLine s l).lastStep).getD 0 / b.div)) (boundaryCyc b boundary)

/-- A step decision falls at a boundary of a line (R99, R100): one of driven downlink of its block, after 32 driven cycles of this block and
64 cyc of any, a time that a change of carrier_div between blocks does not shift. One that lies behind the present clock is past. -/
def stepDue (s : State) (b : Block) (l boundary : Nat) : Bool :=
  b.startClk / b.div ≤ boundary && s.clk ≤ boundary * b.div && downlinkAt b l (boundaryCyc b boundary) &&
    32 ≤ drivenSinceStep s b l boundary && !((getLine s l).lastStep.any fun t => boundary * b.div < t + 64 * b.div)

/-- LIVE_CAL_STEP (R99): a step decision at a boundary of a line, counted in periods of its carrier, with the phasors of the last 32 driven
cyc. -/
def execLiveCalStep (line boundary : Nat) (cur volt : Phasor) (s : State) : Host.Outcome State Fault Refusal :=
  match drivingBlock s line with
  | none => .next s
  | some b =>
    let mode := linePar s line 7
    if !isRunning s || mode = 0 || !stepDue s b line boundary then .next s
    else
      let s := modLine line (fun x => { x with phasorI := phasorWord cur, phasorV := phasorWord volt }) (advanceTo (boundary * b.div) s)
      let er := wrap512 (argOf cur - argOf volt)
      let ep := wrap512 (argOf cur - 8 * weightPhase (routeWeight (atStart b s) b.route line))
      if mode = 1 ∧ linePar s line 8 < er.natAbs then .next (calStep line 5 2 s.clk 0 63 (intSign er) s)
      else if linePar s line 9 < ep.natAbs then .next (calStep line 6 3 s.clk (-64) 63 (-(intSign ep)) s)
      else .next s

/-! ## Supervision of driven lines (R78, R94, R95) -/

/-- A current is short of a target of which it reaches a quarter, or does not (R78, R95). -/
def shortOf (target ma : Nat) : Bool := decide (ma < target) && target ≤ 4 * ma
def openCoil (target ma : Nat) : Bool := decide (4 * ma < target)

/-- HEADROOM_LIMIT (R78): the current peak of a driven cycle, at full conduction, from the end of the 16th driven cycle on, and from the
third cycle after a gap end on, by which R78 has brought the current back. -/
def execHeadroomLimit (line cyc ma : Nat) (s : State) : Host.Outcome State Fault Refusal :=
  match drivingBlock s line with
  | none => .next s
  | some b =>
    if isRunning s && memberDriven b line cyc && 16 ≤ drivenCycles b line cyc &&
        2 ≤ sinceDriveBegan b line cyc && shortOf (blockPeak s b line) ma then
      .next (setFlag line 0 (advanceTo (b.startClk + cyc * b.div) s))
    else .next s

/-- A gap of a line ends at a cycle boundary: one of the block's frames, or that after the line's measurement burst (R90, 08 R237). -/
def gapEndsAt (b : Block) (l x : Nat) : Bool :=
  ((blockGapStarts b).any fun g => g + 8 == x) ||
    (b.type == ZONE_TRACK && b.bursts.getLsbD l && x == burstsFrom b + 72 * burstIndex b l + 72)

/-- Fault that an observation of a driven line shows (R95), 0 for none. A coil counts as open from the third cycle after a gap end on, by which
R78 has brought its current back (DEDUCED, assumption log 15). -/
def faultOf (s : State) (b : Block) (l : Nat) : LineObs → Nat
  | .bridge cyc => if memberDriven b l cyc then 5 else 0
  | .gapEnd cyc ma peak => if gapEndsAt b l cyc && decide (peak < 20 * ma) then 4 else 0
  | .current cyc ma =>
    if !memberDriven b l cyc then 0
    else if linePar s l 4 ≤ ma then (if sinceDriveBegan b l cyc < 2 then 2 else 3)
    else if 16 ≤ drivenCycles b l cyc && 2 ≤ sinceDriveBegan b l cyc && openCoil (blockPeak s b l) ma then 1
    else 0

def obsCyc : LineObs → Nat
  | .bridge cyc => cyc
  | .gapEnd cyc _ _ => cyc
  | .current cyc _ => cyc

/-- LINE_FAULT (R95, R97): what the supervision of a driven line sees; on a fault the line is quenched, with the flags of
R93, and stops being driven, and the block runs on. -/
def execLineFault (line : Nat) (obs : LineObs) (s : State) : Host.Outcome State Fault Refusal :=
  match drivingBlock s line with
  | none => .next s
  | some b =>
    let code := faultOf s b line obs
    if !isRunning s || code = 0 || linePar s line 0 = 0 then .next s
    else
      let s := modLine line (fun x => { x with fault := code }) (advanceTo (b.startClk + obsCyc obs * b.div) s)
      let s := modBlock b.svc (fun x => { x with faulted := true, driven := x.driven &&& ~~~((1 : BitVec 24) <<< line) })
        (quenchLine b s line)
      -- a block of the calibration sweep has no service: that byte is open
      if b.svc < 256 then .next (postEvent 0x8001 (payload [line, code, b.svc]) s)
      else .next (postEvent 0x8001 (payload [line, code, (Config.openByte s.free).toNat]) (used 1 s))

/-! ## What waits for a block (12 R348, 14 R396) -/

/-- SVC_DEMANDs that a block served complete with its status. -/
def endDemands (seq0 status : Nat) (b : Block) (s : State) : State :=
  (s.port.held.filter fun h => servedBy b.startClk h && (match h.kind with
    | .svcDemand n _ => n == b.svc
    | _ => false)).foldl (fun s h => finishMirrored seq0 h status (w status) (w (b.startAngle + 65536 * b.startRevs)) 0 0 s) s

/-- Status of a block's result (03 R97). -/
def blockStatus (b : Block) : Nat := if b.faulted then ST_LINE_FAULT else b.status

/-- Results, to the ring that the service had as the block started (12 R348), then what waits. -/
def endWithResults (seq0 : Nat) (b : Block) (ws : List Word) (s : State) : State :=
  endDemands seq0 (blockStatus b) b (writeResults seq0 b.svc (svcPar (atStart b s) b.svc 2) ws s)

/-! ## ZONE_TRACK (08 R239, R240) -/

/-- The sequence of a key that a later block supersedes (R240): one whose poll is not on the air yet. -/
def superseded (s : State) (slot : Nat) : Option ZtSeq :=
  s.prox.seqs.find? fun q => q.slot == slot && !q.polled && !(s.radio.paOn && (seqInHand s).any fun x => x.id == q.id)

/-- It gives way: its place in the radio is left, unless its poll is in hand, which then polls for the later block. -/
def supersede (old : ZtSeq) (svc : Nat) (s : State) : State :=
  let s := modProx (fun p => { p with seqs := p.seqs.filter fun x => x.id != old.id }) s
  if old.svc = svc || s.prox.seqs.any (fun x => x.svc == old.svc && x.startClk == old.startClk) then s
  else completeDemands old.svc old.startClk ST_RANGE_TIMEOUT (w (old.angle + 65536 * old.revs)) (flushResults old.svc old.startClk s)

/-- The poll in hand becomes the poll of another sequence of its key. -/
def repoll (q : ZtSeq) (deadline : Nat) (s : State) : State :=
  modRadio (fun r => { r with queue := match r.queue with
    | [] => []
    | x :: rest => { x with seq := q.id, arg := q.seed, deadline := deadline } :: rest }) s

/-- The radio part for one key is asked for. -/
def addSeq (b : Block) (slot : Nat) (s : State) : State :=
  let old := superseded s slot
  let inHand := old.any fun q => (seqInHand s).any fun x => x.id == q.id
  let s := match old with
    | some q => supersede q b.svc (if inHand then s else forgetPoll q s)
    | none => s
  let s := modSec (fun x => { x with engineJobs := x.engineJobs + 1 }) s
  let seed := drawRb s
  let deadline := blockEndClk b + clkMs (geomNat b.geom (proxId 12))
  let q : ZtSeq := { id := s.prox.nextSeq, svc := b.svc, slot := slot, lines := linesOf (drivenMembers s b.route), endClk := blockEndClk b, geom := b.geom,
                     startClk := b.startClk, angle := b.startAngle, revs := b.startRevs, div := b.div, route := b.route, polled := false,
                     seed := seed, bursts := [], tauKeyPs := 0, reported := false, port := 0, status := if b.faulted then ST_LINE_FAULT else ST_OK }
  let s := used 4 (modProx (fun p => { p with seqs := p.seqs ++ [q], nextSeq := p.nextSeq + 1 }) s)
  if inHand then repoll q deadline s else wantTx ZT_POLL slot q.id seed deadline s

def endZone (seq0 : Nat) (b : Block) (s : State) : State :=
  let slots := if b.slot < 32 then [b.slot].filter (keyActive s) else (List.range 32).filter fun k => keyActive s k && (getKey s k).status != 0
  if slots.isEmpty then endWithResults seq0 b [] s
  else slots.foldl (fun s k => addSeq b k s) (openResults b.svc b.startClk (svcPar (atStart b s) b.svc 2) s)

/-! ## IMMO_AUTH (07 R208, R220) -/

/-- The exchange of a key ends. A clean one stays clean for an enrolment where a line faulted meanwhile (R208); the block's own result carries
the fault (03 R97). -/
def endAuth (seq0 : Nat) (b : Block) (s : State) : State :=
  let raw := if b.authOk then ST_OK else b.status
  let st := if b.slot < 32 then slotAuthStatus s b.slot raw else raw
  let shown := if b.faulted then ST_LINE_FAULT else st
  let s := if b.slot < 32 then keyAuthEnded b.slot b.startClk st shown s else s
  let s := match b.uid with
    | some u =>
      let s := if st = ST_OK then recordProof u s else s
      settleEnrol u b.startClk (if st = ST_OK then ST_OK else shown) (st == ST_OK) s
    | none => s
  endDemands seq0 shown b s

/-! ## ROSTER_SWEEP (05 R166 to R170, R175) -/

/-- Gap words of the assignments that failed once `k` tags were found. -/
def gapsAt (b : Block) (k : Nat) : List Word := (b.gaps.filter fun g => g.1 == k).map fun g => g.2

/-- One tag of a sweep: the sighting, with the number that roster.sweeps has then (R157), and its words, after those of the assignments that
failed before it. -/
def sweepTag (b : Block) (st : State × List Word) (f : (Dword × Nat × Word) × Nat) : State × List Word :=
  let (s, r) := sweepSights f.1.1 b.route b.startRevs (some st.1.roster.sweeps) (some f.1.2.2) st.1
  let ws := st.2 ++ gapsAt b f.2
  match r with
  | some (h, new) => (s, ws ++ [markerWord h 3 (if new then 2 ^ 15 else 0)])
  | none => (s, ws ++ [markerWord 0 3 (2 ^ 14), w (f.1.1.toNat / 2 ^ 32), w f.1.1.toNat])

/-- The end of a block of a sweep. A service undefined meanwhile has no sweep left to go on with; the block counts in its own all the same
(12 R348). -/
def endSweep (seq0 : Nat) (b : Block) (s : State) : State :=
  let (s, ws) := b.found.zipIdx.foldl (sweepTag b) (s, [])
  let ws := ws ++ gapsAt b b.found.length
  let lost := b.sweepLost + b.abandoned
  let complete := b.stack.isEmpty && b.toAssign.isEmpty
  let s := modSvc b.svc (fun v =>
    if v.sweep.any fun x => x.number == b.sweepNo then
      { v with sweep := if complete then none else some { stack := b.stack, abandoned := lost, number := b.sweepNo } }
    else v) s
  let s := if complete && lost == 0 then countMisses b.route (walkMask s b).toNat b.sweepNo s else s
  endWithResults seq0 b (ws ++ [markerWord 0 3 (2 ^ 13 + (if complete then 2 ^ 12 else 0) + min 255 lost)]) s

/-! ## ROSTER_READ (05 R171 to R174) -/

/-- Word 5 of an entry after a clean MEASURE (R174). -/
def measureWord (samples : List Nat) (count chans : Nat) : Word :=
  let last := fun k => if k < chans then samples.getD (count * (k + 1) - 1) 0 else 0
  w (last 0 + 1024 * last 1 + 2 ^ 20 * last 2 + (if chans < 3 then 2 ^ 30 else 0))

/-- Channel bits that a READ of blocks 8 to 15 gives (R165). -/
def chanBits (bit first : Nat) (data : List Word) (old : Byte) : Byte :=
  (List.range 8).foldl (fun m k =>
    if first ≤ 8 + k ∧ 8 + k < first + data.length then
      (if (data.getD (8 + k - first) 0).getLsbD bit then m ||| ((1 : Byte) <<< k) else m &&& ~~~((1 : Byte) <<< k))
    else m) old

/-- The end of an exchange read. A clean ACK sights the tag (R157) also where an operation after it failed, of which R159 says that it changes
reads_bad and nothing else: the model takes R159 of the operation that failed (DESIGN CHOICE, assumption log 16). -/
def endExchangeRead (seq0 : Nat) (b : Block) (s : State) : State :=
  let t := atStart b s
  let h := svcHandle t b.svc
  let s := match b.found with
    | f :: _ => sightEntry h b.route b.startRevs none (some f.2.2) s
    | [] => s
  let s := modEntry h (fun e =>
    let e := if b.failed then { e with readsBad := satSucc 0xFFFF e.readsBad } else { e with readsOk := satSucc 0xFFFF e.readsOk }
    let e := if b.readOk && descClass e.desc == 2 then
        { e with chanPresent := chanBits 31 (svcReadFirst t b.svc) b.data e.chanPresent,
                 chanSigned := chanBits 30 (svcReadFirst t b.svc) b.data e.chanSigned }
      else e
    if b.samples.isEmpty then e
    else { e with lastData := measureWord b.samples (svcMeasCount t b.svc) (popBelow (svcChmask t b.svc) 8) }) s
  endWithResults seq0 b b.recs s

/-- dev of R173 in counts, rounded: the distance of a phasor from the mean of two others. -/
def passDev (x a c : Cx) : Nat :=
  let d : Cx := { i := 2 * x.i - a.i - c.i, q := 2 * x.q - a.q - c.q }
  (isqrt d.sq + counts20 1) / counts20 2

/-- peak, kpk and mean of R173. -/
def passResult (ps : List Cx) (k : Nat) : Nat × Nat × Nat :=
  let at' := fun i => ps.getD i { i := 0, q := 0 }
  let devs := (List.range k).map fun i => min 1023 (passDev (at' i) (at' 1) (at' (k - 1)))
  let best := (List.range k).foldl (fun b i => if 0 < i ∧ (b = 0 ∨ devs.getD b 0 < devs.getD i 0) then i else b) 0
  let mags := ((List.range k).filter fun i => 0 < i).map fun i => isqrt (at' i).sq
  (devs.getD best 0, best, min 1023 (divRound mags.sum (max 1 (k - 1) * counts20 1)).toNat)

/-- A part of a combined phasor as a sample: to the nearest count, at its limits beyond them (DESIGN CHOICE, assumption log 7). -/
def passSample (x : Int) : Nat := unsigned 10 (max (-512) (min 511 (divRound x (counts20 1))))

/-- Pass mode (R173): the members combined with the receive weights, whatever rx_mode. No operation of a pass block can fail, so that each counts
as a clean ROSTER_READ block, one below the threshold or with a line fault too (R157; DESIGN CHOICE, assumption log 16). -/
def endPass (seq0 : Nat) (b : Block) (rx : List (Nat × List Phasor)) (s : State) : State :=
  let ps := combine s b rx
  let h := svcHandle (atStart b s) b.svc
  let k := b.span / 32
  let (peak, kpk, mean) := passResult ps k
  let s := if par s (rosterId 3) ≤ peak then sightEntry h b.route b.startRevs none none s else missEntry h s
  let s := modEntry h (fun e => { e with readsOk := satSucc 0xFFFF e.readsOk, lastData := w (peak + 1024 * min 1023 kpk + 2 ^ 20 * mean) }) s
  let samples := (List.range k).flatMap fun i => let p := ps.getD i { i := 0, q := 0 }; [passSample p.i, passSample p.q]
  endWithResults seq0 b (markerWord h 2 k :: sampleRun samples) s

/-! ## HITCH_COUPLE (06 R200 to R202) -/

/-- The result words (R201). -/
def hitchWords (handle : Nat) (uid : Dword) (b : Block) : List Word :=
  [w (handle + b.authOk.toNat * 65536 + (b.chainOk && b.step == 6).toNat * 2 ^ 17 + (b.islandOk && b.island.getLsbD 19).toNat * 2 ^ 18),
   w (uid.toNat / 2 ^ 32), w uid.toNat] ++ (List.range 8).map (fun i => if b.readOk then b.data.getD i 0 else 0) ++
  [if b.islandOk then b.island else 0]

/-- The entry of a coupled implement: found, or made at the lowest FREE handle. -/
def coupledEntry (uid : Dword) (s : State) : State × Nat :=
  match findUid s uid with
  | some e => (s, e.handle)
  | none =>
    let h := firstFree s.roster.entries
    if h = 0x1000 then (modRoster (fun r => { r with fullEvents := r.fullEvents + 1 }) s, 0x1000)
    else (putEntry (newEntry h uid PRESENT false) s, h)

def endCoupling (seq0 : Nat) (b : Block) (s : State) : State :=
  match b.found with
  | [f] =>
    if b.status = ST_OK then
      let (s, h) := coupledEntry f.1 s
      if h = 0x1000 then endWithResults seq0 b (hitchWords 0 f.1 b) s
      else
        let s := sightEntry h b.route b.startRevs none (some f.2.2) s
        let s := modEntry h (fun e => { e with status := HITCHED }) s
        let open' := if b.step = 6 ∧ b.chainOk ∧ b.accepted then some (b.chainNext, b.chainAddr) else none
        let s := modSvc b.svc (fun v => { v with hitched := some h, fails := 0, chain := open' }) s
        let s := match open' with
          | some (next, addr) => if addr = 254 then s else dataTo addr next s
          | none => s
        endWithResults seq0 b (hitchWords h f.1 b) s
    else
      let (s, r) := sweepSights f.1 b.route b.startRevs none (some f.2.2) s
      endWithResults seq0 b (hitchWords ((r.map fun x => x.1).getD 0) f.1 b) s
  | [] => endWithResults seq0 b (if b.status = ST_HITCH_NONE then [0] else hitchWords 0 0 b) s
  | fs =>
    let s := fs.foldl (fun s f => (sweepSights f.1 b.route b.startRevs none (some f.2.2) s).1) s
    endWithResults seq0 b (hitchWords 0 0 b) s

/-- What a clean H_STATUS on a HITCHED entry brings (R202): the entry is sighted, and the open chain transfer stands as far as it has come. -/
def hitchedSeen (h : Nat) (b : Block) (s : State) : State :=
  if !b.islandOk then s
  else
    let s := sightEntry h b.route b.startRevs none (b.found.head?.map fun f => f.2.2) s
    let left := if streamLen (runBank s).blob ≤ b.chainNext || !mayOffer s then none else some (b.chainNext, b.chainAddr)
    modSvc b.svc (fun v => { v with chain := v.chain.bind fun _ => left }) s

/-- The status of a block on a HITCHED entry counts towards uncouple_after or ends the count, whatever it sent after H_STATUS (R202). -/
def countUncouple (h : Nat) (b : Block) (s : State) : State :=
  let missedIt := blockStatus b == ST_ILK_NO_REPLY || blockStatus b == ST_ILK_CORRUPT
  let fails := if missedIt then ((findSvc s b.svc).map fun v => v.fails).getD 0 + 1 else 0
  if missedIt && decide (svcPar (atStart b s) b.svc 12 / 256 % 256 ≤ fails) then
    let s := modEntry h (fun e => { e with status := ABSENT }) s
    let s := modSvc b.svc (fun v => { v with hitched := none, fails := 0, chain := none }) s
    postEvent 0x8031 (payload [h % 256, h / 256, b.svc]) s
  else modSvc b.svc (fun v => { v with fails := fails }) s

/-- A block on a HITCHED entry (R202, 15 R437). -/
def endHitched (seq0 : Nat) (b : Block) (s : State) : State :=
  match (findSvc s b.svc).bind fun v => v.hitched with
  | none => endWithResults seq0 b [] s
  | some h =>
    let ws := if b.islandOk then hitchWords h 0 { b with authOk := false, readOk := false } else []
    endWithResults seq0 b ws (countUncouple h b (hitchedSeen h b s))

/-! ## The line calibration sweep (16 R454) -/

/-- The end of a sweep's block: a line that faulted in it, or is no longer fitted (03 R74), counts as skipped. -/
def endSweepLine (b : Block) (er : List Int) (ep : Int) (s : State) : State :=
  match linesOf b.lines with
  | [] => s
  | l :: _ =>
    let left := fun (m : Maint) => m.sweepLeft.filter fun x => x != l
    if b.faulted || linePar s l 0 == 0 then modMnt (fun m => { m with sweepLeft := left m, skipped := m.skipped ||| (1 <<< l) }) s
    else
      let code := (List.range 64).foldl (fun c k => if (er.getD k 0).natAbs < (er.getD c 0).natAbs then k else c) 0
      let s := setLive (lineId l 6) (BitVec.ofInt 32 (max (-64) (min 63 (-ep)))) (setLive (lineId l 5) (w code) s)
      let s := if code = 0 ∨ code = 63 then setFlag l 2 s else s
      modMnt (fun m => { m with sweepLeft := left m, calibrated := m.calibrated ||| (1 <<< l) }) s

/-! ## Block end -/

/-- The samples of a line and quantity. -/
def capturedOf (samples : List (Nat × Nat × List Nat)) (line quantity : Nat) : List Nat :=
  ((samples.find? fun x => x.1 == line && x.2.1 == quantity).map fun x => x.2.2).getD []

/-- DIAG_CAPTUREs on a line that the block drove, to its end or to a fault of the line, complete each with the samples of its line and quantity
(12 R355). -/
def endCaptures (b : Block) (samples : List (Nat × Nat × List Nat)) (s : State) : State :=
  s.port.held.foldl (fun s h => match h.kind with
    | .capture line quantity count =>
      if servedBy b.startClk h && b.bursts.getLsbD line then
        doneBytes h (wordsBytes (sampleRun ((capturedOf samples line quantity).take count))) 0 0 0 s
      else s
    | _ => s) s

def endByType (seq0 : Nat) (b : Block) (m : BlockMeas) (s : State) : State :=
  match b.type with
  | 1 => endDemands seq0 (blockStatus b) b s
  | 2 => endZone seq0 b s
  | 3 => endAuth seq0 b s
  | 4 => endSweep seq0 b s
  | 5 => if svcPassMode (atStart b s) b.svc then endPass seq0 b m.pass s else endExchangeRead seq0 b s
  | 6 => if 10 ≤ b.step then endHitched seq0 b s else endCoupling seq0 b s
  | _ => endSweepLine b m.er m.ep s

/-- A command in hand as the span ends got no reply, and nothing more is sent (04 R153, R154). -/
def spanOver (svc : Nat) (s : State) : State :=
  match findBlock s svc with
  | none => s
  | some b =>
    match b.cmd with
    | none => s
    | some c => commandOutcome svc c none (modBlock svc (fun b => { b with used := b.span, attempt := 3 }) s)

/-- A block ends: its lines and engine are free and its results apply, on the roster, keys and rings; host writes staged for its lines then
(03 R76). -/
def applyBlockEnd (svc : Nat) (meas : BlockMeas) (s : State) : State :=
  match findBlock s svc with
  | none => s
  | some b0 =>
    let s := endQuench b0 (spanOver svc s)
    let b := (findBlock s svc).getD b0
    let s := modSched (fun d => { d with blocks := d.blocks.filter fun x => x.svc != svc }) s
    let seq0 := s.twin.mirrorSeq
    let s := endByType seq0 b meas (endCaptures b meas.samples s)
    applyStaged (fun id => id / 2048 == 2 && b.lines.getLsbD (id % 2048 / 32) && !(linesHeld s).getLsbD (id % 2048 / 32)) s

/-- The carrier cycle in which a block ends, quench and all. -/
def endCycle (s : State) (b : Block) : Nat := (blockEndClk b + holdCyc s b * b.div) / b.div

/-- Blocks of lower instance that end in the same carrier cycle and have not yet (05 R161). -/
def endsBefore (s : State) (b : Block) : List Block :=
  s.sched.blocks.filter fun x => x.svc < b.svc && x.div == b.div && endCycle s x == endCycle s b

/-- Blocks whose end has come and that waited for one of lower instance, in the order of instance. -/
def applyEnded : List Nat → State → State
  | [], s => s
  | n :: rest, s =>
    match findBlock s n with
    | some b =>
      match b.ended with
      | some m => applyEnded rest (if (endsBefore s b).isEmpty then applyBlockEnd n m s else s)
      | none => applyEnded rest s
    | none => applyEnded rest s

/-- BLOCK_END (R92): span and quench are over. Blocks that end in the same carrier cycle apply by instance, lowest first (05 R161): one whose
end comes before that of a lower instance waits for it. -/
def execBlockEnd (svc : Nat) (meas : BlockMeas) (s : State) : Host.Outcome State Fault Refusal :=
  match findBlock s svc with
  | none => .next s
  | some b =>
    if !isRunning s then .next s
    else
      let s := advanceTo (blockEndClk b + holdCyc s b * b.div) s
      if (endsBefore s b).isEmpty then .next (freed (applyEnded (List.range 257) (applyBlockEnd svc meas s)))
      else .next (modBlock svc (fun b => { b with ended := some meas }) s)

end Sys2Proof.Machine
end

