-- ==== Sys2Proof/Machine/CryptoCmds.lean ====
section
/-!
DEFINITION. Sys2Proof/Machine/CryptoCmds.lean: the commands that run as jobs of the engines: CMAC, CCM, SHA, signatures, transport keys,
key imports, generation, attestation (10 R284 to R303; 12 R352).
-/
namespace Sys2Proof.Machine

/-! ## Which slots the host may use (R284 to R286) -/

/-- Most input of one job: 64 KiB (R294). -/
def jobMax : Nat := 65536

/-- Parts of at most 4 KiB (R293). -/
def jobParts (n : Nat) : Nat := max 1 (ceilDiv n 4096)

/-- The status that refuses a job command its slot: host and the usage bit, and a type that fits. -/
def slotRefused (s : State) (slot bit : Nat) (ec : Bool) : Option Nat :=
  if 128 ≤ slot then some ST_BAD_ARG
  else if slot < 16 then some ST_KEY_USAGE
  else if destroyWaits s slot then some ST_KEY_EMPTY
  else match readSlot s slot with
    | .empty => some ST_KEY_EMPTY
    | .corrupt => some ST_KEY_CORRUPT
    | .key a _ => if usageFits a bit ec then none else some ST_KEY_USAGE

/-- A command that uses a slot: refused, or on with it. Where an earlier descriptor of its ring is still writing the slot, the job waits for
that, and the slot is looked at as it starts (11 R333). -/
def useSlot (slot bit : Nat) (ec : Bool) (h : Held) (refuse : Nat → State → State) (go : State → State) (s : State) : State :=
  if 16 ≤ slot && decide (slot < 128) && slotWritten s h.ring slot s.sec.nextJob then go s
  else match slotRefused s slot bit ec with
    | some st => refuse st s
    | none => go s

/-- Refuse a job; a corrupt slot is told on RING3. -/
def refuseSlot (slot status : Nat) (h : Held) (s : State) : State :=
  done h status (if status = ST_KEY_CORRUPT then corruptSlot slot s else s)

/-! ## KEY_CMAC (R294, R296 to R298) -/

/-- Areas of context and MAC. -/
def cmacAreas (h : Held) (_ : State) : List (Nat × Nat) :=
  (if cmacFirst h && cmacLastPart h then [] else [(h.a1.toNat, ctxLen (cmacWrapped h))]) ++
    (if cmacLastPart h then [(h.a2.toNat, 16)] else [])

def keyCmac (h : Held) (s : State) : State :=
  let slot := cmacSlot h
  if jobMax < h.len then done h ST_BAD_ARG s
  else useSlot slot 1 false h
    (fun st s => refuseSlot slot st h (if !cmacFirst h && st == ST_KEY_EMPTY then refuseRestore s else s))
    (submitJob false (jobParts h.len) slot h) s

/-- All blocks but the last, whole or short, and the last. -/
def splitLast (m : List Byte) : List (List Byte) × List Byte :=
  let bs := chunks 16 m
  (bs.dropLast, bs.getLastD [])

/-- The context a KEY_CMAC begins with. -/
def cmacStart (h : Held) (s : State) : Ctx :=
  if cmacFirst h then { run := zeros 16, pend := [], count := 0 }
  else match restoreCtx s (cmacWrapped h) (cmacSlot h) (winRead s h.a1.toNat (ctxLen (cmacWrapped h))) with
    | .ok clear => ctxOf clear
    | .error _ => { run := zeros 16, pend := [], count := 0 }

/-- Running value and pending bytes once `n` bytes of the input have gone in. -/
def cmacAfter (key : List Byte) (h : Held) (n : Nat) (s : State) : List Byte × List Byte :=
  let c := cmacStart h s
  let (whole, last) := splitLast (c.pend ++ (bufBytes h s).take n)
  (cbcMac key c.run whole, last)

def endCmac (j : Job) (h : Held) (s : State) : State :=
  let slot := cmacSlot h
  let (run, last) := cmacAfter j.key h h.len s
  if cmacLastPart h then done h ST_OK (winWrite h.a2.toNat (cmacLast j.key run last) s)
  else
    let serial := s.sec.saveSerial % 65536
    let clear := fun (form size : Nat) =>
      ctxClear form 1 size slot 0 s.sec.bootCount (slotGen s slot) serial run (zeros 16) last 0 ((cmacStart h s).count + h.len)
    let out := if cmacWrapped h then ctxWrapped s.sec.ek (clear 2 j.key.length) j.key else clear 1 0
    done h ST_OK (winWrite h.a1.toNat out (modSec (fun x => { x with saveSerial := x.saveSerial + 1 }) s))

def execKeyCmac (ring : Nat) (s : State) : Host.Outcome State Fault Refusal :=
  .next (runCmd ring 0x0B0C takesBuf cmacAreas keyCmac s)

/-! ## CCM (R294, R295, R300) -/

def ccmSlot (h : Held) : Nat := h.a0.toNat % 256
def ccmTagLen (h : Held) : Nat := h.a0.toNat / 256 % 256
def ccmPos (h : Held) : Nat := h.a1.toNat

/-- Output of an encryption: padded nonce, ciphertext, tag. -/
def encLen (h : Held) : Nat := 16 + (h.len - ccmPos h) + ccmTagLen h

/-- Payload of a decryption. -/
def decLen (h : Held) : Nat := h.len - 16 - ccmPos h - ccmTagLen h

def encAreas (h : Held) (_ : State) : List (Nat × Nat) :=
  if ccmTagLen h = 0 || h.len = 0 || h.len < ccmPos h then [] else [(h.a2.toNat, encLen h)]

def decAreas (h : Held) (_ : State) : List (Nat × Nat) :=
  if ccmTagLen h = 0 || h.len < 16 + ccmPos h + ccmTagLen h then [] else [(h.a2.toNat, decLen h)]

/-- Two areas share a byte. -/
def areasOverlap (a la b lb : Nat) : Bool := 0 < la && 0 < lb && a < b + lb && b < a + la

/-- Checks common to both commands. -/
def ccmRefused (h : Held) (room : Bool) (out : Nat) : Option Nat :=
  let t := ccmTagLen h
  if !(t = 4 || t = 8 || t = 16) || jobMax < h.len || !room || areasOverlap h.buf h.len h.a2.toNat out then some ST_BAD_ARG else none

def keyCcmEnc (h : Held) (s : State) : State :=
  if ccmTagLen h = 0 then done h ST_OK s
  else match ccmRefused h (ccmPos h ≤ h.len) (encLen h) with
    | some st => done h st s
    | none =>
      useSlot (ccmSlot h) 2 false h (fun st s => refuseSlot (ccmSlot h) st h s)
        (fun s => if nonceLeft s then submitJob false (jobParts h.len) (ccmSlot h) h s else done h ST_CTR_EXHAUSTED (retire s)) s

/-- Word 4 of KEY_CCM_ENC: 16 + input + tag, as 12 R352 has it, though the output of 10 R294 holds no associated data (DEDUCED, assumption
log 25). -/
def encShown (h : Held) : Nat := 16 + h.len + ccmTagLen h

/-- An encryption ends, under the nonce made as it started (R300). -/
def endCcmEnc (j : Job) (h : Held) (s : State) : State :=
  let bs := bufBytes h s
  let out := j.nonce ++ zeros 3 ++ ccmSeal j.key j.nonce (bs.take (ccmPos h)) (bs.drop (ccmPos h)) (ccmTagLen h)
  done1 h ST_OK (BitVec.ofNat 32 (encShown h)) (winWrite h.a2.toNat out s)

def execKeyCcmEnc (ring : Nat) (s : State) : Host.Outcome State Fault Refusal :=
  .next (runCmd ring 0x0B0D takesBuf encAreas keyCcmEnc s)

def keyCcmDec (h : Held) (s : State) : State :=
  if ccmTagLen h = 0 then done h ST_OK s
  else match ccmRefused h (16 + ccmPos h + ccmTagLen h ≤ h.len) (decLen h) with
    | some st => done h st s
    | none =>
      useSlot (ccmSlot h) 2 false h (fun st s => refuseSlot (ccmSlot h) st h s)
        (fun s => submitJob false (jobParts h.len) (ccmSlot h) h
          (modPort (fun p => { p with quarantine := p.quarantine ++ [(h.a2.toNat, decLen h)] }) s)) s

/-- A decryption ends (R295): the tag decides whether the output area shows the plaintext or zeros. -/
def endCcmDec (j : Job) (h : Held) (s : State) : State :=
  let s := modPort (fun p => { p with quarantine := p.quarantine.filter fun a => a != (h.a2.toNat, decLen h) }) s
  let bs := bufBytes h s
  let body := bs.drop 16
  let ad := body.take (ccmPos h)
  let ct := (body.drop (ccmPos h)).take (decLen h)
  match ccmOpen j.key (bs.take 13) ad ct (bs.drop (h.len - ccmTagLen h)) with
  | some plain => done1 h ST_OK (BitVec.ofNat 32 (decLen h)) (winWrite h.a2.toNat plain s)
  | none => done h ST_AUTH_FAIL (winWrite h.a2.toNat (zeros (decLen h)) (modSec (fun x => { x with zeroised := x.zeroised + 1 }) s))

def execKeyCcmDec (ring : Nat) (s : State) : Host.Outcome State Fault Refusal :=
  .next (runCmd ring 0x0B0E takesBuf decAreas keyCcmDec s)

/-! ## Hash and signatures (R294, R299) -/

def shaAreas (h : Held) (_ : State) : List (Nat × Nat) := if h.len = 0 then [] else [(h.a0.toNat, 48)]

def keySha (h : Held) (s : State) : State := if jobMax < h.len then done h ST_BAD_ARG s else submitJob true 1 255 h s

def endSha (h : Held) (s : State) : State := done h ST_OK (winWrite h.a0.toNat (sha384 (bufBytes h s)) s)

def execKeySha (ring : Nat) (s : State) : Host.Outcome State Fault Refusal := .next (runCmd ring 0x0B0F takesBuf shaAreas keySha s)

def keySign (h : Held) (s : State) : State :=
  if h.len < 96 then done h ST_BAD_ARG s
  else useSlot h.a0.toNat 4 true h (fun st s => refuseSlot h.a0.toNat st h s) (submitJob true 1 h.a0.toNat h) s

/-- A signature over a digest under a private key, with a random nonce: the draw is used up. -/
def signDigest (key digest : List Byte) (s : State) : State × List Byte :=
  (used 48 s, ecdsaSign (beNat key) (ecScalar (drawBytes 48 s)) digest)

def endSign (j : Job) (h : Held) (s : State) : State :=
  let (s, sig) := signDigest j.key (winRead s h.buf 48) s
  finish h ST_OK 0 0 0 96 (winWrite h.buf sig s)

def execKeySign (ring : Nat) (s : State) : Host.Outcome State Fault Refusal := cmdBuf ring 0x0B10 keySign s

def keyVerify (h : Held) (s : State) : State := if h.len < 240 then done h ST_BAD_ARG s else submitJob true 1 255 h s

def endKeyVerify (h : Held) (s : State) : State :=
  let bs := bufBytes h s
  done h (if ecdsaVerify (bs.take 96) (blobSlice bs 96 48) (blobSlice bs 144 96) then ST_OK else ST_AUTH_FAIL) s

def execKeyVerify (ring : Nat) (s : State) : Host.Outcome State Fault Refusal := cmdBuf ring 0x0B11 keyVerify s

/-! ## Transport and import (R290) -/

def keyXportOpen (h : Held) (s : State) : State :=
  if h.len < 192 then done h ST_BAD_ARG s else submitJob true 1 0 h s

/-- A fresh transport key pair and DEV_ID's signature over its public key and the challenge. -/
def endXportOpen (j : Job) (h : Held) (s : State) : State :=
  let d := ecScalar (drawBytes 48 s)
  let pub := ecPublic d
  let s := modSec (fun x => { x with xport := some d }) (used 48 s)
  let (s, sig) := signDigest j.key (sha384 (pub ++ winRead s h.buf 32)) s
  finish h ST_OK 0 0 0 192 (winWrite h.buf (pub ++ sig) s)

def execKeyXportOpen (ring : Nat) (s : State) : Host.Outcome State Fault Refusal := cmdBuf ring 0x0B07 keyXportOpen s

/-- Slots that KEY_IMPORT and KEY_DESTROY name (R284). -/
def importSlot (k : Nat) : Bool := k == 2 || k == 4 || k == 5 || (decide (16 ≤ k) && decide (k < 128))

/-- Ownership and usage rules of R284 for a slot written from outside. -/
def attrAllowed (slot : Nat) (a : Dword) (keyLen : Nat) : Bool :=
  attrOwner a == 2 && decide (1 ≤ attrType a) && decide (attrType a ≤ 3) && keyBytes (attrType a) == keyLen &&
  (match slot with
    | 2 => attrType a == KEY_AES256 && attrUsage a == 0x81
    | 4 => attrType a == KEY_AES128 && attrUsage a == 0x81
    | 5 => attrType a == KEY_AES128 && attrUsage a == 0
    | _ => (attrUsage a).getLsbD 6)

/-- Length of the wrapped record in a buffer of a length, with and without a signature. -/
def importRecord (len : Nat) (signed : Bool) : Option Nat :=
  let n := len - 96 - (if signed then 96 else 0)
  if n = 32 ∨ n = 48 ∨ n = 64 then some n else none

/-- A slot holds a key that no destruction taken before waits to destroy (11 R333). -/
def slotStays (s : State) (slot : Nat) : Bool := slotHolds s slot && !destroyWaits s slot

def keyImport (h : Held) (s : State) : State :=
  let slot := h.a0.toNat
  let t := modSec (fun x => { x with xport := none }) s
  if s.sec.xport.isNone then done h ST_BAD_ARG s
  else if !importSlot slot || slotStays s slot || (importRecord h.len (needsOemSignature s)).isNone then
    done h (if needsOemSignature s && (importRecord h.len false).isSome && importSlot slot && !slotStays s slot then ST_AUTH_FAIL
            else ST_BAD_ARG) t
  else if !(needsOemSignature s || s.nv.lifecycle == lcProvisioned) then done h ST_AUTH_FAIL t
  else submitJob true 1 255 h s

/-- The checks of R290 in order, with an open transport private key. The digest is that of R290 step 5, without the boot count that 12 R352 puts
into the signatures a command asks for (DEDUCED, assumption log 25). -/
def importUnder (d : Nat) (h : Held) (s : State) : State :=
  let slot := h.a0.toNat
  let bs := bufBytes h s
  let n := (importRecord h.len (needsOemSignature s)).getD 32
  let station := bs.take 96
  let wrapped := blobSlice bs 96 n
  let digest := sha384 (ascii "ILK-IMPORT" ++ uidBytes s ++ ecPublic d ++ station ++ wrapped)
  if slotHolds s slot then done h ST_BAD_ARG s
  else if needsOemSignature s && !signedByRoot (oemHash s) digest (blobSlice bs (96 + n) 96) then done h ST_AUTH_FAIL s
  else match ecdh d station with
    | none => done h ST_AUTH_FAIL s
    | some z =>
      match keyUnwrap (kdf256 (condense z) (ascii "ILK-XPORT") (uidBytes s ++ [BitVec.ofNat 8 slot])) wrapped with
      | none => done h ST_AUTH_FAIL s
      | some plain =>
        let a : Dword := BitVec.ofNat 64 (leNat (plain.take 8))
        let key := plain.drop 8
        if attrSlot a ≠ slot then done h ST_BAD_ARG s
        else if !attrAllowed slot a key.length then done h ST_KEY_USAGE s
        else
          let seq0 := s.twin.mirrorSeq
          let usage := (attrUsage a).toNat
          finishMirrored seq0 h ST_OK 0 0 0 0 (if slot = 5 then enrolHitch usage 2 key s else writeSlot slot (attrType a) usage 2 key s)

/-- An import runs: the transport key goes whatever the outcome, and one that finds it gone is refused (R290). -/
def endImport (h : Held) (s : State) : State :=
  match s.sec.xport with
  | none => done h ST_BAD_ARG s
  | some d => importUnder d h (modSec (fun x => { x with xport := none }) s)

def execKeyImport (ring : Nat) (s : State) : Host.Outcome State Fault Refusal := cmdBuf ring 0x0B08 keyImport s

/-! ## Generation (R291) -/

def keyGenerate (h : Held) (s : State) : State :=
  let slot := h.a0.toNat
  let usage := h.a1.toNat % 256
  if slot < 16 || 128 ≤ slot || slotStays s slot || h.len < 96 then done h ST_BAD_ARG s
  else if !usage.testBit 6 then done h ST_KEY_USAGE s
  else if needsOemSignature s || s.nv.lifecycle == lcProvisioned then submitJob true 1 255 h s
  else done h ST_AUTH_FAIL s

/-- The OEM root has signed the generation, where its signature is needed (R290, R291). -/
def generateSigned (h : Held) (s : State) : Bool :=
  !needsOemSignature s ||
    signedByRoot (oemHash s) (rootDigest s "ILK-GENERATE" [BitVec.ofNat 8 h.a0.toNat, BitVec.ofNat 8 (h.a1.toNat % 256)]) (winRead s h.buf 96)

/-- A generated key is put into its slot, where that is still empty; the signature is verified by the job itself (R299). -/
def endGenerate (h : Held) (s : State) : State :=
  if slotHolds s h.a0.toNat then done h ST_BAD_ARG s
  else if !generateSigned h s then done h ST_AUTH_FAIL s
  else
    let d := ecScalar (drawBytes 48 s)
    let seq0 := s.twin.mirrorSeq
    let s := writeSlot h.a0.toNat KEY_P384 (h.a1.toNat % 256) 2 (beBytes 48 d) (used 48 s)
    finishMirrored seq0 h ST_OK 0 0 0 96 (winWrite h.buf (ecPublic d) s)

def execKeyGenerate (ring : Nat) (s : State) : Host.Outcome State Fault Refusal := cmdBuf ring 0x0B09 keyGenerate s

/-! ## Destruction (R287, R290) -/

/-- A destruction needs the OEM root's signature in FIELD (R290). -/
def destroyNeedsSignature (_ : Held) (s : State) : Bool := s.nv.lifecycle == lcField

/-- A destruction acts, or waits for the jobs of its slot. -/
def destroyOrWait (h : Held) (s : State) : State :=
  if slotBusy s h.a0.toNat h then setKind h (.destroy h.a0.toNat) s else destroyNow h h.a0.toNat s

/-- A destruction in FIELD, once the public-key engine takes its signature. -/
def destroySigned (h : Held) (s : State) : State :=
  if signedByRoot (oemHash s) (rootDigest s "ILK-DESTROY" [BitVec.ofNat 8 h.a0.toNat]) (winRead s h.buf 96) then destroyOrWait h s
  else done h ST_AUTH_FAIL s

/-! ## Lifecycle (R305, R306) -/

/-- What BLANK to PROVISIONED does beyond its marker (R305): the HUK is drawn, DEV_ID generated, the certificate burnt, slot 1 installed. -/
def provision (s : State) : State :=
  let s := used 32 (otpBurn 0x60 (drawBytes 32 s) s)
  let d := ecScalar (drawBytes 48 s)
  let s := used 48 (writeSlot 0 KEY_P384 0x10 0 (beBytes 48 d) s)
  let s := otpBurn 0x160 s.nv.intentCert (writeSlot 1 KEY_AES256 0x01 1 s.nv.intentKey s)
  modNv (fun n => { n with intentCert := [], intentKey := [] }) s

/-- Steps 2 to 4 of a transition (R306), from its intent record on. -/
def finishTransition (target : Nat) (s : State) : State := applyTransition target (if target = lcProvisioned then provision s else s)

/-- The requirements of a transition by KEY_LIFECYCLE (R305). -/
def lifecycleAllowed (s : State) (target : Nat) (sig : List Byte) : Bool :=
  if target = lcField then
    s.nv.lifecycle == lcProvisioned && oemRootSet s && slotHolds s 4 && signedByRoot (oemHash s) (rootDigest s "ILK-FIELD" []) sig
  else
    (s.nv.lifecycle == lcProvisioned || s.nv.lifecycle == lcField) &&
      (signedByRoot (brixquaHash s) (rootDigest s "ILK-RETURN" []) sig || signedByRoot (oemHash s) (rootDigest s "ILK-RETURN" []) sig)

/-- A transition by KEY_LIFECYCLE, once the public-key engine takes its signature. -/
def lifecycleSigned (h : Held) (s : State) : State :=
  if lifecycleAllowed s h.a0.toNat (winRead s h.buf 96) then transition h.a0.toNat s else done h ST_LC_REFUSED s

/-- A header from the host, once the public-key engine takes its signatures (15 R420, R421): word 4 the pieces of the image. -/
def headerSigned (h : Held) (s : State) : State :=
  let blob := bufBytes h s
  let (t, st) := takeHeader blob s
  done1 h st (if st = ST_OK then w (hdrPieces blob) else 0) t

/-! ## Attestation (R303) -/

def keyAttest (h : Held) (s : State) : State :=
  if h.a0 = 0 then done h ST_OK s
  else if h.a0 ≠ 32 || h.len < 272 then done h ST_BAD_ARG s
  else submitJob true 1 0 h s

/-- SHA-384 of the twin's DEV_ID public key; 0 when unpaired. -/
def twinHashNow (s : State) : List Byte := (s.nv.pair.map fun p => p.twinHash).getD (zeros 48)

/-- Bytes 0 to 175 of a report over a challenge. -/
def reportBody (s : State) (challenge : List Byte) : List Byte :=
  let b := (runBank s).blob
  leBytes 2 1 ++ leBytes 2 0x0110 ++ uidBytes s ++ leBytes 2 0x00B0 ++ leBytes 2 (hdrRelease b) ++ leBytes 4 (secver s) ++
    [BitVec.ofNat 8 s.nv.lifecycle, BitVec.ofNat 8 s.twin.role, BitVec.ofNat 8 (debugOpen s).toNat, 0] ++
    leBytes 4 s.sec.bootCount.toNat ++ leBytes 4 (counterLive s 1).toNat ++
    leBytes 16 (ofBits ((List.range 128).map fun k => slotHolds s k)) ++ sha384 (hdrManifest b) ++ twinHashNow s ++ challenge

/-- A report over a challenge, signed under DEV_ID: MCTR1 advances. -/
def makeReport (key challenge : List Byte) (s : State) : State × List Byte :=
  let s := advanceCounter 1 s
  let body := reportBody s challenge
  let (s, sig) := signDigest key (sha384 body) s
  (s, body ++ sig)

def endAttest (j : Job) (h : Held) (s : State) : State :=
  if counterLive s 1 = 0xFFFFFFFF then done h ST_CTR_EXHAUSTED (retire s)
  else
    let (s, report) := makeReport j.key (winRead s h.buf 32) s
    finish h ST_OK 0 0 0 272 (winWrite h.buf report s)

def execKeyAttest (ring : Nat) (s : State) : Host.Outcome State Fault Refusal :=
  .next (runCmd ring 0x0B13 (fun h _ => h.a0 != 0) noExtra keyAttest s)

/-! ## Pieces of an update (15 R423, R436) -/

/-- A host's piece has been decrypted: word 4 the pieces still missing. -/
def endPiece (j : Job) (h : Held) (s : State) : State :=
  let (t, st) := takePiece j.key h.a0.toNat (bufBytes h s) s
  verifyTarget (done1 h st (w (piecesMissing t)) t)

/-- A chain's piece has been decrypted; a target that has received all verifies at once (R438). -/
def endChainPiece (j : Job) (i : Nat) (bs : List Byte) (s : State) : State :=
  verifyTarget (takePiece j.key i bs s).1

/-! ## Between two parts (R293, R296, R297) -/

/-- What a CCM job's engine holds after `n` bytes of associated data and payload: CBC-MAC value, counter block, pending bytes. -/
def ccmAfter (key nonce ad plain : List Byte) (tagLen n : Nat) : List Byte × List Byte × List Byte :=
  let fed := if n ≤ ad.length then ccmHead nonce ad.length (ad.take n) plain.length tagLen
    else padBlock (ccmHead nonce ad.length ad plain.length tagLen) ++ plain.take (n - ad.length)
  let whole := fed.length / 16
  (cbcMac key (zeros 16) (chunks 16 (fed.take (16 * whole))), ccmCtr nonce (1 + (n - ad.length) / 16), fed.drop (16 * whole))

/-- A CCM job as it runs: mode, slot in the saved context, tag length, nonce, associated data, payload in clear. -/
def ccmInput (j : Job) (h : Option Held) (s : State) : Nat × Nat × Nat × List Byte × List Byte × List Byte :=
  let bs := (h.map fun h => bufBytes h s).getD ((j.unit.map fun u => u.2).getD [])
  let pos := (h.map ccmPos).getD 0
  let t := (h.map ccmTagLen).getD 0
  if j.opcode = 0x0B0D then (2, j.slot, t, j.nonce, bs.take pos, bs.drop pos)
  else if j.opcode = 0x0B0E then
    let body := bs.drop 16
    (3, j.slot, t, bs.take 13, body.take pos, ccmStream j.key (bs.take 13) ((body.drop pos).take (body.length - pos - t)))
  else
    let i := (h.map fun h => h.a0.toNat).getD ((j.unit.map fun u => u.1).getD 0)
    let nonce := pieceNonce (idleBank s).blob i
    (3, 255, 16, nonce, pieceAd i, ccmStream j.key nonce (bs.take (bs.length - 16)))

/-- The context of a job after one more of its parts of 4 KiB, in the clear form that is then wrapped. -/
def jobCtx (j : Job) (h : Option Held) (s : State) : List Byte :=
  let n := 4096 * (j.past + 1)
  let clear := fun (mode slot t : Nat) (run ctr pend : List Byte) (declared : Nat) =>
    ctxClear 2 mode j.key.length slot t s.sec.bootCount (if slot = 255 then 0 else slotGen s slot) (s.sec.saveSerial % 65536) run ctr pend declared n
  match j.opcode, h with
  | 0x0B0C, some h => let (run, pend) := cmacAfter j.key h n s; clear 1 j.slot 0 run (zeros 16) pend 0
  | _, _ =>
    let (mode, slot, t, nonce, ad, plain) := ccmInput j h s
    let (run, ctr, pend) := ccmAfter j.key nonce ad plain t n
    clear mode slot t run ctr pend plain.length

/-- A part ends and another follows: the engine is free, the context saved, the serial of a CCM context listed. -/
def savePart (j : Job) (s : State) : State :=
  let serial := s.sec.saveSerial
  let ctx := ctxWrapped s.sec.ek (jobCtx j (findHeld s j.ring j.idx) s) j.key
  let s := modSec (fun x => { x with saveSerial := x.saveSerial + 1,
                                     ccmSaved := if j.opcode = 0x0B0C then x.ccmSaved else x.ccmSaved ++ [serial] }) s
  modJob j.id (fun x => { x with parts := x.parts - 1, past := x.past + 1, running := false, key := [], serial := some serial, ctx := ctx }) s

/-! ## The end of a job (R293) -/

/-- The job of a descriptor has ended: its command's result. -/
def endCommand (j : Job) (h : Held) (s : State) : State :=
  match j.opcode with
  | 0x0B07 => endXportOpen j h s
  | 0x0B08 => endImport h s
  | 0x0B09 => endGenerate h s
  | 0x0B0B => destroySigned h s
  | 0x0B0C => endCmac j h s
  | 0x0B0D => endCcmEnc j h s
  | 0x0B0E => endCcmDec j h s
  | 0x0B0F => endSha h s
  | 0x0B10 => endSign j h s
  | 0x0B11 => endKeyVerify h s
  | 0x0B13 => endAttest j h s
  | 0x0B15 => lifecycleSigned h s
  | 0x0C01 => headerSigned h s
  | 0x0C02 => endPiece j h s
  | 0x0C03 =>
    let (s, st) := endVerify s
    done h st s
  | _ => s

/-- A job that serves no descriptor: a chain's piece, or the verification of a chain target (15 R438). -/
def endOwn (j : Job) (s : State) : State :=
  match j.unit with
  | some (i, bs) => endChainPiece j i bs s
  | none => chainActivate (postStage (endVerify s).1)

/-- ENGINE_JOB_COMPLETE (R293, R299): a part ends and its engine is free, or the job ends. -/
def execEngineJobComplete (job : Nat) (s : State) : Host.Outcome State Fault Refusal :=
  match findJob s job with
  | none => .next s
  | some j =>
    if !(j.running && isRunning s) then .next s
    else if 1 < j.parts then
      .next (freed (savePart j s))
    else
      let s := dropJob job s
      let s := if j.ring = 255 then endOwn j s
        else match findHeld s j.ring j.idx with
          | some h => endCommand j h s
          | none => s
      .next (freed s)

end Sys2Proof.Machine
end

