-- ==== Sys2Proof/Machine/Maint.lean ====
section
/-!
DEFINITION. Sys2Proof/Machine/Maint.lean: the maintenance token and its four activities, the hourly check and the saved times (12 R353,
R354; 14 R396, R397; 16 R451 to R457).
-/
namespace Sys2Proof.Machine

def CAL_SWEEP : Nat := 2
def RESYNC_ALL : Nat := 3
def COMPACT : Nat := 4

def ST_TWIN_NOT_PAIRED : Nat := 0x0701
def ST_TWIN_PAIRED : Nat := 0x0702
def ST_TWIN_NO_PEER : Nat := 0x0703
def ST_TWIN_ATTEST : Nat := 0x0704
def ST_TWIN_MISMATCH : Nat := 0x0705
def ST_TWIN_SLOT_CONFLICT : Nat := 0x0706
def ST_MAINT_NO_SPARE : Nat := 0x0901

/-! ## Resynchronisation (14 R395, R397) -/

/-- Slots that carry the mirror bit, wrapped under the pair key (14 R390 step 6). -/
def mirroredSlots (s : State) : List (Nat × List Byte) :=
  (List.range 128).filterMap fun k => match readSlot s k, pairKey s with
    | .key a key, some pk => if (attrUsage a).getLsbD 7 then some (k, keyWrap pk (leBytes 8 a.toNat ++ key)) else none
    | _, _ => none

/-- A full snapshot of every item of R395, and of what is no longer there (05 R163). -/
def snapshot (s : State) : List MirrorRec :=
  .only (s.roster.entries.map fun e => e.handle) ((mirroredSlots s).map fun x => x.1) (s.sched.svcs.map fun v => v.n) ::
  (s.roster.entries.map fun e => .roster e.handle (entryWords e)) ++ ((List.range 32).map fun k => keyRec s k) ++
    ((mirroredSlots s).map fun x => .slot x.1 x.2) ++
    ((savedIds.filter fun id => !unmirrored id).map fun id => .param id (liveParam s id)) ++
    (s.sched.svcs.map fun v => if v.defined then .svcDefine v.n else .svcUndefine v.n) ++ [.busAddr s.bus.addr]

/-- A resynchronisation starts: the snapshot holds whatever waited for acknowledgement. -/
def startResync (s : State) : State :=
  let q := s.twin.mirrorSeq + 1
  let recs := snapshot s
  let s := modTwin (fun t => { t with mirrorSeq := q, backlog := [(q, recs)], resyncSeq := some q, mirrored := false }) s
  sendMirror q recs s

/-! ## The token (R354) -/

/-- An activity takes the token and runs. -/
def startActivity (a : Nat) (mask : BitVec 24) (s : State) : State :=
  let s := modMnt (fun m => { m with running := a }) s
  if a = CAL_SWEEP then modMnt (fun m => { m with sweepLeft := linesOf mask, calibrated := 0, skipped := 0 }) s
  else if a = RESYNC_ALL then startResync s
  else s

/-- The token is granted in RUN only; queued activities run in order of arrival (R354, R451). -/
def grantToken (s : State) : State :=
  match s.mnt.queue with
  | q :: rest =>
    if s.mnt.running = 0 && takesDescriptors s && !s.dev.failed then startActivity q.1 q.2 (modMnt (fun m => { m with queue := rest }) s) else s
  | [] => s

def maintKnown (s : State) (a : Nat) : Bool := s.mnt.running == a || s.mnt.queue.any fun q => q.1 == a

/-- A descriptor asks for the token (R354). -/
def requestMaint (a : Nat) (mask : BitVec 24) (h : Held) (s : State) : State :=
  if maintKnown s a then done h ST_MAINT_QUEUED s
  else if s.mnt.running = 0 && s.mnt.queue.isEmpty then startActivity a mask (setKind h (.maint a) s)
  else done h ST_MAINT_QUEUED (modMnt (fun m => { m with queue := m.queue ++ [(a, mask)] }) s)

/-- The device itself asks for the token (R451). -/
def deviceMaint (a : Nat) (s : State) : State :=
  if maintKnown s a then s
  else grantToken (modMnt (fun m => { m with queue := m.queue ++ [(a, 0)], deviceStarted := m.deviceStarted + 1 }) s)

/-- An activity ends with its status and results; the token passes on. -/
def endActivity (seq0 a status : Nat) (w4 w5 : Word) (s : State) : State :=
  let held := s.port.held.filter fun h => h.kind == .maint a
  let s := modMnt (fun m => { m with running := 0, lastActivity := a, lastStatus := status }) s
  let s := held.foldl (fun s h => finishMirrored seq0 h status w4 w5 0 0 s) s
  grantToken (postEvent 0x8050 (payload [a, 0] ++ leBytes 2 status ++ leBytes 4 w4.toNat) s)

/-! ## Ends of the activities -/

/-- The patrol, which began at its saved position, ends (R453): rewritten data flash pages take spare pages; without one left it is incomplete, and
its position stands where it was saved last. -/
def endPatrol (r : PatrolResult) (s : State) : State :=
  let pages := r.pagesRewritten - r.sectors
  let full := pages ≤ s.nv.spareLeft
  let taken := min pages s.nv.spareLeft
  let rewritten := taken + min r.sectors r.pagesRewritten
  let s := modMnt (fun m => { m with pagesChecked := w r.pagesRead, pagesRefreshed := w rewritten, patrolDue := if full then 0 else m.patrolDue }) s
  let s := modNv (fun n => { n with
    refreshedTotal := n.refreshedTotal + w rewritten, sectorsRefreshed := n.sectorsRefreshed + w r.sectors,
    spareLeft := n.spareLeft - taken, refreshBuffer := false, elapsedS := elapsedNow s, opS := opNow s,
    patrolLastS := if full then elapsedNow s else n.patrolLastS, patrolLastOpS := if full then opNow s else n.patrolLastOpS,
    patrolPos := if full then 0 else w ((n.patrolPos.toNat + r.pagesRead) / 64 * 64), patrolRuns := if full then n.patrolRuns + 1 else n.patrolRuns }) s
  endActivity s.twin.mirrorSeq PATROL (if full then ST_OK else ST_MAINT_NO_SPARE) (w rewritten) 0 s

/-- The sweep ends once every line of its mask has been taken (R454). -/
def endCalSweep (s : State) : State :=
  let s := skipLines s
  if !s.mnt.sweepLeft.isEmpty || s.sched.blocks.any (fun b => b.svc == SWEEP) then s
  else
    let good := s.mnt.calibrated.setWidth 32
    let bad := s.mnt.skipped.setWidth 32
    let s := modMnt (fun m => { m with calRuns := m.calRuns + 1, calLast := good, calFail := bad }) s
    endActivity s.twin.mirrorSeq CAL_SWEEP ST_OK good bad s

/-- The status of a TWIN_RESYNC that the SIDING passed on goes to it as a change record of its own (14 R397; DESIGN CHOICE, assumption log 28). -/
def answerResync (status : Nat) (s : State) : State :=
  if s.twin.askedResync then mirrorChange [.resyncStatus status] (modTwin (fun t => { t with askedResync := false }) s) else s

/-- A resynchronisation ends once the twin has acknowledged snapshot and changes (14 R397), or stands no more. -/
def endResync (s : State) : State :=
  if !twinStands s then
    let s := modTwin (fun t => { t with resyncSeq := none, resyncDue := true, askedResync := false }) s
    endActivity s.twin.mirrorSeq RESYNC_ALL ST_TWIN_NO_PEER 0 0 s
  else if !s.twin.backlog.isEmpty then s
  else
    let seq0 := s.twin.mirrorSeq
    let s := modTwin (fun t => { t with resyncSeq := none, resyncDue := false, overflowed := false, mirrored := true, resyncs := t.resyncs + 1 }) s
    endActivity seq0 RESYNC_ALL ST_OK 0 0 (answerResync ST_OK s)

def endCompact (s : State) : State :=
  let seq0 := s.twin.mirrorSeq
  let (s, n) := compactRoster s
  endActivity seq0 COMPACT ST_OK (w n) 0 (modMnt (fun m => { m with compactRuns := m.compactRuns + 1 }) s)

/-- MAINT_ACTIVITY_END (R354). -/
def execMaintActivityEnd (patrol : PatrolResult) (s : State) : Host.Outcome State Fault Refusal :=
  if !isRunning s then .next s
  else match s.mnt.running with
    | 1 => .next (endPatrol patrol s)
    | 2 => .next (endCalSweep s)
    | 3 => .next (endResync s)
    | 4 => .next (endCompact s)
    | _ => .next s

/-! ## Time kept (R452) -/

/-- The clock moves to an elapsed second. -/
def advanceToElapsed (t : Nat) (s : State) : State := if elapsedNow s < t then advance (clkS (t - elapsedNow s)) s else s

/-- Why a patrol is due: 1 days, 2 hours. -/
def patrolCause (s : State) : Option Nat :=
  if par s (maintId 0) * 86400 ≤ elapsedNow s - s.nv.patrolLastS then some 1
  else if par s (maintId 1) * 3600 ≤ opNow s - s.nv.patrolLastOpS then some 2
  else none

def patrolOverdue (s : State) : Bool :=
  3 * par s (maintId 0) * 86400 ≤ 2 * (elapsedNow s - s.nv.patrolLastS) || 3 * par s (maintId 1) * 3600 ≤ 2 * (opNow s - s.nv.patrolLastOpS)

/-- PATROL_HOURLY_CHECK (R452). -/
def execPatrolHourlyCheck (s : State) : Host.Outcome State Fault Refusal :=
  if !isRunning s then .next s
  else
    let s := advanceToElapsed (s.mnt.checkS + 3600) s
    let s := modMnt (fun m => { m with checkS := elapsedNow s }) s
    match patrolCause s with
    | none => .next s
    | some c =>
      let s := if maintKnown s PATROL then s else postEvent 0x8401 (payload [c]) (deviceMaint PATROL s)
      let was := s.mnt.patrolDue
      let now := if patrolOverdue s then 2 else max 1 was
      let s := modMnt (fun m => { m with patrolDue := now }) s
      if now = 2 ∧ was ≠ 2 then .next (postEvent 0x8402 (leBytes 2 ((elapsedNow s - s.nv.patrolLastS) / 86400)) s) else .next s

/-- ELAPSED_TIME_SAVE (R452). -/
def execElapsedTimeSave (s : State) : Host.Outcome State Fault Refusal :=
  if !isRunning s then .next s
  else
    let s := advanceToElapsed (s.mnt.saveS + 86400) s
    .next (modNv (fun n => { n with elapsedS := elapsedNow s, opS := opNow s }) (modMnt (fun m => { m with saveS := elapsedNow s }) s))

/-- LEDGER_STEP (13 R373): the ledger's 1 ms; self-tests that waited run (R444), a chain target activates as soon as it may (15 R438), and demands
of R221 are raised where blocks run at all. -/
def execLedgerStep (sensors : List Int) (vbatMv : Nat) (s : State) : Host.Outcome State Fault Refusal :=
  let s := chainActivate (settleSelftests (ledgerTick sensors vbatMv s))
  .next (if blocksWork s then standingDemands s else s)

/-! ## Commands (12 R353, R354) -/

def execMaintRefresh (ring : Nat) (s : State) : Host.Outcome State Fault Refusal := cmdPlain ring 0x0E01 (requestMaint PATROL 0) s

def maintCalSweep (h : Held) (s : State) : State :=
  if h.a0.truncate 24 = (0 : BitVec 24) then done h ST_OK s else requestMaint CAL_SWEEP (h.a0.truncate 24) h s

def execMaintCalSweep (ring : Nat) (s : State) : Host.Outcome State Fault Refusal := cmdPlain ring 0x0E02 maintCalSweep s

def maintCancel (h : Held) (s : State) : State :=
  let a := h.a0.toNat
  if a = 0 || 4 < a then done h ST_BAD_ARG s
  else if s.mnt.queue.any fun q => q.1 == a then
    done1 h ST_OK 1 (modMnt (fun m => { m with queue := m.queue.filter fun q => q.1 != a, cancelled := m.cancelled + 1 }) s)
  else done1 h ST_OK 0 s

def execMaintCancel (ring : Nat) (s : State) : Host.Outcome State Fault Refusal := cmdPlain ring 0x0E03 maintCancel s

def maintStatus (h : Held) (s : State) : State := finish h ST_OK (w s.mnt.running) (w (maintQueued s)) 0 0 s

def execMaintStatus (ring : Nat) (s : State) : Host.Outcome State Fault Refusal := cmdPlain ring 0x0E04 maintStatus s

/-- ROSTER_COMPACT (05 R177). -/
def execRosterCompact (ring : Nat) (s : State) : Host.Outcome State Fault Refusal := cmdPlain ring 0x0506 (requestMaint COMPACT 0) s

end Sys2Proof.Machine
end

