-- ==== Sys2Proof/Machine/HostCmds.lean ====
section
/-!
DEFINITION. Sys2Proof/Machine/HostCmds.lean: the SYS_, PARAM_, RING_ and DIAG_ commands, and PWR_HEAT (12 R340 to R345, R355; 06 R194 to R197;
11 R326, R334; 13 R379; 14 R407 to R411; 16 R444, R449, R450).
-/
namespace Sys2Proof.Machine

/-! ## SYS_ (R340) -/

def sysReset (h : Held) (s : State) : State := if h.a0 = 0xA55A then resetDevice causeHost s else done h ST_BAD_ARG s

def execSysReset (ring : Nat) (s : State) : Host.Outcome State Fault Refusal := cmdPlain ring 0x0001 sysReset s

/-- SYS_XPM_READ (R194, R195). -/
def sysXpmRead (h : Held) (s : State) : State :=
  let b := h.a0.toNat
  let n := h.a1.toNat
  if n = 0 then done h ST_OK s
  else if islBlocks < b + n then done h ST_BAD_ARG s
  else doneBytes h (wordsBytes ((List.range n).map fun k => islBlock s (b + k))) 0 0 0 s

def execSysXpmRead (ring : Nat) (s : State) : Host.Outcome State Fault Refusal := cmdBuf ring 0x0002 sysXpmRead s

/-- The blocks of a host write, in order. -/
def xpmBlocks (h : Held) (s : State) : List StagedBlk :=
  (List.range h.a1.toNat).map fun k =>
    { blk := h.a0.toNat + k, data := winWord s (h.buf + 4 * k), seq := h.seq, ring := h.ring, idx := h.idx }

/-- SYS_XPM_WRITE (R194, R196). -/
def sysXpmWrite (h : Held) (s : State) : State :=
  let b := h.a0.toNat
  let n := h.a1.toNat
  if n = 0 then done h ST_OK s
  else if islBlocks < b + n || !(List.range n).all (fun k => hostMayWrite (b + k)) || h.len < 4 * n then done h ST_BAD_ARG s
  else if s.isl.session then
    if stageMax < hostStaged s + n then done h ST_XPM_FULL s
    else done h ST_QUEUED (modIsl (fun i => { i with staged := i.staged ++ xpmBlocks h s }) s)
  else queueWrites (xpmBlocks h s) (returnAreas h (setKind h .xpm s))

def execSysXpmWrite (ring : Nat) (s : State) : Host.Outcome State Fault Refusal := cmdBuf ring 0x0003 sysXpmWrite s

def busPgn (h : Held) : Nat := h.a0.toNat % 2 ^ 18
def busPrio (h : Held) : Nat := h.a0.toNat / 2 ^ 24 % 8
def busDest (h : Held) : Nat := h.a1.toNat % 256

/-- Payload lengths a mode takes (R409). -/
def busLength (mode dest n : Nat) : Bool :=
  match mode with
  | 0 => n ≤ 65535 && !(decide (1785 < n) && dest == 255)
  | 1 => n ≤ 8
  | _ => n ≤ 8 || n == 12 || n == 16 || n == 20 || n == 24 || n == 32 || n == 48 || n == 64

/-- SYS_BUS_SEND (R408, R409). -/
def sysBusSend (h : Held) (s : State) : State :=
  let data := bufBytes h s
  let ref := some (h.ring, h.idx)
  let held := setKind h .busSend s
  if !busLength (busMode s) (busDest h) h.len then done h ST_BAD_ARG s
  else if busMode s < 2 && busPgn h / 256 == PGN_PROP_A / 256 && data.take 2 == [0xB1, 0x01] then done h ST_BAD_ARG s
  else if s.bus.off then done h ST_BUS_OFF s
  else if !busTalks s || (busMode s < 2 && s.bus.addr == 254) then done h ST_BUS_NO_ADDRESS s
  else if busMode s = 2 then
    let ext := h.a0.getLsbD 31
    let id := h.a0.toNat % (if ext then 2 ^ 29 else 2 ^ 11)
    queueTx { frame := { id := id, ext := ext, fd := true, brs := h.a1.getLsbD 0, data := data }, ref := ref, last := true } held
  else sendMessage ref (busPrio h) (busPgn h) (busDest h) data held

def execSysBusSend (ring : Nat) (s : State) : Host.Outcome State Fault Refusal := cmdBuf ring 0x0004 sysBusSend s

/-- SYS_BUS_CLAIM (R407, R411): in mode 1 it declares. -/
def sysBusClaim (h : Held) (s : State) : State :=
  let name : Dword := BitVec.ofNat 64 (h.a1.toNat * 2 ^ 32 + h.a0.toNat)
  let addr := h.a2.toNat % 256
  if busMode s = 2 || 253 < addr then done h ST_BAD_ARG s
  else
    let s := modBus (fun b => { b with sessionName := some name }) s
    let s :=
      if busMode s = 1 then setAddr addr 1 s
      else if name = 0 || !busTalks s then s
      else claimAddress addr 1 s
    done1 h ST_OK (w s.bus.addr) s

def execSysBusClaim (ring : Nat) (s : State) : Host.Outcome State Fault Refusal := cmdPlain ring 0x0005 sysBusClaim s

/-! ## PARAM_ (R341 to R343) -/

def paramGet (h : Held) (s : State) : State :=
  let s := addressParam h.a0.toNat s
  match paramRead s h.a0.toNat with
  | some v => done1 h ST_OK v s
  | none => done h ST_PARAM_UNKNOWN s

def execParamGet (ring : Nat) (s : State) : Host.Outcome State Fault Refusal := cmdPlain ring 0x0101 paramGet s

/-- What a written parameter may set off: the island's own blocks, release decisions, demands. -/
def afterParams (s : State) : State := demandsForRequests (decideAll (refreshOwnBlocks (holdRadio s)))

def paramSet (h : Held) (s : State) : State :=
  let seq0 := s.twin.mirrorSeq
  let (t, st) := paramWrite h.a0.toNat h.a1 (addressParam h.a0.toNat s)
  let t := afterParams t
  finishMirrored seq0 h st ((paramRead t h.a0.toNat).getD 0) 0 0 0 t

def execParamSet (ring : Nat) (s : State) : Host.Outcome State Fault Refusal := cmdPlain ring 0x0102 paramSet s

def paramGetMany (h : Held) (s : State) : State :=
  let first := h.a0.toNat
  let n := h.a1.toNat
  if n = 0 then done h ST_OK s
  else if 2048 < n || 0x10000 < first + n then done h ST_BAD_ARG s
  else
    let s := if (List.range n).any (fun k => (first + k) / 2048 == 15) then wakeRadio s else s
    doneBytes h (wordsBytes ((List.range n).map fun k => (paramRead s (first + k)).getD 0)) 0 0 0 s

def execParamGetMany (ring : Nat) (s : State) : Host.Outcome State Fault Refusal := cmdBuf ring 0x0103 paramGetMany s

/-- Pairs applied in order up to the first that fails: the state, the status, how many came before it. -/
def writePairs : List (Nat × Word) → Nat → State → State × Nat × Nat
  | [], n, s => (s, ST_OK, n)
  | (id, v) :: rest, n, s =>
    let (t, st) := paramWrite id v (addressParam id s)
    if st = ST_OK then writePairs rest (n + 1) t else (t, st, n)

def paramSetMany (h : Held) (s : State) : State :=
  let n := h.a0.toNat
  let seq0 := s.twin.mirrorSeq
  if n = 0 then done h ST_OK s
  else if 512 < n || h.len < 8 * n then done h ST_BAD_ARG s
  else
    let pairs := (List.range n).map fun k => ((winWord s (h.buf + 8 * k)).toNat % 65536, winWord s (h.buf + 8 * k + 4))
    let (t, st, k) := writePairs pairs 0 s
    finishMirrored seq0 h st (w k) 0 0 0 (afterParams t)

def execParamSetMany (ring : Nat) (s : State) : Host.Outcome State Fault Refusal := cmdBuf ring 0x0104 paramSetMany s

/-- The value PARAM_SAVE saves of an item: the staged one where there is one. -/
def savedValue (s : State) (id : Nat) : Word := (Cells.find? s.staged id).getD (liveParam s id)

/-- A fresh settings area of the running bank (R343, R432). -/
def saveSettings (s : State) : State :=
  let b := (runBank s).blob
  let items := savedIds.foldl (fun c id => if savedValue s id = paramReset id then c else c ++ [(id, savedValue s id)]) []
  let fresh := fun (a : Area) =>
    { a with version := hdrSettings b, imageId := BitVec.ofNat 64 (imageIdNat b), generation := counterLive s 3, items := items,
             unmigrated := false, nonce := flashNonce s }
  drawFlash (modArea s.upd.bank fresh s)

def paramSave (h : Held) (s : State) : State :=
  let seq0 := s.twin.mirrorSeq
  if nonceLeft s then finishMirrored seq0 h ST_OK (w savedIds.length) 0 0 0 (mirrorChange [.paramSave] (saveSettings s))
  else done h ST_CTR_EXHAUSTED (retire s)

def execParamSave (ring : Nat) (s : State) : Host.Outcome State Fault Refusal := cmdPlain ring 0x0105 paramSave s

/-! ## RING_ (R344, R345; 11 R326, R334) -/

/-- RING_SETUP refused with ST_BAD_ARG (R326). -/
def ringSetupBad (s : State) (ring base size : Nat) : Bool :=
  let others := (s.port.rings.zipIdx.filter fun p => p.2 != ring && p.1.size != 0).map fun p => p.1
  decide (63 < ring) || decide (64 < size) || base % 32 != 0 || decide (windowBytes < base + 32 * size) ||
    others.any (fun r => decide (base < r.base + 32 * r.size) && decide (r.base < base + 32 * size)) ||
    decide (0x20000 < 32 * size + (others.map fun r => 32 * r.size).sum)

def ringSetup (h : Held) (s : State) : State :=
  let ring := h.a0.toNat
  let base := h.a1.toNat
  let size := h.a2.toNat
  let r := getRing s ring
  if size = 0 then done h ST_OK s
  else if ringSetupBad s ring base size then done h ST_BAD_ARG s
  else if r.take ≠ r.tail || s.port.held.any (fun x => x.ring == ring) then done h ST_RING_BUSY s
  else done h ST_OK (modRing ring (fun _ => { base := base, size := size, tail := 0, take := 0, free := 0, stalled := false }) s)

def execRingSetup (ring : Nat) (s : State) : Host.Outcome State Fault Refusal := cmdPlain ring 0x0201 ringSetup s

/-- RING_POST (R334): on RING3 a queued event completes it at once. -/
def ringPost (h : Held) (s : State) : State :=
  if h.ring = 3 then
    match s.port.evtQ with
    | e :: rest => deliverEvent h e (modPort (fun p => { p with evtQ := rest }) s)
    | [] => setKind h (.post 0) s
  else if h.a0 = 1 ∨ h.a0 = 2 then setKind h (.post h.a0.toNat) s
  else done h ST_BAD_ARG s

def execRingPost (ring : Nat) (s : State) : Host.Outcome State Fault Refusal := cmdBuf ring 0x0202 ringPost s

/-- The demand of a cancelled descriptor is no longer pending, unless another descriptor or the device itself raised it. -/
def withdrawDemands (p : Nat → Bool) (slot : Nat) (s : State) : State :=
  let f := fun (v : Svc) =>
    if p v.n then { v with demands := v.demands.filter fun x => x.own || x.uid.isSome || x.slot != slot } else v
  modSched (fun d => { d with svcs := d.svcs.map f }) s

/-- One descriptor RING_CANCEL may cancel (R345): the state once it is, none where it completes on its own. -/
def cancelHeld (h : Held) (s : State) : Option State :=
  let others := fun (k : HeldKind) => s.port.held.any fun x => x.kind == k && !(x.ring == h.ring && x.idx == h.idx)
  match h.kind with
  | .post _ => some (finish h ST_CANCELLED 0 0 0 h.written s)
  | .lockRequest o _ => some (decideAll (finish h ST_LOCK_CANCELLED (lockWord s o) (getLock s o).releases 0 0 s))
  | .svcDemand n slot =>
    some (done h ST_CANCELLED (if others h.kind then s else withdrawDemands (fun m => m == n) slot s))
  | .authKey slot =>
    some (done h ST_CANCELLED (if others h.kind then s else withdrawDemands (fun m => svcPar s m 0 == IMMO_AUTH) slot s))
  | .zoneFix slot =>
    some (done h ST_CANCELLED (if others h.kind then s else withdrawDemands (fun m => svcPar s m 0 == ZONE_TRACK) slot s))
  | .capture _ _ _ => some (done h ST_CANCELLED s)
  | _ => none

def ringCancel (h : Held) (s : State) : State :=
  let ring := h.a0.toNat
  if 63 < ring then done h ST_BAD_ARG s
  else
    let (t, n) := (s.port.held.filter fun x => x.ring == ring).foldl (fun (p : State × Nat) x =>
      match cancelHeld x p.1 with
      | some t => (t, p.2 + 1)
      | none => p) (s, 0)
    done1 h ST_OK (w n) t

def execRingCancel (ring : Nat) (s : State) : Host.Outcome State Fault Refusal := cmdPlain ring 0x0203 ringCancel s

/-! ## DIAG_ (R353, R355; 02 R57; 16 R444, R449, R450) -/

def ST_FLT_UNAVAILABLE : Nat := 0x0900

def diagTtRead (h : Held) (s : State) : State :=
  let src := h.a0.toNat
  let n := h.a2.toNat
  if n = 0 then done h ST_OK s
  else if 4 < src then done h ST_BAD_ARG s
  else doneBytes h (wordsBytes ((((timetable s src).drop h.a1.toNat).take n).flatMap (ttWords s))) 0 0 0 s

def execDiagTtRead (ring : Nat) (s : State) : Host.Outcome State Fault Refusal := cmdBuf ring 0x1001 diagTtRead s

def diagCapture (h : Held) (s : State) : State :=
  let line := h.a0.toNat % 32
  let quantity := h.a0.toNat / 256 % 8
  let n := h.a1.toNat
  if n = 0 then done h ST_OK s
  else if s.dev.failed then done h ST_FLT_UNAVAILABLE s
  else if 23 < line || 3 < quantity || 16383 < n || h.len < 4 * ceilDiv n 3 then done h ST_BAD_ARG s
  else setKind h (.capture line quantity n) s

def execDiagCapture (ring : Nat) (s : State) : Host.Outcome State Fault Refusal := cmdBuf ring 0x1002 diagCapture s

/-- DIAG_SELFTEST (R444): a background job, which waits where a test of its mask does. -/
def diagSelftest (fails : BitVec 12) (h : Held) (s : State) : State :=
  if 4096 ≤ h.a0.toNat then done h ST_BAD_ARG s
  else if selftestWaits s h then setKind h (.selftest fails) s
  else endSelftest fails h s

def execDiagSelftest (ring : Nat) (fails : BitVec 12) (s : State) : Host.Outcome State Fault Refusal :=
  cmdPlain ring 0x1003 (diagSelftest fails) s

def logWords (e : LogEntry) : List Word := [e.w0, e.w1, e.w2, e.w3]

def diagFaultLog (h : Held) (s : State) : State := doneBytes h (wordsBytes (s.nv.log.reverse.flatMap logWords)) 0 0 0 s

def execDiagFaultLog (ring : Nat) (s : State) : Host.Outcome State Fault Refusal := cmdBuf ring 0x1004 diagFaultLog s

def diagEcho (h : Held) (s : State) : State := finish h ST_OK h.a0 h.a1 h.a2 0 s

def execDiagEcho (ring : Nat) (s : State) : Host.Outcome State Fault Refusal := cmdPlain ring 0x1005 diagEcho s

/-! ## PWR_HEAT (13 R379) -/

/-- The ledger snapshot. -/
def heatWords (s : State) : List Word :=
  let waiting := s.sched.cands.countP fun c => c.decision == .waiting
  [BitVec.ofNat 32 (unsigned 16 (taEstDeci s) + budgetMw s * 65536),
   BitVec.ofNat 32 (s.pwr.pFilt / 2 ^ 32 / 1000 % 65536 + s.pwr.pNowUw / 1000 * 65536),
   BitVec.ofNat 32 (s.sched.blocks.length % 65536 + waiting * 65536), s.pwr.deferHeat] ++
    sampleRun (s.dev.sensors.map (unsigned 10)) ++ [(linesHeld s).setWidth 32]

def pwrHeat (h : Held) (s : State) : State := doneBytes h (wordsBytes (heatWords s)) 0 0 0 s

def execPwrHeat (ring : Nat) (s : State) : Host.Outcome State Fault Refusal := cmdBuf ring 0x0F02 pwrHeat s

end Sys2Proof.Machine
end

