-- ==== Sys2Proof/Machine/TwinLink.lean ====
section
/-!
DEFINITION. Sys2Proof/Machine/TwinLink.lean: the twin link as the device keeps it: sessions, accepted frames, link up and down, the backlog and
the results that wait for the twin (14 R386 to R388, R393, R396, R398, R402).
-/
namespace Sys2Proof.Machine

def paired (s : State) : Bool := s.twin.role != 0

/-- Clocks of twin.hb_timeout_ms. -/
def hbTimeout (s : State) : Nat := clkMs (par s (twinId 0))

/-- The twin supervisor works: in RUN and in sleep entry, and in FAILED, where the link still carries FAILED and RESET_REQ (R386, R400). -/
def twinWorks (s : State) : Bool := boxRuns s

/-! ## Sessions (R388) -/

/-- An attempt to bring the link up: a fresh session nonce (10 R300), and a HELLO that carries it. A spent per-boot counter gives none (10 R302);
a corrupt slot 3 is told, and gives no session key (10 R286). -/
def linkAttempt (s : State) : State :=
  if readSlot s 3 = .corrupt then corruptSlot 3 s
  else if !nonceLeft s then retire s
  else
    let n := sessionNonce s
    let s := bumpNonce (used 4 (modTwin (fun t => { t with myNonce := n, echoed := false }) s))
    sendTwin (.hello n s.twin.peerNonce s.twin.role s.nv.lastActive.toNat) s

/-- The link goes down (R388). -/
def linkGoesDown (s : State) : State :=
  if s.twin.linkUp then postEvent 0x8202 (payload [0]) (raiseTwin 1 (modTwin (fun t => { t with linkUp := false }) s)) else s

/-- The twin supervisor starts anew, as at the end of a wake or of an aborted entry (R364, R369): the link comes up again. -/
def restartTwin (s : State) : State :=
  if paired s then linkAttempt (modTwin (fun t => { t with hbClk := s.clk, frameClk := s.clk }) (linkGoesDown s)) else s

/-! ## Frames accepted (R388) -/

/-- Bytes 0 to 15 of a frame (R387), all associated data. -/
def frameHead (type len boot ctr : Nat) : List Byte := [BitVec.ofNat 8 type, 0] ++ leBytes 2 len ++ leBytes 4 boot ++ leBytes 8 ctr

/-- Type code of a frame (R388). A SIDING passes TWIN_RESYNC on in a MIRROR_ACK (assumption log 28). -/
def frameType : TwinMsg → Nat
  | .hello _ _ _ _ => 0x01
  | .heartbeat => 0x02
  | .mirror _ _ => 0x03
  | .mirrorAck _ => 0x04
  | .notify _ => 0x05
  | .notifyAck _ => 0x05
  | .drop _ => 0x05
  | .forceLock _ => 0x05
  | .noticeTable _ => 0x06
  | .sleep _ => 0x07
  | .sleepAck _ => 0x07
  | .failed _ _ => 0x08
  | .resetReq => 0x09
  | .unpair => 0x0A
  | .resync => 0x04
  | .pairHello _ => 0x10
  | .pairKey _ => 0x11
  | .pairConfirm _ => 0x12
  | .pairDone => 0x13

/-- The sequence number that no change has: a MIRROR_ACK of it asks for a resynchronisation (R397; DESIGN CHOICE, assumption log 28). -/
def resyncMark : Nat := 0xFFFFFFFF

/-- Payload of a frame (R388): what travels in clear as associated data, and what is encrypted. The rules give the fields, and of HELLO's
nonces, of the mirror sequence and of the pairing messages the bytes; the others follow in their order, one byte each or as wide as the
field, numbers least significant first (DESIGN CHOICE, assumption log 28). -/
def framePayload : TwinMsg → List Byte × List Byte
  | .hello nonce echo role lastRole => (nonce, echo ++ zeros (16 - echo.length) ++ [BitVec.ofNat 8 role, BitVec.ofNat 8 lastRole])
  | .heartbeat => ([], [])
  | .mirror q recs => ([], leBytes 4 q ++ Config.recordBytes recs)
  | .mirrorAck q => ([], leBytes 4 q)
  | .notify o => ([], [BitVec.ofNat 8 o, 0])
  | .notifyAck o => ([], [BitVec.ofNat 8 o, 1])
  | .drop o => ([], [BitVec.ofNat 8 o, 2])
  | .forceLock o => ([], [BitVec.ofNat 8 o, 3])
  | .noticeTable outs => ([], [outs.setWidth 8])
  | .sleep target => ([], [BitVec.ofNat 8 target, 0])
  | .sleepAck target => ([], [BitVec.ofNat 8 target, 1])
  | .failed code arg => ([], leBytes 2 code.toNat ++ leBytes 2 arg.toNat)
  | .resetReq => ([], [])
  | .unpair => ([], [])
  | .resync => ([], leBytes 4 resyncMark)
  | .pairHello msg => (msg, [])
  | .pairKey msg => (msg, [])
  | .pairConfirm mac => (mac, [])
  | .pairDone => ([], [])

/-- A frame on the lane (R387), byte by byte after its comma; none where slot 3 holds no pair key. A pairing message carries no tag. -/
def wireFrame (s : State) (f : TwinFrame) : Option (List Byte) :=
  let (clear, body) := framePayload f.msg
  let head := frameHead (frameType f.msg) (clear.length + body.length) f.boot f.ctr
  if 0x10 ≤ frameType f.msg then some (head ++ clear)
  else (twinSessionKey s f.nonce).map fun key =>
    head ++ clear ++ ccmSeal key (leBytes 4 f.boot ++ leBytes 8 f.ctr ++ [BitVec.ofNat 8 f.purpose]) (head ++ clear) body 8

/-- A frame's payload in clear, where its CCM check passes under the key of a session nonce; `clear` bytes of the payload travel in clear, as
associated data (DEDUCED, assumption log 27). The receiver takes the purpose byte of either sender. -/
def frameOpen (s : State) (type clear : Nat) (nonce : List Byte) (h : FrameHdr) : Option (List Byte) :=
  if h.tag.length ≠ 8 || 1024 < h.payload.length then none
  else
    (twinSessionKey s nonce).bind fun key =>
      let under := fun (active : Bool) =>
        ccmOpen key (leBytes 4 h.boot ++ leBytes 8 h.ctr ++ [BitVec.ofNat 8 (twinPurpose active)]) (frameHead type h.payload.length h.boot h.ctr ++ h.payload.take clear)
          (h.payload.drop clear) h.tag
      under true <|> under false

/-- The CCM check of a frame other than HELLO: under the key of its sender's current session nonce. -/
def authentic (s : State) (type : Nat) (h : FrameHdr) : Bool :=
  !s.twin.peerNonce.isEmpty && (frameOpen s type 0 s.twin.peerNonce h).isSome

/-- A dropped frame: counted, and mirror_auth set where CCM failed, its quarantined payload being zeroised (10 R295). -/
def dropFrame (ccmFailed : Bool) (s : State) : State :=
  let s := raise 0x1A6 1 (modTwin (fun t => { t with linkErr := satSucc 0xFFFF t.linkErr, framesBad := t.framesBad + 1 }) s)
  if ccmFailed then raiseTwin 3 (modSec (fun x => { x with zeroised := x.zeroised + 1 }) s) else s

/-- Boot count and per-boot counter exceed those of the last frame accepted in this session. -/
def frameNewer (s : State) (h : FrameHdr) : Bool :=
  !s.twin.rxAny || s.twin.rxBoot < h.boot || (s.twin.rxBoot == h.boot && s.twin.rxCtr < h.ctr)

/-- A frame is accepted: its counters are the last. -/
def noteFrame (h : FrameHdr) (s : State) : State :=
  modTwin (fun t => { t with rxAny := true, rxBoot := h.boot, rxCtr := h.ctr, frameClk := s.clk }) s

/-- The device exchanges frames: it is paired, or in the ceremony past step 5 (R390). -/
def exchanges (s : State) : Bool := paired s || 4 ≤ s.twin.pairStep

/-- Take a frame of a type (R388) other than HELLO: what it does where it is accepted. Session keys are those of an exchange of nonces, so a
frame is taken only once one stands. -/
def takeFrame (type : Nat) (h : FrameHdr) (body : State → State) (s : State) : State :=
  if !(twinWorks s && exchanges s) then s
  else if readSlot s 3 = .corrupt then dropFrame true (corruptSlot 3 s)
  else if !authentic s type h then dropFrame true s
  else if !frameNewer s h then dropFrame false s
  else body (noteFrame h (aesJob s))

/-- A frame that only a device which is not FAILED acts on; a FAILED device accepts RESET_REQ alone (R400). -/
def takeWhole (type : Nat) (h : FrameHdr) (body : State → State) (s : State) : State :=
  takeFrame type h (fun s => if s.dev.failed then s else body s) s

/-! ## Results that wait for the twin (R396) -/

/-- Results and counters that waited for acknowledgements up to a sequence number go on. -/
def releaseUpTo (seq : Nat) (s : State) : State :=
  let ready := s.twin.withheld.filter fun x => x.seq ≤ seq
  let s := modTwin (fun t => { t with withheld := t.withheld.filter fun x => !decide (x.seq ≤ seq) }) s
  let s := ready.foldl (fun s x => complete x.ring x.idx x.status x.w4 x.w5 x.w6 x.rlen s) s
  let marks := s.sec.awaiting.filter fun x => x.1 ≤ seq
  let s := modSec (fun x => { x with awaiting := x.awaiting.filter fun y => !decide (y.1 ≤ seq) }) s
  freed (marks.foldl (fun s x => markDone x.2 s) s)

/-- The twin no longer stands: a solo ACTIVE waits for nothing; NOTIFYs stay until their own time (R393, R396). -/
def becomeSolo (s : State) : State :=
  let s := releaseUpTo s.twin.mirrorSeq s
  if s.twin.resyncSeq.isSome then endResync s else s

/-- Send the changes not yet acknowledged (R396); an overflowed backlog starts a resynchronisation instead. -/
def sendBacklog (s : State) : State :=
  if !(isActive s && twinStands s && s.twin.linkUp) then s
  else if s.twin.resyncSeq.isNone && (s.twin.overflowed || s.twin.resyncDue) then deviceMaint RESYNC_ALL s
  else s.twin.backlog.foldl (fun s b => sendMirror b.1 b.2 s) s

/-- Outputs in NOTIFY, CHARGING or RELEASED (R398). -/
def noticeOuts (s : State) : BitVec 4 :=
  BitVec.ofNat 4 (ofBits ([0, 1, 2, 3].map fun o => (getLock s o).state == NOTIFY || pumping s o))

end Sys2Proof.Machine
end

