-- ==== Sys2Proof/Machine/Power.lean ====
section
/-!
DEFINITION. Sys2Proof/Machine/Power.lean: entering a sleep state, wake sources and the wake order (13 R361 to R373; 14 R402; 12 R353).
-/
namespace Sys2Proof.Machine

/-! ## Entry (R367 to R371) -/

/-- PWR_SLEEP (R367): prepare begins, and what was written to items 6 to 9 takes effect (R381). -/
def pwrSleep (h : Held) (s : State) : State :=
  if h.a0 = 1 ∨ h.a0 = 2 then
    let target := h.a0.toNat
    modDev (fun d => { d with mode := .prepare }) (modPwr (fun p =>
      { p with target := target, sleepConf := (List.range 4).map fun i => par s (pwrId (6 + i)), latched := 0, prepareClk := s.clk, abortClk := none, preambleSeen := false, busFrameSeen := false,
               noticeSeen := false }) (modTwin (fun t => { t with sleepSentClk := none, sleepAcked := false }) (setKind h .sleepEntry s)))
  else done h ST_BAD_ARG s

def execPwrSleep (ring : Nat) (s : State) : Host.Outcome State Fault Refusal := cmdPlain ring 0x0F01 pwrSleep s

/-- The entry ends with a refusal (R371, R372): everything resumes, and a latched event is replayed as a wake from RUN. -/
def abortEntry (id phase : Nat) (s : State) : State :=
  let v := w (id + 256 * phase)
  let bits := s.pwr.latched
  let s := modDev (fun d => { d with mode := .run }) s
  let s := modPwr (fun p => { p with sleepAborted := true, sleepAborts := p.sleepAborts + 1, lastRefuser := v, latched := 0,
                                     abortClk := some s.clk }) (raise 0x189 4 s)
  let s := if s.twin.sleepSentClk.isSome then restartTwin (modTwin (fun t => { t with sleepSentClk := none }) s) else s
  let s := completeWhere (fun h => h.kind == .sleepEntry) ST_SLEEP_ABORTED v 0 0 s
  let s := if bits = 0 then s else replayWake bits s
  settle (grantToken (freed s))

/-- SLEEP_PREPARE_TIMEOUT (R368): pwr.prepare_ms after the take, the lowest participant still busy refuses. -/
def execSleepPrepareTimeout (s : State) : Host.Outcome State Fault Refusal :=
  if s.dev.mode ≠ .prepare then .next s
  else
    let s := advanceTo (s.pwr.prepareClk + clkMs (sleepItem s 6)) s
    match prepareRefuser s with
    | some id => .next (abortEntry id 0 s)
    | none => .next s

/-- Descriptors handed over since prepare began complete with ST_ASLEEP as the host port stops (R369). -/
def asleepFrom : Nat → State → State
  | 0, s => s
  | n + 1, s =>
    match (List.range 64).find? fun r => ringWaits (getRing s r) with
    | none => s
    | some r =>
      if headOwn s r then asleepFrom n (done (headHeld s r) ST_ASLEEP (takeHead r s)) else asleepFrom n (ringError r 1 s)

/-- What STABLED does to a source (R362): quadrature and tooth wheel sources lose sync without sync_lost and search again; of every edge
source the next edge is a first one. -/
def stableSource (a : AngleSrc) : AngleSrc :=
  let b := if a.kind = 1 ∨ a.kind = 2 then searchAgain a else a
  if 1 ≤ a.kind && a.kind ≤ 3 then { b with lastEdge := none, interval := 0 } else b

/-- The state is reached (R361, R362): no block is a candidate, the device's own demands are dropped, the radio is off. Requests that it had
not begun stay, as all state does (R361): their deadlines end them after the wake (09 R266; the rules do not say so: DESIGN CHOICE,
assumption log 18). -/
def enterSleep (s : State) : State :=
  let stabled := s.pwr.target == 2
  let bits := s.pwr.latched
  let s := modSched (fun d => { d with cands := [], svcs := d.svcs.map fun v => { v with demands := v.demands.filter fun x => !x.own } }) s
  let s := modRadio (fun r => { r with calRound := s.radio.calRound, wants := s.radio.queue ++ s.radio.wants }) (radioOff s)
  let s := if stabled then modTb (fun t => { t with src := t.src.map stableSource }) s else s
  let s := modPwr (fun p => { p with sleepEntries := p.sleepEntries + 1, asleepClk := s.clk, wakeStep := 0 }) s
  let s := modDev (fun d => { d with mode := if stabled then .stabled else .halt, ready := d.ready && !stabled }) s
  if bits = 0 then s else startWake (firstStep s) bits true s

/-- Past the twin supervisor only the radio can refuse (R369, R370). -/
def commitRadio (s : State) : State := if s.pwr.preambleSeen then abortEntry 4 1 s else enterSleep s

/-- The twin supervisor stops: where the twin stands it must have acknowledged the SLEEP frame (R402). -/
def commitTwin (s : State) : State :=
  if s.pwr.noticeSeen then abortEntry 9 1 s
  else if twinStands s then
    sendTwinUp (.sleep s.pwr.target) (modTwin (fun t => { t with sleepSentClk := some s.clk, sleepAcked := false }) s)
  else commitRadio s

/-- SLEEP_COMMIT (R369): every participant has agreed; they stop in the reverse of the logic order. -/
def execSleepCommit (s : State) : Host.Outcome State Fault Refusal :=
  if s.dev.mode ≠ .prepare ∨ prepareRefuser s ≠ none then .next s
  else
    let s := asleepFrom 4160 (modDev (fun d => { d with mode := .commit }) s)
    if s.pwr.busFrameSeen then .next (abortEntry 10 1 s) else .next (commitTwin s)

/-- The wait of a commit for SLEEP_ACK. -/
def awaitsSleepAck (s : State) : Bool := s.dev.mode == .commit && s.twin.sleepSentClk.isSome && !s.twin.sleepAcked

/-- SLEEP_ACK (R402): the commit goes on. -/
def execSleepAck (h : FrameHdr) (target : Nat) (s : State) : Host.Outcome State Fault Refusal :=
  .next (takeWhole 0x07 h (fun s =>
    if awaitsSleepAck s && target == s.pwr.target then
      let s := modTwin (fun t => { t with sleepAcked := true }) s
      if s.pwr.noticeSeen then abortEntry 9 1 s else commitRadio s
    else s) s)

/-- SLEEP_ACK_TIMEOUT (R402): 1 ms after the SLEEP frame. -/
def execSleepAckTimeout (s : State) : Host.Outcome State Fault Refusal :=
  match s.twin.sleepSentClk with
  | some t => if awaitsSleepAck s then .next (abortEntry 9 1 (advanceTo (t + clkMs 1) s)) else .next s
  | none => .next s

/-! ## Wake sources (R366) -/

/-- Counted edges of some source with wake_en reach pwr.angle_wake_edges within 1 s. -/
def angleWakes (s : State) : Bool :=
  s.tb.src.any fun a => a.wakeEn && sleepItem s 9 ≤ (a.wakeEdges.filter fun e => s.clk ≤ e + clkS 1).length

/-- A phase of a CAN wake-up pattern counts: longer than 1.8 µs it does, shorter than 0.5 µs it does not, tFilter lies between (14 R412). -/
def phaseCounts (ns : Nat) : Bool := if 1800 < ns then true else if ns < 500 then false else Config.canPhaseCounts ns

/-- A CAN wake-up pattern completes within tWake, 0.8 ms to 1.2 ms (14 R412). -/
def patternInTime (ns : Nat) : Bool := if ns < 800000 then true else if 1200000 < ns then false else Config.canPatternInTime ns

/-- The wake source that a cause is of, where it satisfies that source (R366, 14 R412); the enables are looked at apart. -/
def wakeSource (s : State) (c : WakeCause) : Option Nat :=
  match c with
  | .spi => some 0
  | .canLevel ns => if sleepItem s 7 = 0 ∧ 5000 < ns then some 1 else none
  | .canPattern d r e whole =>
    -- with pwr.can_wake 0 a dominant phase of the pattern is a level like any other
    if sleepItem s 7 = 0 then (if 5000 < max d e then some 1 else none)
    else if phaseCounts d && phaseCounts r && phaseCounts e && patternInTime whole then some 1 else none
  | .hitchCode code => if par s (hitchId 0) ≠ 0 ∧ sleepItem s 8 = 0 ∧ codeWakes s code then some 2 else none
  | .hitchLead cyc => if par s (hitchId 0) ≠ 0 ∧ sleepItem s 8 = 1 ∧ 32 ≤ cyc then some 2 else none
  | .angle => if angleWakes s then some 3 else none

/-- WAKE_SOURCE_EVENT (R366, R372). -/
def execWakeSourceEvent (cause : WakeCause) (s : State) : Host.Outcome State Fault Refusal :=
  match wakeSource s cause with
  | some src => .next (wakeEvent src s)
  | none => .next s

/-- The wake timer may still expire (R366): in a sleep state, and in the wake order while its time is not past. -/
def timerRuns (s : State) : Bool :=
  s.pwr.wakeTmr != 0 && (s.dev.mode == .halt || s.dev.mode == .stabled ||
    (s.dev.mode == .waking && decide (s.clk ≤ s.pwr.asleepClk + clkMs s.pwr.wakeTmr.toNat)))

/-- WAKE_TIMER_EXPIRY (R366): WAKE_TMR ms after the state was reached; 0 sets no timer. In the wake order it only sets its bit, or joins the
event of the same clock. -/
def execWakeTimerExpiry (s : State) : Host.Outcome State Fault Refusal :=
  if timerRuns s && wakeEnabled s 4 then
    .next (wakeEvent 4 (advanceTo (s.pwr.asleepClk + clkMs s.pwr.wakeTmr.toNat) s))
  else .next s

/-! ## Wake order (R364, R365) -/

/-- The longest a step may take, in µs (R364). -/
def stepLimitUs : Nat := 10000

/-- A wake step does not report ready within 10 ms: the always-on domain resets the device (R364, 16 R448, R450). -/
def wakeStepFails (s : State) : State := watchdogReset 0x0011 s.pwr.wakeStep (advance (clkUs stepLimitUs) s)

/-- The radio is powered in RUN, but not in a SIDING device, and in SLEEP (09 R261). Until a round of background calibration is complete,
the sensors are compared with their readings now (R270; DESIGN CHOICE, assumption log 18). -/
def radioUp (s : State) : State :=
  if isRunning s && !isSiding s then modRadio (fun r => { r with on := true, state := 0, locked := false, bgTemp := s.dev.sensors }) (takeConf s) else s

/-- The sources after a sleep state: entries passed in it neither fire nor count (R362), and after STABLED stall_ms counts from here (02 R44). -/
def wakeSources (stabled : Bool) (s : State) : State :=
  let s := if stabled then modTb (fun t => { t with src := t.src.map fun a => { a with startClk := s.clk } }) s else s
  (List.range 5).foldl (fun s n => skipEntries n s) s

/-- The end of the logic step (R364, R365, R373): the participants have restarted. The island's own
blocks that wait are written on (06 R187). -/
def endWake (s : State) : State :=
  let stabled := s.pwr.target == 2
  let s := wakeSources stabled s
  let asleep := s.pwr.wokeClk - s.pwr.asleepClk
  let us := (s.clk - s.pwr.wokeClk) / 32
  let keep := expNeg asleep (clkS (pwrConf s 4))
  let s := modPwr (fun p => { p with lastWake := lowestWake p.latched, wakeUs := w us, wakeStep := 0,
                                     pFilt := p.pFilt * keep / 2 ^ 32, ledgerClk := s.clk, latched := 0,
                                     stabledClk := if stabled then p.stabledClk + asleep else p.stabledClk }) (raiseWake s.pwr.latched s)
  let s := modUpd (fun u => { u with confirmClk := if stabled then u.confirmClk + (s.clk - s.pwr.asleepClk) else u.confirmClk }) s
  let s := modDev (fun d => { d with mode := .run, ready := true }) s
  let s := restartTwin (radioUp s)
  let s := if stabled then busStart (par s (busId 3)) s else s
  let shown := if s.pwr.replayed then 0 else us
  let s := postEvent 0x8101 (payload [s.pwr.wakeSrc.toNat, s.pwr.replayed.toNat] ++ leBytes 2 (min shown 65535)) s
  settle (grantToken (freed (startNext (afterSession (completeWhere (fun h => h.kind == .sleepEntry) ST_OK 0 0 0 s)))))

/-- WAKE_STEP_READY (R364): `us` µs after the step began. -/
def execWakeStepReady (us : Nat) (s : State) : Host.Outcome State Fault Refusal :=
  if s.dev.mode ≠ .waking then .next s
  else if stepLimitUs < us then .next (wakeStepFails s)
  else
    let s := advance (clkUs us) s
    if s.pwr.wakeStep < 4 then .next (modPwr (fun p => { p with wakeStep := p.wakeStep + 1 }) s) else .next (endWake s)

/-- WAKE_STEP_TIMEOUT (R364). -/
def execWakeStepTimeout (s : State) : Host.Outcome State Fault Refusal :=
  if s.dev.mode ≠ .waking then .next s else .next (wakeStepFails s)

end Sys2Proof.Machine
end

