-- ==== Sys2Proof/Machine/KeyCmds.lean ====
section
/-!
DEFINITION. Sys2Proof/Machine/KeyCmds.lean: the key table, OTP, slot and lifecycle commands that need no engine, data flash writes, and
provisioning (07 R207 to R209; 10 R281 to R306; 12 R352).
-/
namespace Sys2Proof.Machine

/-- UID from two argument words, U0 to U3 first. -/
def uidOf (hi lo : Word) : Dword := BitVec.ofNat 64 (hi.toNat * 2 ^ 32 + lo.toNat)

/-! ## The key table (R208, R209) -/

/-- The demand of an enrolment: that of AUTH_KEY for an ACTIVE slot, the UID's own on every IMMO_AUTH service for an EMPTY one. -/
def enrolDemand (slot : Nat) (uid : Dword) (s : State) : State :=
  if (getKeyNv s slot).state = 1 then demandForKey IMMO_AUTH slot true s
  else (svcsOfType s IMMO_AUTH).foldl (fun s n => addDemand n { slot := 255, uid := some uid, own := true, clk := s.clk } s) s

def keyEnrol (h : Held) (s : State) : State :=
  let slot := h.a0.toNat % 256
  let rights : BitVec 5 := BitVec.ofNat 5 (h.a0.toNat / 256)
  let uid := uidOf h.a1 h.a2
  match enrolRefused s slot uid with
  | some st => done h st s
  | none => if proofFresh s uid then enrolProved h slot rights uid s else enrolDemand slot uid (setKind h (.enrol slot rights uid) s)

def execKeyEnrol (ring : Nat) (s : State) : Host.Outcome State Fault Refusal := cmdPlain ring 0x0B01 keyEnrol s

/-- Outputs in confirmed hold that a revoked key holds drop, unless another key qualifies (R209, R231). -/
def dropHeldBy (k cause : Nat) (s : State) : State :=
  [0, 1, 2, 3].foldl (fun s o =>
    let l := getLock s o
    if l.state = RELEASED ∧ l.items.hold ∧ l.holder = k then
      match qualifier s o l.items with
      | some j => modLock o (fun l => { l with holder := j }) s
      | none => dropOutput o cause s
    else s) s

/-- KEY_REVOKE may act (R209): the master rule, or the slot is that of the only masters' own. -/
def mayRevoke (s : State) (k : Nat) : Bool := masterOk s || (keyActive s k && keyRight s k 4)

def keyRevoke (h : Held) (s : State) : State :=
  let k := h.a0.toNat
  let n := getKeyNv s k
  let seq0 := s.twin.mirrorSeq
  if 32 ≤ k || n.state == 0 then done h ST_BAD_ARG s
  else if !mayRevoke s k then done h ST_KEY_NEEDS_MASTER s
  else if n.state = 2 then
    finishMirrored seq0 h ST_OK 0 0 0 0 (modKey k (fun _ => Key.reset KeyNv.empty) (putKeyNv k KeyNv.empty s))
  else
    let s := putKeyNv k { n with state := 2 } s
    let s := modKey k (fun q => { q with status := if q.status = 3 then 3 else 0, entryPosted := false }) s
    finishMirrored seq0 h ST_OK 0 0 0 0 (decideAll (dropHeldBy k 6 s))

def execKeyRevoke (ring : Nat) (s : State) : Host.Outcome State Fault Refusal := cmdPlain ring 0x0B02 keyRevoke s

/-- One slot as KEY_LIST shows it (R352). -/
def keyListEntry (s : State) (k : Nat) : List Byte :=
  let n := getKeyNv s k
  [BitVec.ofNat 8 n.state, n.rights.setWidth 8, 0, 0] ++ beBytes 8 n.uid.toNat ++ leBytes 4 (getKey s k).ctrLast.toNat

def keyList (h : Held) (s : State) : State :=
  let first := h.a0.toNat
  let n := h.a1.toNat
  if n = 0 then done h ST_OK s
  else if 31 < first then done h ST_BAD_ARG s
  else doneBytes h ((List.range (min n (32 - first))).flatMap fun k => keyListEntry s (first + k)) 0 0 0 s

def execKeyList (ring : Nat) (s : State) : Host.Outcome State Fault Refusal := cmdBuf ring 0x0B03 keyList s

/-! ## OTP (R282, R283) -/

def keyOemRoot (h : Held) (s : State) : State :=
  if h.len < 96 then done h ST_BAD_ARG s
  else if s.nv.lifecycle ≠ lcProvisioned ∨ oemRootSet s then done h ST_LC_REFUSED s
  else done h ST_OK (otpBurn 0xB0 (sha384 (winRead s h.buf 96)) s)

def execKeyOemRoot (ring : Nat) (s : State) : Host.Outcome State Fault Refusal := cmdBuf ring 0x0B04 keyOemRoot s

/-- Rows of the OEM area. -/
def oemRows : Nat := 448

def keyOtpWrite (h : Held) (s : State) : State :=
  let row := h.a0.toNat
  let n := h.a1.toNat
  if n = 0 then done h ST_OK s
  else if oemRows < row + n || h.len < 32 * n || (otpRead s (0x800 + 32 * row) (32 * n)).any (fun b => b != 0) then done h ST_BAD_ARG s
  else done h ST_OK (otpBurn (0x800 + 32 * row) (winRead s h.buf (32 * n)) s)

def execKeyOtpWrite (ring : Nat) (s : State) : Host.Outcome State Fault Refusal := cmdBuf ring 0x0B05 keyOtpWrite s

/-- Bytes KEY_OTP_READ gives (R283): UID, HUK as 0, root hashes, thermometer, certificate, OEM area. -/
def otpReadable (a : Nat) : Bool := (0x40 ≤ a && a < 0x48) || (0x60 ≤ a && a < 0x4000)

def keyOtpRead (h : Held) (s : State) : State :=
  let a := h.a0.toNat
  if 0x4000 < a + h.len || !(List.range h.len).all (fun i => otpReadable (a + i)) then done h ST_BAD_ARG s
  else doneBytes h ((otpRead s a h.len).zipIdx.map fun p => if 0x60 ≤ a + p.2 ∧ a + p.2 < 0x80 then 0 else p.1) 0 0 0 s

def execKeyOtpRead (ring : Nat) (s : State) : Host.Outcome State Fault Refusal := cmdBuf ring 0x0B06 keyOtpRead s

/-! ## Slots (R287, R291) -/

def keyHitchEnrol (h : Held) (s : State) : State :=
  if destroyWaits s 4 then done h ST_KEY_EMPTY s
  else match readSlot s 4 with
  | .empty => done h ST_KEY_EMPTY s
  | .corrupt => done h ST_KEY_CORRUPT (corruptSlot 4 s)
  | .key _ km =>
    let kt := kdf128 km (ascii "ILK-TAG") (uidBytes s)
    done h ST_OK (enrolHitch 0 2 kt s)

def execKeyHitchEnrol (ring : Nat) (s : State) : Host.Outcome State Fault Refusal := cmdPlain ring 0x0B0A keyHitchEnrol s

def keyDestroy (h : Held) (s : State) : State :=
  if !importSlot h.a0.toNat || (destroyNeedsSignature h s && decide (h.len < 96)) then done h ST_BAD_ARG s
  else if destroyNeedsSignature h s then inTurn h destroySigned s
  else destroyOrWait h s

def execKeyDestroy (ring : Nat) (s : State) : Host.Outcome State Fault Refusal :=
  .next (runCmd ring 0x0B0B destroyNeedsSignature noExtra keyDestroy s)

/-! ## Counters and data flash (R301, R302) -/

/-- The value that the last advance of a counter has reached, or will reach once its mark is written (R301, R302). -/
def counterReached (s : State) (n : Nat) : Word :=
  (s.sec.flash.filterMap fun f => match f with
    | .counter m v _ _ => if m = n then some v else none
    | _ => none).getLast?.getD (counterLive s n)

def keyCtrAdvance (h : Held) (s : State) : State :=
  let n := h.a0.toNat
  let step := h.a1.toNat
  let v := (counterReached s n).toNat
  if step = 0 then done h ST_OK s
  else if n < 16 || 63 < n || 256 < step then done h ST_BAD_ARG s
  else if v = 0xFFFFFFFF then done h ST_CTR_EXHAUSTED (retire s)
  else
    let x : Word := BitVec.ofNat 32 (min (v + step) 0xFFFFFFFF)
    if x < counterMark s n then done1 h ST_OK x (setLiveCounter n x s)
    else modSec (fun c => { c with flash := c.flash ++ [.counter n x h.ring h.idx] }) (setKind h .counter s)

def execKeyCtrAdvance (ring : Nat) (s : State) : Host.Outcome State Fault Refusal := cmdPlain ring 0x0B12 keyCtrAdvance s

/-- FLASH_WRITE_COMPLETE (R301; 07 R211): the oldest data flash work ends, and what waited for it proceeds. -/
def execFlashWriteComplete (s : State) : Host.Outcome State Fault Refusal :=
  match s.sec.flash with
  | [] => .next s
  | f :: rest =>
    let s := modSec (fun x => { x with flash := rest }) s
    match f with
    | .counter n v ring idx =>
      .next (complete ring idx ST_OK v 0 0 0 (setLiveCounter n v (if (counterMark s n) ≤ v then setMark n (markFor v.toNat) s else s)))
    | .patrol => .next s
    | f => .next (keyMarkWritten f s)

/-! ## Certificate and lifecycle (R303, R305) -/

/-- Length of a DER object from its header; 0 where there is none. -/
def derLength (bs : List Byte) : Nat :=
  let b := fun i => (bs.getD i 0).toNat
  if b 0 ≠ 0x30 then 0
  else min bs.length (if b 1 < 0x80 then 2 + b 1 else if b 1 = 0x81 then 3 + b 2 else if b 1 = 0x82 then 4 + 256 * b 2 + b 3 else 0)

def certificate (s : State) : List Byte :=
  let bs := otpRead s 0x160 1696
  bs.take (derLength bs)

def keyCertRead (h : Held) (s : State) : State := doneBytes h (certificate s) 0 0 0 s

def execKeyCertRead (ring : Nat) (s : State) : Host.Outcome State Fault Refusal := cmdBuf ring 0x0B14 keyCertRead s

def keyLifecycle (h : Held) (s : State) : State :=
  let target := h.a0.toNat
  if !(target = lcField || target = lcReturned) || h.len < 96 then done h ST_BAD_ARG s
  else inTurn h lifecycleSigned s

def execKeyLifecycle (ring : Nat) (s : State) : Host.Outcome State Fault Refusal := cmdBuf ring 0x0B15 keyLifecycle s

/-- What the Brixqua root signs of a provisioning record. The spec does not say what a record holds: the certificate and the image key, in
that order (DESIGN CHOICE, assumption log 37). -/
def provisioningDigest (cert imgKey : List Byte) : List Byte := sha384 (cert ++ imgKey)

/-- VENDOR_PROVISIONING (R305): a record signed by the Brixqua root. Its intent holds the record, so that a boot can carry it out (R306). -/
def execVendorProvisioning (cert imgKey sig : List Byte) (s : State) : Host.Outcome State Fault Refusal :=
  if !(isRunning s && s.nv.lifecycle == lcBlank && signedByRoot (brixquaHash s) (provisioningDigest cert imgKey) sig && imgKey.length == 32 && decide (cert.length ≤ 1696)) then .next s
  else
    let s := modNv (fun n => { n with intent := some lcProvisioned, intentCert := cert, intentKey := imgKey }) (locksStatic s)
    .next (resetDevice causeLifecycle (finishTransition lcProvisioned s))

end Sys2Proof.Machine
end

