-- ==== Sys2Proof/Machine/ServiceCmds.lean ====
section
/-!
DEFINITION. Sys2Proof/Machine/ServiceCmds.lean: the ROUTE_, SVC_, ROSTER_, AUTH_, LOCK_, ZONE_ and RANGE_ commands (12 R346 to R350; 03 R97;
05 R159 to R162; 07 R213, R229 to R234).
-/
namespace Sys2Proof.Machine

/-! ## ROUTE_ (R346) -/

/-- ROUTE_LINE_CLEAR (03 R97): word 4 the lines whose fault was cleared. -/
def routeLineClear (h : Held) (s : State) : State :=
  let m : BitVec 24 := h.a0.truncate 24 &&& faultedLines s
  if h.a0 = 0 then done h ST_OK s
  else done1 h ST_OK (m.setWidth 32) ((linesOf m).foldl (fun s l => modLine l (fun x => { x with fault := 0 }) s) s)

def execRouteLineClear (ring : Nat) (s : State) : Host.Outcome State Fault Refusal := cmdPlain ring 0x0301 routeLineClear s

def routeStatus (h : Held) (s : State) : State :=
  finish h ST_OK (w ((List.range 16).foldr (fun r n => routeState s r + 4 * n) 0)) ((faultedLines s).setWidth 32) 0 0 s

def execRouteStatus (ring : Nat) (s : State) : Host.Outcome State Fault Refusal := cmdPlain ring 0x0302 routeStatus s

/-! ## SVC_ (R346 to R348) -/

def svcDefine (h : Held) (s : State) : State :=
  let n := h.a0.toNat
  let seq0 := s.twin.mirrorSeq
  if 255 < n then done h ST_BAD_ARG s
  else
    let st := defineStatus s n
    if st ≠ ST_OK then done h st s
    else finishMirrored seq0 h ST_OK (w (entryCount s n)) 0 0 0 (mirrorChange [.svcDefine n] (defineSvc n s))

def execSvcDefine (ring : Nat) (s : State) : Host.Outcome State Fault Refusal := cmdPlain ring 0x0401 svcDefine s

def svcDefined (s : State) (n : Nat) : Bool := (findSvc s n).any fun v => v.defined

/-- A service's entries, candidates and demands go (R348). -/
def undefineSvc (n : Nat) (s : State) : State :=
  let s := modSvc n (fun v => { v with defined := false, demands := [], deferred := false, sweep := none }) s
  let s := modSched (fun d => { d with cands := d.cands.filter fun c => c.svc != n }) s
  completeWhere (fun h => match h.kind with
    | .svcDemand m _ => m == n
    | _ => false) ST_CANCELLED 0 0 0 s

def svcUndefine (h : Held) (s : State) : State :=
  let n := h.a0.toNat
  let seq0 := s.twin.mirrorSeq
  if !svcDefined s n then done h ST_BAD_ARG s
  else finishMirrored seq0 h ST_OK 0 0 0 0 (mirrorChange [.svcUndefine n] (undefineSvc n s))

def execSvcUndefine (ring : Nat) (s : State) : Host.Outcome State Fault Refusal := cmdPlain ring 0x0402 svcUndefine s

/-- The slot a demand names, by service type (R348); none where it is refused. -/
def demandSlot (type slot : Nat) : Option Nat :=
  if type = IMMO_AUTH then (if slot < 32 then some slot else none)
  else if type = ZONE_TRACK then (if slot < 32 ∨ slot = 255 then some slot else none)
  else some 255

def svcDemand (h : Held) (s : State) : State :=
  let n := h.a0.toNat
  if !svcDefined s n then done h ST_BAD_ARG s
  else match demandSlot (svcPar s n 0) h.a1.toNat with
    | none => done h ST_BAD_ARG s
    | some slot => addDemand n { slot := slot, uid := none, own := false, clk := s.clk } (setKind h (.svcDemand n slot) s)

def execSvcDemand (ring : Nat) (s : State) : Host.Outcome State Fault Refusal := cmdPlain ring 0x0403 svcDemand s

/-! ## ROSTER_ (R159, R160, R162, R349) -/

/-- The entry of a UID is pinned, or a new one declared: the handle, none where the roster is full. -/
def addPinned (uid : Dword) (s : State) : State × Option Nat :=
  let full := 512 ≤ pinnedCount s
  match findUid s uid with
  | some e =>
    if e.pinned then (s, some e.handle)
    else if full then (s, none)
    else (savePinned (modEntry e.handle (fun e => { e with pinned := true }) s), some e.handle)
  | none =>
    let k := firstFree s.roster.entries
    if k = 0x1000 ∨ full then (s, none) else (savePinned (putEntry (newEntry k uid DECLARED true) s), some k)

def rosterAdd (h : Held) (s : State) : State :=
  let seq0 := s.twin.mirrorSeq
  match addPinned (uidOf h.a0 h.a1) s with
  | (t, some k) => finishMirrored seq0 h ST_OK (w k) 0 0 0 t
  | (t, none) => done h ST_ROSTER_FULL t

def execRosterAdd (ring : Nat) (s : State) : Host.Outcome State Fault Refusal := cmdPlain ring 0x0501 rosterAdd s

def rosterFind (h : Held) (s : State) : State :=
  match findUid s (uidOf h.a0 h.a1) with
  | some e => done1 h ST_OK (w e.handle) s
  | none => done h ST_ROSTER_UNKNOWN s

def execRosterFind (ring : Nat) (s : State) : Host.Outcome State Fault Refusal := cmdPlain ring 0x0502 rosterFind s

/-- Words of a handle as ROSTER_GET copies them; 0 for a FREE one. -/
def handleWords (s : State) (k : Nat) : List Word := ((findEntry s k).map entryWords).getD (List.replicate 8 0)

def rosterGet (h : Held) (s : State) : State :=
  let first := h.a0.toNat
  let n := h.a1.toNat
  if n = 0 then done h ST_OK s
  else if 0xFFF < first then done h ST_BAD_ARG s
  else doneBytes h (wordsBytes ((List.range (min n (0x1000 - first))).flatMap fun k => handleWords s (first + k))) 0 0 0 s

def execRosterGet (ring : Nat) (s : State) : Host.Outcome State Fault Refusal := cmdBuf ring 0x0503 rosterGet s

def rosterSetOwner (h : Held) (s : State) : State :=
  let seq0 := s.twin.mirrorSeq
  match findEntry s h.a0.toNat with
  | none => done h ST_BAD_ARG s
  | some e =>
    let t := putEntry { e with owner := h.a1 } s
    finishMirrored seq0 h ST_OK 0 0 0 0 (if e.pinned then savePinned t else t)

def execRosterSetOwner (ring : Nat) (s : State) : Host.Outcome State Fault Refusal := cmdPlain ring 0x0504 rosterSetOwner s

def rosterDelete (h : Held) (s : State) : State :=
  let seq0 := s.twin.mirrorSeq
  match findEntry s h.a0.toNat with
  | none => done h ST_BAD_ARG s
  | some e =>
    if entryNamed s e.handle then done h ST_ROSTER_BOUND s
    else
      let t := freeEntry e.handle s
      finishMirrored seq0 h ST_OK 0 0 0 0 (if e.pinned then savePinned t else t)

def execRosterDelete (ring : Nat) (s : State) : Host.Outcome State Fault Refusal := cmdPlain ring 0x0505 rosterDelete s

/-! ## AUTH_ (R349, R350) -/

def authKey (h : Held) (s : State) : State :=
  let k := h.a0.toNat
  if 31 < k then done h ST_BAD_ARG s
  else if !keyActive s k then done h ST_AUTH_FAIL s
  else demandForKey IMMO_AUTH k false (setKind h (.authKey k) s)

def execAuthKey (ring : Nat) (s : State) : Host.Outcome State Fault Refusal := cmdPlain ring 0x0601 authKey s

def authStatus (h : Held) (s : State) : State :=
  let k := h.a0.toNat
  let q := getKey s k
  let n := getKeyNv s k
  if 31 < k then done h ST_BAD_ARG s
  else finish h ST_OK (w (q.status + 4 * q.zone + 16 * n.rights.toNat)) (w (ageMs s q.authClk + 65536 * ageMs s (q.fix.map fun f => f.clk)))
    q.refused 0 s

def execAuthStatus (ring : Nat) (s : State) : Host.Outcome State Fault Refusal := cmdPlain ring 0x0602 authStatus s

/-! ## LOCK_ (07 R229, R232 to R234) -/

/-- LOCK_REQUEST as the output's state asks (R232). -/
def lockRequest (h : Held) (s : State) : State :=
  let o := h.a0.toNat
  let end1 := fun (st : Nat) => finish h st (lockWord s o) (getLock s o).releases 0 0 s
  if 3 < o then done h ST_BAD_ARG s
  else if (getLock s o).state = RELEASED then end1 ST_OK
  else if (getLock s o).state = FAULT then end1 ST_LOCK_FB_FAULT
  else if par s (lockId o 0) = 0 then end1 ST_LOCK_DISABLED
  else demandsForRequests (decideAll (setKind h (.lockRequest o 0) s))

def execLockRequest (ring : Nat) (s : State) : Host.Outcome State Fault Refusal := cmdPlain ring 0x0701 lockRequest s

/-- The outputs LOCK_ENGINE_STOPPED drops: ILK0 and every output with need_ilk0 1. -/
def engineOutputs (s : State) : List Nat := [0, 1, 2, 3].filter fun o => o == 0 || needsIlk0 s o

/-- Outputs whose pulses run, as a mask. -/
def pumpingMask (s : State) (os : List Nat) : Nat := ofBits ([0, 1, 2, 3].map fun o => os.contains o && pumping s o)

def lockEngineStopped (h : Held) (s : State) : State :=
  let os := engineOutputs s
  done1 h ST_OK (w (pumpingMask s os)) (os.foldl (fun s o => completeRequests o ST_LOCK_CANCELLED (dropOne o 1 s)) s)

def execLockEngineStopped (ring : Nat) (s : State) : Host.Outcome State Fault Refusal := cmdPlain ring 0x0702 lockEngineStopped s

def lockDrop (h : Held) (s : State) : State :=
  let os := [1, 2, 3].filter fun o => h.a0.getLsbD o
  if h.a0 = 0 then done h ST_OK s
  else if h.a0.getLsbD 0 then done h ST_BAD_ARG s
  else done1 h ST_OK (w (pumpingMask s os)) (os.foldl (fun s o => cancelOutput o 2 s) s)

def execLockDrop (ring : Nat) (s : State) : Host.Outcome State Fault Refusal := cmdPlain ring 0x0703 lockDrop s

/-- LOCK_CLEAR (R229): `echoLow` says whether the echo has been static low for 10 periods. -/
def lockClear (echoLow : Bool) (h : Held) (s : State) : State :=
  let o := h.a0.toNat
  if 3 < o then done h ST_BAD_ARG s
  else if (getLock s o).state ≠ FAULT then done h ST_OK s
  else if !echoLow then done h ST_LOCK_FB_FAULT s
  else
    let s := modDev (fun d => { d with echo := d.echo &&& ~~~((1 : BitVec 4) <<< o) }) s
    demandsForRequests (decideAll (done h ST_OK (modLock o (fun l => { l with state := LOCKED, fault := 0 }) s)))

def execLockClear (ring : Nat) (echoLow : Bool) (s : State) : Host.Outcome State Fault Refusal :=
  cmdPlain ring 0x0704 (lockClear echoLow) s

/-! ## ZONE_ and RANGE_ (R349, R350; 08 R245, R254) -/

def zoneFix (h : Held) (s : State) : State :=
  let k := h.a0.toNat
  if 31 < k then done h ST_BAD_ARG s
  else if !keyActive s k then done h ST_AUTH_FAIL s
  else demandForKey ZONE_TRACK k false (setKind h (.zoneFix k) s)

def execZoneFix (ring : Nat) (s : State) : Host.Outcome State Fault Refusal := cmdPlain ring 0x0801 zoneFix s

def zoneGet (h : Held) (s : State) : State :=
  let k := h.a0.toNat
  if 31 < k then done h ST_BAD_ARG s
  else doneBytes h (wordsBytes (((getKey s k).fix.map fun f => f.words).getD [])) 0 0 0 s

def execZoneGet (ring : Nat) (s : State) : Host.Outcome State Fault Refusal := cmdBuf ring 0x0802 zoneGet s

/-- The record of RANGE_DETAIL: a marker, then phase and amplitude of each tone in ascending k. -/
def rangeWords (k status : Nat) (tones : List Tone) : List Word :=
  BitVec.ofNat 32 (2 ^ 31 + k * 2 ^ 25 + status) :: sampleRun (tones.flatMap fun t => [unsigned 10 t.phi, t.amp])

def rangeDetail (h : Held) (s : State) : State :=
  let k := h.a0.toNat
  if 31 < k then done h ST_BAD_ARG s
  else match (getKey s k).exch with
    | none => done h ST_OK s
    | some (st, tones) => doneBytes h (wordsBytes (rangeWords k st tones)) 0 0 0 s

def execRangeDetail (ring : Nat) (s : State) : Host.Outcome State Fault Refusal := cmdBuf ring 0x0901 rangeDetail s

end Sys2Proof.Machine
end

