-- ==== Sys2Proof/Machine/Twin.lean ====
section
/-!
DEFINITION. Sys2Proof/Machine/Twin.lean: the frames and timers of the twin supervisor: link, roles, mirroring, notices, forced lock, takeover
(14 R384 to R402).
-/
namespace Sys2Proof.Machine

/-! ## Roles (R384, R392, R394) -/

def writeLastRole (active : Bool) (s : State) : State := modNv (fun n => { n with lastActive := active }) s

/-- The ACTIVE's first frame at a link-up (R398). -/
def sendNotices (s : State) : State := if isActive s then sendTwinUp (.noticeTable (noticeOuts s)) s else s

/-- The device becomes ACTIVE and claims an address; whether the twin holds the same state is not known until a resynchronisation. -/
def becomeActive (addr : Nat) (s : State) : State :=
  let s := modTwin (fun t => { t with role := 1, deciding := false, mirrored := false, resyncDue := true, notices := 0, dropClk := [] }) s
  let s := busStart addr (radioUp (writeLastRole true s))
  sendBacklog (sendNotices s)

/-- The device becomes SIDING as it comes out of boot (R392). -/
def becomeSiding (s : State) : State :=
  busStart 254 (writeLastRole false (modTwin (fun t => { t with role := 2, deciding := false }) s))

/-- A device that works as ACTIVE or unpaired becomes SIDING (R384, R394): outputs drop, its bridges open, and descriptors a SIDING device
refuses complete with ST_TWIN_SIDING: LOCK_, KEY_ and SVC_ ones by R394, the others, which nothing would ever complete, by the model's choice
(DESIGN CHOICE, assumption log 30). A running block keeps its lines to the end of its span (01 R28), undriven. -/
def demote (s : State) : State :=
  let s := dropAll 8 (becomeSolo s)
  let s := completeWhere (fun h => sidingRefuses h.opcode && h.kind != .maint COMPACT) ST_TWIN_SIDING 0 0 0 s
  let s := modProx (fun p => { p with seqs := [] }) (modSched (fun d => { d with cands := [] }) s)
  let s := clearBus ST_BUS_ABORTED (radioOff s)
  let s := modTwin (fun t => { t with role := 2, deciding := false, mirrored := false, backlog := [], overflowed := false,
                                      resyncDue := false, tableSeen := false, mirrorOpen := true, notices := 0, dropClk := [] }) s
  busStart 254 (setAddr 254 2 (writeLastRole false s))

/-- The twin's UID by the pairing record. -/
def peerUid (s : State) : Dword := (s.nv.pair.map fun p => p.peerUid).getD s.twin.peerUid

/-- Of two deciding devices, this one becomes ACTIVE: by the stored last roles, or as the lower UID (R392). -/
def winsRole (s : State) : Bool :=
  if s.nv.lastActive.toNat = s.twin.peerLast then decide (deviceUid s < peerUid s) else s.nv.lastActive

/-- ROLE_DECISION (R392), by what the twin's heartbeat and HELLOs show. -/
def execRoleDecision (s : State) : Host.Outcome State Fault Refusal :=
  if !(s.twin.deciding && isRunning s) then .next s
  else if s.twin.linkUp && s.twin.peerRole == 1 && twinStands s then .next (settle (becomeSiding s))
  else if s.twin.linkUp && s.twin.peerRole == 2 then .next (settle (if winsRole s then becomeActive (par s (busId 3)) s else becomeSiding s))
  else if twinStands s then .next s
  else .next (settle (becomeActive (par s (busId 3)) (advanceTo (s.twin.decideClk + clkMs (par s (twinId 2))) s)))

/-! ## Pairing (R389, R390) -/

/-- Slots of a broken ceremony are destroyed: slot 3 and every slot received. -/
def destroyCeremony (s : State) : State :=
  let s := s.nv.received.foldl (fun s k => destroySlot k s) (destroySlot 3 s)
  modNv (fun n => { n with received := [] }) s

/-- The twin supervisor without a link, its counters kept. -/
def clearTwin (t : Twin) : Twin :=
  { Twin.reset with flags := t.flags, linkErr := t.linkErr, takeovers := t.takeovers, hbSeen := t.hbSeen, hbClk := t.hbClk,
                    takeoverUs := t.takeoverUs, framesBad := t.framesBad, forceLocks := t.forceLocks, resyncs := t.resyncs,
                    hbTimerClk := t.hbTimerClk, out := t.out }

/-- The ceremony is over with a status that is not ST_OK; a link that it had brought up goes down (R388). -/
def endCeremony (status : Nat) (s : State) : State :=
  let s := if 3 ≤ s.twin.pairStep then destroyCeremony s else s
  completeWhere (fun h => h.kind == .pairing) status 0 0 0 (modTwin clearTwin (linkGoesDown s))

/-- The ceremony fails on this device. Both devices complete with the same status (R389), and no message of R390 carries one: the model sends it in
place of the CMAC of a PAIR_CONFIRM, as two bytes (DESIGN CHOICE, assumption log 37). -/
def failPairing (status : Nat) (s : State) : State := endCeremony status (sendClear (.pairConfirm (leBytes 2 status)) s)

/-! ### The messages (R390). The spec lists what each carries and gives no byte layout: the fields follow in its order (DESIGN CHOICE,
assumption log 37). -/

def helloBytes (role : Nat) (uid : Dword) (oemRoot : List Byte) (release secver : Nat) (challenge chain : List Byte) : List Byte :=
  BitVec.ofNat 8 role :: beBytes 8 uid.toNat ++ oemRoot ++ leBytes 2 release ++ leBytes 4 secver ++ challenge ++ chain

/-- PAIR_HELLO of this device. -/
def ownHello (role : Nat) (challenge : List Byte) (s : State) : List Byte :=
  helloBytes role (deviceUid s) (oemHash s) (hdrRelease (runBank s).blob) (secver s) challenge (certificate s)

def helloMsgBytes (m : PairHelloMsg) : List Byte := helloBytes m.role m.uid m.oemRoot m.release m.secver m.challenge m.chain

def keyMsgBytes (m : PairKeyMsg) : List Byte := m.ephemeral ++ m.report ++ m.sig

/-- What DEV_ID signs in PAIR_KEY (R390 step 3). -/
def pairKeyDigest (uid : Dword) (challenge ephemeral : List Byte) : List Byte :=
  sha384 (ascii "ILK-PAIR-KEY" ++ beBytes 8 uid.toNat ++ challenge ++ ephemeral)

/-- SHA-384 of every pairing message in the order sent, the lower UID's first at each step (R390 step 5). -/
def transcript (s : State) : List Byte :=
  let (a, b) := if deviceUid s < s.twin.peerUid then (s.twin.said, s.twin.heard) else (s.twin.heard, s.twin.said)
  sha384 ((List.zipWith (· ++ ·) a b).flatten)

/-- The CMAC of PAIR_CONFIRM. -/
def confirmMac (s : State) : List Byte := cmac ((pairKey s).getD []) (transcript s)

/-- TWIN_PEER_TIMEOUT (R389): no PAIR_HELLO within 10 s. -/
def execTwinPeerTimeout (s : State) : Host.Outcome State Fault Refusal :=
  if s.twin.pairing.isSome && s.twin.pairStep == 1 then
    .next (settle (failPairing ST_TWIN_NO_PEER (advanceTo (s.twin.pairClk + clkS 10) s)))
  else .next s

/-- The items of R389 that PAIR_HELLO carries are equal. -/
def pairMatches (m : PairHelloMsg) (s : State) : Bool :=
  m.release == hdrRelease (runBank s).blob && m.secver == secver s && m.oemRoot == oemHash s

/-- The status that refuses a twin's PAIR_HELLO. -/
def helloRefused (m : PairHelloMsg) (s : State) : Option Nat :=
  if some (3 - m.role) ≠ s.twin.pairing ∨ m.role = 0 ∨ 2 < m.role then some ST_TWIN_MISMATCH
  else if !m.chainOk then some ST_TWIN_ATTEST
  else if !pairMatches m s then some ST_TWIN_MISMATCH
  else none

/-- PAIR_KEY goes out (R390 step 3): a fresh ephemeral key, the report of R303 over the twin's challenge, and DEV_ID's signature. -/
def sendPairKey (key : List Byte) (s : State) : State :=
  let d := ecScalar (drawBytes 48 s)
  let (s, report) := makeReport key s.twin.peerChallenge (used 48 s)
  let (s, sig) := signDigest key (pairKeyDigest (deviceUid s) s.twin.peerChallenge (ecPublic d)) s
  let msg := ecPublic d ++ report ++ sig
  sendClear (.pairKey msg) (modTwin (fun t => { t with pairStep := 2, ephemeral := d, said := t.said ++ [msg] }) s)

/-- The twin's PAIR_HELLO is taken (R390 steps 2 and 3). -/
def takeHello (m : PairHelloMsg) (s : State) : State :=
  match helloRefused m s with
  | some st => failPairing st s
  | none =>
    let s := modTwin (fun t => { t with peerUid := m.uid, peerKey := m.devId, peerChallenge := m.challenge, heard := [helloMsgBytes m] }) s
    match readSlot s 0 with
    | .corrupt => corruptSlot 0 (failPairing ST_KEY_CORRUPT s)
    | .empty => failPairing ST_KEY_EMPTY s
    | .key _ key => if counterLive s 1 = 0xFFFFFFFF then failPairing ST_CTR_EXHAUSTED (retire s) else sendPairKey key s

/-- PAIR_HELLO (R390). One that comes before this device is asked to pair is kept: the second TWIN_PAIR comes within 10 s of the first (R389). -/
def execPairHello (m : PairHelloMsg) (s : State) : Host.Outcome State Fault Refusal :=
  if !isRunning s then .next s
  else if s.twin.pairing.isNone then .next (if paired s then s else modTwin (fun t => { t with early := some (s.clk, m) }) s)
  else if s.twin.pairStep ≠ 1 then .next s
  else .next (settle (takeHello m s))

/-- A PAIR_HELLO kept from the last 10 s is taken as the ceremony starts. -/
def answerEarly (s : State) : State :=
  match s.twin.early with
  | none => s
  | some (clk, m) =>
    let s := modTwin (fun t => { t with early := none }) s
    if s.clk ≤ clk + clkS 10 then takeHello m s else s

/-- TWIN_PAIR (R389): the checks that need no twin, then PAIR_HELLO; a PAIR_HELLO that the twin sent before is taken up. -/
def twinPair (h : Held) (s : State) : State :=
  let role := h.a0.toNat
  if paired s then done h ST_TWIN_PAIRED s
  else if !(s.nv.lifecycle == lcProvisioned || s.nv.lifecycle == lcField) then done h ST_LC_REFUSED s
  else if !(role == 1 || role == 2) || busMode s == 2 then done h ST_BAD_ARG s
  else if s.nv.lifecycle == lcField && role == 1 && !masterOk s then done h ST_KEY_NEEDS_MASTER s
  else if s.twin.pairing.isSome then
    if s.twin.pairing = some role then setKind h .pairing s else done h ST_TWIN_MISMATCH s
  else
    let ch := drawBytes 32 s
    let msg := ownHello role ch s
    let s := used 32 (modTwin (fun t =>
      { t with pairing := some role, pairStep := 1, pairClk := s.clk, challenge := ch, said := [msg] }) (setKind h .pairing s))
    answerEarly (sendClear (.pairHello msg) s)

def execTwinPair (ring : Nat) (s : State) : Host.Outcome State Fault Refusal := cmdPlain ring 0x0D01 twinPair s

/-- The two UIDs, lower first (R289). -/
def pairContext (a b : Dword) : List Byte :=
  if a < b then beBytes 8 a.toNat ++ beBytes 8 b.toNat else beBytes 8 b.toNat ++ beBytes 8 a.toNat

/-- The twin's report and signatures are valid (R389, R390 step 4): over this device's challenge, by the DEV_ID of its certificate. -/
def attested (m : PairKeyMsg) (s : State) : Bool :=
  m.report.length == 272 && m.report.take 4 == leBytes 2 1 ++ leBytes 2 0x0110 && blobSlice m.report 4 8 == beBytes 8 s.twin.peerUid.toNat &&
  blobSlice m.report 144 32 == s.twin.challenge && ecdsaVerify s.twin.peerKey (sha384 (m.report.take 176)) (m.report.drop 176) &&
  ecdsaVerify s.twin.peerKey (pairKeyDigest s.twin.peerUid s.twin.challenge m.ephemeral) m.sig

/-- The items of R389 in the report are equal: release, security version, lifecycle, debug port. -/
def reportEqual (m : PairKeyMsg) (s : State) : Bool :=
  leNat (blobSlice m.report 14 2) == hdrRelease (runBank s).blob && leNat (blobSlice m.report 16 4) == secver s &&
  leNat (blobSlice m.report 20 1) == s.nv.lifecycle && leNat (blobSlice m.report 22 1) == (debugOpen s).toNat

/-- The status that refuses a twin's PAIR_KEY. -/
def keyRefused (m : PairKeyMsg) (s : State) : Option Nat :=
  if !attested m s then some ST_TWIN_ATTEST else if !reportEqual m s then some ST_TWIN_MISMATCH else none

/-- PAIR_KEY (R390 step 4): report and signature are checked, the pair key goes into slot 3, MCTR2 advances, unless it is spent (10 R302). -/
def execPairKey (m : PairKeyMsg) (s : State) : Host.Outcome State Fault Refusal :=
  if !(isRunning s && s.twin.pairing.isSome && s.twin.pairStep == 2) then .next s
  else if counterLive s 2 = 0xFFFFFFFF then .next (settle (failPairing ST_CTR_EXHAUSTED (retire s)))
  else match keyRefused m s, ecdh s.twin.ephemeral m.ephemeral with
    | some st, _ => .next (settle (failPairing st s))
    | none, none => .next (settle (failPairing ST_TWIN_ATTEST s))
    | none, some z =>
      let key := kdf256 (condense z) (ascii "ILK-PAIR") (pairContext (deviceUid s) s.twin.peerUid)
      let s := advanceCounter 2 (writeSlot 3 KEY_AES256 9 3 key s)
      let s := modTwin (fun t => { t with pairStep := 3, ephemeral := 0, heard := t.heard ++ [keyMsgBytes m] }) s
      .next (sendClear (.pairConfirm (confirmMac s)) s)

/-- PAIR_CONFIRM (R390 steps 5 and 6): its CMAC is checked; the link comes up. One of two bytes is the status with which the twin's side of the
ceremony has failed. -/
def execPairConfirm (mac : List Byte) (s : State) : Host.Outcome State Fault Refusal :=
  if !(isRunning s && s.twin.pairing.isSome) then .next s
  else if mac.length = 2 then .next (settle (endCeremony (leNat mac) s))
  else if s.twin.pairStep ≠ 3 then .next s
  else if mac ≠ confirmMac s then .next (settle (failPairing ST_TWIN_ATTEST s))
  else .next (linkAttempt (modTwin (fun t => { t with pairStep := 4, frameClk := s.clk }) s))

/-- Steps 6 and 7 on the device taking ACTIVE: its slots and the full snapshot, without the maintenance token. -/
def sendSnapshot (s : State) : State :=
  let q := s.twin.mirrorSeq + 1
  let recs := snapshot s
  sendTwin (.mirror q recs) (modTwin (fun t => { t with pairStep := 5, mirrorSeq := q, backlog := [(q, recs)] }) s)

/-- The pairing record is written and the ceremony is over (R390 step 8). The twin runs, so its heartbeat toggles (R386). -/
def endPairing (role : Nat) (s : State) : State :=
  let epoch := counterLive s 2
  let s := modNv (fun n => { n with pair := some { peerUid := s.twin.peerUid, epoch := epoch, twinHash := sha384 s.twin.peerKey },
                                    lastActive := role == 1 }) s
  let s := modTwin (fun t => { t with role := role, pairing := none, pairStep := 0, mirrored := true, hbSeen := true, hbClk := s.clk }) s
  let s := completeWhere (fun h => h.kind == .pairing) ST_OK 0 0 0 s
  postEvent 0x8205 (payload [role, 0, 0, 0] ++ leBytes 4 epoch.toNat) s

/-- PAIR_DONE (R390 step 8) on the device taking ACTIVE; it travels in clear (R387). -/
def execPairDone (s : State) : Host.Outcome State Fault Refusal :=
  if isRunning s && s.twin.pairStep == 5 && s.twin.pairing == some 1 then
    let s := modTwin (fun t => { t with backlog := t.backlog.drop 1, ackedSeq := t.mirrorSeq, resyncs := t.resyncs + 1 }) s
    .next (settle (sendBacklog (sendNotices (endPairing 1 s))))
  else .next s

/-! ## Unpairing (R391) -/

/-- What a device that was SIDING gives up beyond the pair key. -/
def dropMirrored (s : State) : State :=
  let s := s.nv.received.foldl (fun s k => destroySlot k s) s
  let s := modNv (fun n => { n with keyTab := List.replicate 32 KeyNv.empty, pinned := [] }) s
  let s := modRoster (fun r => { r with entries := r.entries.filter fun e => !e.pinned }) s
  let s := modSched (fun d => { d with svcs := [], cands := [] })
    (modKeys (fun _ => List.replicate 32 (Key.reset KeyNv.empty)) (modStaged (fun _ => []) (modPar (fun _ => []) s)))
  refreshOwnBlocks (modIsl (fun i => if i.session then i else { i with authFrom := par s (hitchId 2) }) s)

/-- A device unpairs; its link goes down (R388). -/
def unpairDevice (s : State) : State :=
  let siding := isSiding s
  let s := destroySlot 3 (dropAll 7 (becomeSolo (linkGoesDown s)))
  let s := if siding then dropMirrored s else s
  let s := modNv (fun n => { n with pair := none, received := [], lastActive := false }) (modTwin clearTwin s)
  let s := if siding then busStart (par s (busId 3)) (radioUp s) else s
  postEvent 0x8206 [] s

/-- TWIN_UNPAIR (R391). -/
def twinUnpair (h : Held) (s : State) : State :=
  if !paired s then done h ST_TWIN_NOT_PAIRED s
  else if isSiding s && twinStands s then done h ST_TWIN_SIDING s
  else if s.nv.lifecycle == lcField && !masterOk s then done h ST_KEY_NEEDS_MASTER s
  else
    let s := if twinStands s then sendTwinUp .unpair s else s
    done h ST_OK (unpairDevice s)

def execTwinUnpair (ring : Nat) (s : State) : Host.Outcome State Fault Refusal := cmdPlain ring 0x0D02 twinUnpair s

/-- UNPAIR (R391). -/
def execUnpair (h : FrameHdr) (s : State) : Host.Outcome State Fault Refusal :=
  .next (takeWhole 0x0A h (fun s => if paired s then settle (unpairDevice s) else s) s)

/-! ## The other commands (R397; 12 R353) -/

/-- TWIN_RESYNC (R397). -/
def twinResync (h : Held) (s : State) : State :=
  if !paired s then done h ST_TWIN_NOT_PAIRED s
  else if !twinStands s then done h ST_TWIN_NO_PEER s
  else if isSiding s then sendTwinUp .resync (setKind h .resyncPassed s)
  else requestMaint RESYNC_ALL 0 h s

def execTwinResync (ring : Nat) (s : State) : Host.Outcome State Fault Refusal := cmdPlain ring 0x0D03 twinResync s

def twinStatus (h : Held) (s : State) : State :=
  finish h ST_OK (w (twinStatusReg s)) (w (backlogBytes s)) (w s.twin.takeovers) 0 s

def execTwinStatus (ring : Nat) (s : State) : Host.Outcome State Fault Refusal := cmdPlain ring 0x0D04 twinStatus s

/-! ## The link (R387, R388, R394) -/

/-- What a link-up brings about: two ACTIVE devices are resolved, then the ACTIVE sends its notices and what the twin lacks. -/
def linkComesUp (peerRole : Nat) (s : State) : State :=
  let s := postEvent 0x8202 (payload [1]) (modTwin (fun t => { t with linkUp := true, tableSeen := false, mirrorOpen := true }) s)
  if s.twin.pairing = some 1 ∧ s.twin.pairStep = 4 then sendSnapshot (sendTwinUp (.noticeTable (noticeOuts s)) s)
  else if isActive s && peerRole == 1 then
    if peerUid s < deviceUid s then demote s
    else sendBacklog (sendNotices (modTwin (fun t => { t with resyncDue := true, mirrored := false }) s))
  else sendBacklog (sendNotices s)

/-- A HELLO is accepted. A frame of another boot of the twin means that it has lost what was mirrored. In a FAILED device the link comes up for
its FAILED frames and the RESET_REQ that it accepts (R400); it draws no new nonce. -/
def helloAccepted (h : FrameHdr) (nonce echo : List Byte) (role lastRole : Nat) (s : State) : State :=
  let fresh := nonce != s.twin.peerNonce
  let mine := echo == s.twin.myNonce && !s.twin.myNonce.isEmpty
  let booted := s.twin.rxAny && s.twin.rxBoot != h.boot
  let s := if fresh && !mine then linkGoesDown s else s
  let s := noteFrame h (modTwin (fun t =>
    { t with peerNonce := nonce, peerRole := role, peerLast := lastRole, echoed := mine, sleepStands := false, twinFailed := t.twinFailed && !fresh,
             resyncDue := t.resyncDue || (booted && t.role == 1), mirrored := t.mirrored && !(booted && t.role == 1) }) s)
  let s := if (fresh || !mine) && !s.twin.myNonce.isEmpty then sendTwin (.hello s.twin.myNonce nonce s.twin.role s.nv.lastActive.toNat) s else s
  if mine && !s.twin.linkUp then (if s.dev.failed then modTwin (fun t => { t with linkUp := true }) s else linkComesUp role s) else s

/-- HELLO (R388, R394). -/
def execHello (h : FrameHdr) (role lastRole : Nat) (s : State) : Host.Outcome State Fault Refusal :=
  let nonce := h.payload.take 16
  if !(twinWorks s && exchanges s) then .next s
  else if readSlot s 3 = .corrupt then .next (dropFrame true (corruptSlot 3 s))
  else match frameOpen s 0x01 16 nonce h with
    | none => .next (dropFrame true s)
    | some rest =>
      if rest.length < 16 || (nonce == s.twin.peerNonce && !frameNewer s h) then .next (dropFrame false s)
      else .next (settle (helloAccepted h nonce (rest.take 16) role lastRole s))

/-- HEARTBEAT (R387). -/
def execHeartbeat (h : FrameHdr) (s : State) : Host.Outcome State Fault Refusal := .next (takeFrame 0x02 h (fun s => s) s)

/-- TWIN_LINK_DOWN (R388): no frame accepted for twin.hb_timeout_ms; the device tries to bring the link up again. -/
def execTwinLinkDown (s : State) : Host.Outcome State Fault Refusal :=
  if !(twinWorks s && exchanges s && s.twin.linkUp) then .next s
  else
    let s := linkGoesDown (advanceTo (s.twin.frameClk + hbTimeout s) s)
    if s.dev.failed then .next s else .next (linkAttempt s)

/-- HEARTBEAT_TIMER (R387, R400): every 1 ms, a FAILED frame from a FAILED device. -/
def execHeartbeatTimer (s : State) : Host.Outcome State Fault Refusal :=
  if !(twinWorks s && exchanges s) then .next s
  else
    let s := advanceTo (s.twin.hbTimerClk + clkMs 1) s
    let s := modTwin (fun t => { t with hbTimerClk := s.clk }) s
    .next (sendTwinUp (if s.dev.failed then .failed s.dev.faultCode s.dev.faultArg else .heartbeat) s)

/-! ## Mirroring (R395, R396) -/

/-- An entry of the roster from its words (05 R157). -/
def entryOfWords (handle : Nat) (ws : List Word) : Entry :=
  let x := fun i => (ws.getD i 0).toNat
  { handle := handle, uid := BitVec.ofNat 64 (x 0 * 2 ^ 32 + x 1), desc := ws.getD 2 0, status := x 3 / 2 ^ 29, pinned := (x 3).testBit 28,
    route := x 3 / 2 ^ 24 % 16, chanPresent := BitVec.ofNat 8 (x 3 / 65536), chanSigned := BitVec.ofNat 8 (x 3 / 256), miss := x 3 % 256,
    seenSweep := BitVec.ofNat 16 (x 4 / 65536), seenRevs := BitVec.ofNat 16 (x 4), lastData := ws.getD 5 0, readsOk := x 6 / 65536,
    readsBad := x 6 % 65536, owner := ws.getD 7 0 }

/-- A slot of the key table as mirrored; BARRED goes with it (R395). -/
def mirrorKey (k : Nat) (r : KeyNv) (s : State) : State :=
  modKey k (fun q => { q with status := if r.barred then 3 else if q.status = 3 then 0 else q.status }) (modKeyNv k (fun _ => r) s)

/-- What a snapshot no longer holds goes (05 R163, R395). -/
def keepOnly (handles slots svcs : List Nat) (s : State) : State :=
  let gone := (s.roster.entries.filter fun e => !handles.contains e.handle).map fun e => e.handle
  let s := modRoster (fun t => { t with entries := t.entries.filter fun e => handles.contains e.handle }) s
  let s := if gone.isEmpty then s else savePinned s
  let s := (s.nv.received.filter fun k => !slots.contains k).foldl (fun s k => storeSlot k [] s) s
  ((s.sched.svcs.filter fun v => !svcs.contains v.n).map fun v => v.n).foldl (fun s n => undefineSvc n s) s

/-- A mirrored change is one that ROSTER_ADD, ROSTER_SET_OWNER or ROSTER_DELETE makes to a pinned entry (05 R162): it comes, goes, is pinned, or
has another owner. -/
def pinnedChanged (old new : Option Entry) : Bool :=
  (old.any (·.pinned) || new.any (·.pinned)) &&
    (old.map fun e => (e.pinned, e.owner)) != (new.map fun e => (e.pinned, e.owner))

/-- One change record is applied. -/
def applyRec (r : MirrorRec) (s : State) : State :=
  match r with
  | .roster handle words =>
    let t := modRoster (fun t => { t with
      entries := if words.all (· == 0) then t.entries.filter fun e => e.handle != handle else insertEntry (entryOfWords handle words) t.entries }) s
    if pinnedChanged (findEntry s handle) (findEntry t handle) then savePinned t else t
  | .key slot state uid rights ctrMark dlMark barred =>
    mirrorKey slot { state := state, uid := uid, rights := rights, ctrMark := ctrMark, dlMark := dlMark, barred := barred } s
  | .slot slot wrapped => storeSlot slot wrapped s
  | .param id value => applyParam id value s
  | .paramSave => saveSettings s
  | .svcDefine n => defineSvc n s
  | .svcUndefine n => undefineSvc n s
  | .busAddr addr => modBus (fun b => { b with twinAddr := addr }) s
  | .resyncStatus status => completeWhere (fun h => h.kind == .resyncPassed) status 0 0 0 s
  | .only handles slots svcs => keepOnly handles slots svcs s

/-- Change records in order; the island's own blocks follow what they changed (06 R187). -/
def applyRecs (recs : List MirrorRec) (s : State) : State := refreshOwnBlocks (recs.foldl (fun s r => applyRec r s) s)

/-- A NOTIFY or MIRROR frame after prepare has ended makes the twin supervisor refuse the commit (R402). -/
def noteNotice (s : State) : State := if prepareEnded s then modPwr (fun p => { p with noticeSeen := true }) s else s

/-- Slots a snapshot would overwrite (R389). -/
def slotConflict (s : State) (recs : List MirrorRec) : Bool :=
  recs.any fun r => match r with
    | .slot k wrapped => !wrapped.isEmpty && slotHolds s k
    | _ => false

/-- The snapshot of a ceremony on the device taking SIDING (R390 steps 6 to 8). -/
def takeSnapshot (seq : Nat) (recs : List MirrorRec) (s : State) : State :=
  if slotConflict s recs then failPairing ST_TWIN_SLOT_CONFLICT s
  else
    let was := s.twin
    let s := applyRecs recs (demote s)
    let s := modTwin (fun t => { t with appliedSeq := seq, mirrorOpen := false, notices := was.notices, tableSeen := was.tableSeen }) s
    sendClear .pairDone (sendTwin (.mirrorAck seq) (endPairing 2 s))

/-- The records are the snapshot of a resynchronisation. -/
def isSnapshot (recs : List MirrorRec) : Bool :=
  recs.any fun r => match r with
    | .only _ _ _ => true
    | _ => false

/-- A MIRROR frame on the SIDING: applied in sequence, acknowledged; one out of sequence is not applied. The first of a session may have any
number. Only a snapshot, and what follows it in sequence, makes the SIDING read mirrored (R396, 15 R439). -/
def takeMirror (seq : Nat) (recs : List MirrorRec) (s : State) : State :=
  let next := seq == s.twin.appliedSeq + 1
  if s.twin.mirrorOpen || next || isSnapshot recs then
    let s := applyRecs recs s
    let s := modTwin (fun t => { t with appliedSeq := seq, mirrorOpen := false, mirrored := isSnapshot recs || (t.mirrored && next) }) s
    sendTwinUp (.mirrorAck seq) s
  else if seq ≤ s.twin.appliedSeq then sendTwinUp (.mirrorAck s.twin.appliedSeq) s
  else modTwin (fun t => { t with mirrored := false }) s

/-- MIRROR (R395, R396). -/
def execMirror (h : FrameHdr) (seq : Nat) (recs : List MirrorRec) (s : State) : Host.Outcome State Fault Refusal :=
  .next (takeWhole 0x03 h (fun s =>
    let s := noteNotice s
    if s.twin.pairStep == 4 && s.twin.pairing == some 2 then settle (takeSnapshot seq recs s)
    else if isSiding s then settle (takeMirror seq recs s)
    else s) s)

/-- The SIDING has passed a TWIN_RESYNC on: the ACTIVE runs it under the maintenance token, and its status goes back (R397). -/
def resyncAsked (s : State) : State := settle (deviceMaint RESYNC_ALL (modTwin (fun t => { t with askedResync := true }) s))

/-- MIRROR_ACK (R396, R397): results held for the change are posted; a resynchronisation ends once all is acknowledged. -/
def execMirrorAck (h : FrameHdr) (seq : Nat) (s : State) : Host.Outcome State Fault Refusal :=
  .next (takeWhole 0x04 h (fun s =>
    if !isActive s then s
    else if seq = resyncMark then resyncAsked s
    else
      let s := modTwin (fun t => { t with ackedSeq := max t.ackedSeq seq, backlog := t.backlog.filter fun b => seq < b.1 }) s
      let s := releaseUpTo seq s
      settle (if s.twin.resyncSeq.isSome then endResync s else s)) s)

/-! ## Notices (R229, R398) -/

/-- NOTIFY (R398). -/
def execNotify (h : FrameHdr) (out : Nat) (s : State) : Host.Outcome State Fault Refusal :=
  .next (takeWhole 0x05 h (fun s =>
    let s := noteNotice s
    if isSiding s && decide (out < 4) && (getLock s out).state == LOCKED then
      sendTwinUp (.notifyAck out)
        (modTwin (fun t => { t with notices := t.notices ||| (1 <<< out), dropClk := t.dropClk.filter fun d => d.1 != out }) s)
    else s) s)

/-- NOTIFY_ACK (R229): the conditions are looked at once more, then the pulses start. -/
def execNotifyAck (h : FrameHdr) (out : Nat) (s : State) : Host.Outcome State Fault Refusal :=
  .next (takeWhole 0x05 h (fun s =>
    if isActive s && decide (out < 4) && (getLock s out).state == NOTIFY then
      let it := itemsInForce s out
      if releaseConditions s out it then
        startPulses out (modLock out (fun l => { l with items := it, chosen := (qualifier s out it).getD l.chosen }) s)
      else withdrawNotice out (withdrawReason s out) s
    else s) s)

/-- DROP (R398): the notice ends 200 µs later. -/
def execDrop (h : FrameHdr) (out : Nat) (s : State) : Host.Outcome State Fault Refusal :=
  .next (takeWhole 0x05 h (fun s =>
    if s.twin.notices.getLsbD out && decide (out < 4) then
      modTwin (fun t => { t with dropClk := (t.dropClk.filter fun d => d.1 != out) ++ [(out, s.clk)] }) s
    else s) s)

/-- NOTICE_END (R398). -/
def execNoticeEnd (out : Nat) (s : State) : Host.Outcome State Fault Refusal :=
  match s.twin.dropClk.find? fun d => d.1 == out with
  | none => .next s
  | some d =>
    if !boxRuns s then .next s
    else
      let s := advanceTo (d.2 + clkUs 200) s
      let keep : BitVec 4 := ~~~(1 <<< out)
      .next (modTwin (fun t => { t with notices := t.notices &&& keep, dropClk := t.dropClk.filter fun d => d.1 != out }) s)

/-- NOTICE_TABLE (R398): on the SIDING, and on the device that takes SIDING in a ceremony. -/
def execNoticeTable (h : FrameHdr) (outs : BitVec 4) (s : State) : Host.Outcome State Fault Refusal :=
  .next (takeWhole 0x06 h (fun s =>
    if isSiding s || s.twin.pairing == some 2 then modTwin (fun t => { t with notices := t.notices ||| outs, tableSeen := true }) s else s) s)

/-- FORCE_LOCK_NOTICE (R399). -/
def execForceLockNotice (h : FrameHdr) (out : Nat) (s : State) : Host.Outcome State Fault Refusal :=
  .next (takeWhole 0x05 h (fun s => postEvent 0x8204 (payload [out, 0]) (raiseTwin 2 s)) s)

/-- SLEEP (R402): the notice stands from its acknowledgement. -/
def execSleep (h : FrameHdr) (target : Nat) (s : State) : Host.Outcome State Fault Refusal :=
  .next (takeWhole 0x07 h (fun s =>
    let s := sendTwinUp (.sleepAck target) s
    settle (becomeSolo (modTwin (fun t => { t with sleepStands := true, notices := 0, dropClk := [] }) s))) s)

/-! ## Heartbeat and takeover (R386, R393, R400, R401) -/

/-- FAULT_ARG of a SIDING device that fails because it may not take over: 1 or 2, which the spec does not say. -/
def openFailArg (s : State) : Nat := 1 + (Config.openByte s.free).toNat % 2

/-- A SIDING device that is not mirrored becomes FAILED instead of taking over (R400). -/
def beginTakeover (cause : Nat) (s : State) : State :=
  if s.twin.takeoverCause.isSome then s
  else if !s.twin.mirrored then failDevice 0x0009 (openFailArg s) (used 1 s)
  else modTwin (fun t => { t with takeoverCause := some cause, takeoverClk := s.clk, echoClk := s.clk, notices := 0, dropClk := [] }) s

/-- FAILED_FRAME (R400). -/
def execFailedFrame (h : FrameHdr) (code arg : Half) (s : State) : Host.Outcome State Fault Refusal :=
  .next (takeWhole 0x08 h (fun s =>
    let first := !s.twin.twinFailed
    let s := modTwin (fun t => { t with twinFailed := true }) s
    if isSiding s && !s.twin.deciding then beginTakeover 1 s
    else if isActive s && first then
      let s := postEvent 0x8203 (leBytes 2 code.toNat ++ leBytes 2 arg.toNat) s
      if code = 0x0009 ∧ arg = 1 then postEvent 0x8207 [] s else s
    else s) s)

/-- TWIN_HB_TIMEOUT (R393, R400): TWIN_HB_IN has shown no edge for twin.hb_timeout_ms; a standing SLEEP notice excuses it. -/
def execTwinHbTimeout (s : State) : Host.Outcome State Fault Refusal :=
  if !(boxRuns s && paired s && s.twin.hbSeen && !s.twin.sleepStands) then .next s
  else
    let s := advanceTo (s.twin.hbClk + hbTimeout s) s
    let s := modTwin (fun t => { t with hbSeen := false, notices := 0, dropClk := [] }) s
    if s.dev.failed then .next s
    else if isActive s then .next (settle (becomeSolo s))
    else if s.twin.deciding then .next s
    else if s.clk < s.twin.frameClk + hbTimeout s then .next (failDevice 0x0009 1 s)
    else .next (beginTakeover 2 s)

/-- HEARTBEAT_RESUMED (R393, R396). -/
def execHeartbeatResumed (s : State) : Host.Outcome State Fault Refusal :=
  if !boxRuns s then .next s
  else
    let was := twinStands s
    let s := modTwin (fun t => { t with hbSeen := true, hbClk := s.clk }) s
    if was then .next s else .next (sendBacklog s)

/-- TWIN_LINK_FAIL (R400): no frame accepted for twin.link_fail_ms while TWIN_HB_IN toggles. -/
def execTwinLinkFail (s : State) : Host.Outcome State Fault Refusal :=
  if isRunning s && isSiding s && !s.twin.deciding && s.twin.hbSeen && !s.twin.sleepStands then
    .next (failDevice 0x0009 2 (advanceTo (s.twin.frameClk + clkMs (par s (twinId 1))) s))
  else .next s

/-- Steps 2 to 6 of a takeover (R401). -/
def takeOver (cause : Nat) (s : State) : State :=
  let us := (s.clk - s.twin.takeoverClk) / 32
  -- the count of messages refused since reset goes on (07 R207)
  let s := modKeys (fun _ => s.nv.keyTab.zipIdx.map fun x => { Key.reset x.1 with refused := (getKey s x.2).refused }) s
  let s := modTwin (fun t => { t with takeoverCause := none, takeovers := satSucc 0xFFFF t.takeovers, takeoverUs := us, role := 1,
                                      tableSeen := false }) (raiseTwin 0 s)
  let s := postEvent 0x8201 (payload [cause, 0, 0, 0] ++ leBytes 4 us) s
  let s := sendTwinUp .resetReq s
  settle (becomeActive (if s.bus.twinAddr = 254 then par s (busId 3) else s.bus.twinAddr) s)

/-- ILK_KILL_N is pulled in a takeover (R401 step 1, R399): for each output whose echo is not low, force_lock, the notice to the twin and
TWIN_FORCE_LOCK. The output does not enter FAULT, since every output is LOCKED after a takeover (DEDUCED, assumption log 28). -/
def killEchoes (high : BitVec 4) (s : State) : State :=
  let s := modTwin (fun t => { t with echoClk := s.clk }) (modDev (fun d => { d with kill := true, echo := d.echo ||| high }) s)
  ([0, 1, 2, 3].filter fun o => high.getLsbD o).foldl (fun s o =>
    let s := raiseTwin 2 (modTwin (fun t => { t with forceLocks := t.forceLocks + 1 }) s)
    postEvent 0x8204 (payload [o, 1]) (sendTwinUp (.forceLock o) s)) s

/-- TAKEOVER_ECHO_SETTLED (R401 step 1): the echoes have been static low for 10 periods, and the takeover goes on; or some are not low after
3 periods: ILK_KILL_N is pulled, and the wait goes on. -/
def execTakeoverEchoSettled (high : BitVec 4) (s : State) : Host.Outcome State Fault Refusal :=
  match s.twin.takeoverCause with
  | none => .next s
  | some cause =>
    if !isRunning s then .next s
    else if high = 0 then .next (takeOver cause (advanceTo (s.twin.echoClk + 10 * pulsePeriod) (modDev (fun d => { d with echo := 0 }) s)))
    else .next (killEchoes high (advanceTo (s.twin.echoClk + 3 * pulsePeriod) s))

/-- RESET_REQ (R401 step 5): also in FAILED (R400). -/
def execResetReq (h : FrameHdr) (s : State) : Host.Outcome State Fault Refusal :=
  .next (takeFrame 0x09 h (fun s => if paired s then resetDevice causeTakeover s else s) s)

end Sys2Proof.Machine
end

