-- ==== Sys2Proof/Machine/Boot.lean ====
section
/-!
DEFINITION. Sys2Proof/Machine/Boot.lean: boot from the wipe to ready or FAILED (11 R317 to R319; 15 R426 to R434; 16 R442 to R448; 10 R301,
R302, R306; 14 R390, R392).
-/
namespace Sys2Proof.Machine

/-! ## Phase 2: self-tests (16 R442) -/

/-- The sensors within 8 °C of the median of the eight, as a mask (0.5 °C per count). -/
def sensorMask (l : List Int) : Byte :=
  let median := (l.foldr (fun x (acc : List Int) => acc.filter (· < x) ++ [x] ++ acc.filter fun y => !decide (y < x)) []).getD (l.length / 2) 0
  BitVec.ofNat 8 (ofBits (l.map fun x => decide (x - median ≤ 16) && decide (median - x ≤ 16)))

/-- A test fails: by what the silicon does, or by what it finds. -/
def testFails (s : State) (k : Nat) : Bool := s.dev.defects.getLsbD k || testFinds s k

def passedTests (s : State) : BitVec 12 := BitVec.ofNat 12 (ofBits ((List.range 12).map fun k => !testFails s k))

/-- Watchdog resets logged within the hour before this boot (R448), the one that led to it among them. -/
def recentWatchdogs (s : State) : Nat :=
  s.nv.log.countP fun e => (e.w0.toNat % 65536 == 0x0010 || e.w0.toNat % 65536 == 0x0011) && decide (elapsedNow s ≤ e.atS + 3600)

/-- The first fault that boot finds before its image check, in order: while booting, self-tests, watchdog, boot count (R302). -/
def earlyFault (s : State) : Option (Nat × Nat) :=
  match s.dev.bootFault with
  | some f => some f
  | none => match (List.range 12).find? (testFails s) with
    | some k => some (testFault s k)
    | none =>
      if s.dev.resetCause.getLsbD 3 && decide (3 ≤ recentWatchdogs s) then some (0x000A, 0)
      else if counterMark s 0 = 0xFFFFFFFF then some (0x0005, 0)
      else none

/-- Boot count and counters (10 R301): each live value is its mark, and MCTR0's new mark is written. -/
def startCounters (s : State) : State :=
  let count := counterMark s 0
  let live := (List.range 64).foldl (fun c n => Cells.putD c n (counterMark s n) 0) []
  setMark 0 (markFor count.toNat) (modSec (fun x => { x with bootCount := count, nonceCtr := 0, live := live }) s)

/-! ## Phase 3: the image (15 R429 to R431) -/

/-- What the governing boot record says to boot, a TRIAL record's count raised or spent (R430): the bank, and the cause of a reversion. -/
def trialBoot (s : State) : State × Bool × Option Nat :=
  let r := bootRecord s
  if !r.trial then (s, r.bank, none)
  else if r.count < 3 then
    (modUpd (fun u => { u with unconfirmed := true, trialNow := r.count + 1 }) (writeBoot r.bank true (r.count + 1) r.previous s), r.bank, none)
  else (setStage REVERTED (writeBoot r.previous false 0 r.bank s), r.previous, some 1)

/-- The bank that passes its check (R429); none where both fail. -/
def bootBank (s : State) : Option (State × Option Nat) :=
  let r := bootRecord s
  let (t, b, cause) := trialBoot s
  if bankPasses t b then some (modUpd (fun u => { u with bank := b }) t, cause)
  else if bankPasses t !b then
    let t := writeBoot (!b) false 0 b t
    let t := if r.trial && b == r.bank then setStage REVERTED t else t
    some (modUpd (fun u => { u with bank := !b, unconfirmed := false, trialNow := 0 }) t, some 3)
  else none

/-- A refresh buffer that is still set is restored to its sector before phase 3 (16 R453): the sector then holds what it held before the patrol
took it, and the buffer is cleared last. -/
def restoreBuffer (s : State) : State := modNv (fun n => { n with refreshBuffer := false }) s

/-- A verification cut off runs again (R431); a CONFIRMED image has its thermometer burnt (R427). -/
def settleImage (s : State) : State :=
  let s := if s.nv.updStage = VERIFYING then (verifyBody s).1 else s
  let v := hdrSecver (runBank s).blob
  if !s.upd.unconfirmed && decide (secver s < v) then burnSecver v s else s

/-! ## Phase 4: settings (15 R433, R434; 12 R343) -/

/-- MCTR3 cannot rise, or no nonce is left for the area: the migration is refused (10 R302). -/
def migrationSpent (s : State) : Bool := counterLive s 3 == 0xFFFFFFFF || !nonceLeft s

/-- The other bank's area in this image's form, written as this bank's (R433); none where migration fails. -/
def migrate (s : State) : Option State :=
  let b := s.upd.bank
  let blob := (runBank s).blob
  let old := getArea s !b
  if old.version < hdrOldest blob || hdrSettings blob < old.version || migrationSpent s then none
  else (migrated (old.version == hdrSettings blob) old.items).map fun items =>
    let s := advanceCounter 3 s
    let fresh := fun (_ : Area) =>
      { version := hdrSettings blob, imageId := BitVec.ofNat 64 (imageIdNat blob), generation := counterLive s 3, items := items,
        unmigrated := false, nonce := flashNonce s }
    drawFlash (modArea b fresh s)

/-- A failed migration (R434): the previous bank is confirmed, and the device boots again. -/
def revertMigration (s : State) : State :=
  let b := s.upd.bank
  let lo := BitVec.ofNat 32 (imageIdNat (runBank s).blob)
  let prev := (bootRecord s).previous
  let s := modNv (fun n => { n with failedImageLo := lo, revertDue := true }) s
  resetDevice 0 (setStage REVERTED (writeBoot prev false 0 b s))

/-- Saved items, pinned entries and saved services (05 R162; 12 R343); a ceremony left without a record is undone (14 R390). -/
def loadSettings (s : State) : State :=
  let s := loadItems (keepItems (getArea s s.upd.bank).items) (modPar (fun _ => []) s)
  let s := modIsl (fun i => { i with authFrom := if i.session then i.authFrom else par s (hitchId 2) }) s
  let s := modRoster (fun r => { r with entries := restorePinned s.nv.pinned }) s
  let s := if s.nv.pair.isNone && (readSlot s 3 != .empty || !s.nv.received.isEmpty) then destroyCeremony s else s
  defineSaved s

/-! ## Ready (02 R50; 09 R261; 14 R392, R407) -/

/-- Every source whose kind is not 0 is enabled at the end of boot (02 R50). -/
def enableSources (s : State) : State :=
  (List.range 5).foldl (fun s n => if anglePar s n 0 = 0 then s else enableSource n s) s

/-- A reversion is counted and posted (R429, R430, R434). -/
def postReverted (cause : Option Nat) (s : State) : State :=
  match (if s.nv.revertDue then some 2 else cause) with
  | none => s
  | some c =>
    let s := modUpd (fun u => { u with reverts := u.reverts + 1 }) (modNv (fun n => { n with lastRevert := c, revertDue := false }) s)
    postEvent 0x8302 (payload [c, 0, 0, 0] ++ leBytes 4 (imageIdNat (idleBank s).blob)) s

/-- A paired device comes out of boot deciding (14 R392); an unpaired one claims its address. -/
def startRole (s : State) : State :=
  if s.nv.pair.isSome then
    busStart 254 (linkAttempt (modTwin (fun t => { t with role := 2, deciding := true, decideClk := s.clk, hbClk := s.clk, frameClk := s.clk }) s))
  else busStart (par s (busId 3)) (radioUp s)

/-- Milliseconds since the reset. -/
def bootDuration (s : State) : Nat := (s.clk - s.dev.bootClk) / 32000

/-- Boot is complete. -/
def becomeReady (cause : Option Nat) (s : State) : State :=
  let ek := drawBytes 32 s
  let s := used 32 (modSec (fun x => { x with ek := ek }) s)
  let s := takePwrConf (modPwr (fun p => { p with sensorOk := sensorMask s.dev.sensors, ledgerClk := s.clk }) s)
  let s := modMnt (fun m => { m with checkS := elapsedNow s, saveS := elapsedNow s }) s
  let s := modUpd (fun u => { u with confirmClk := s.clk, offerClk := s.clk }) s
  let s := modDev (fun d => { d with mode := .run, ready := true, bootPhase := 5, bootMs := bootDuration s, selftestClk := s.clk }) s
  afterSession (refreshOwnBlocks (postReverted cause (startRole (enableSources s))))

/-- A paired device that boots FAILED has role 2 like any other (14 R392), and tries to bring its link up for FAILED frames and RESET_REQ (14
R400), unless it can draw no nonce: after a failed random source (10 R299), or where no boot count could be reserved (10 R302). -/
def failedRole (f : Nat × Nat) (s : State) : State :=
  if s.nv.pair.isNone then s
  else
    let s := modTwin (fun t => { t with role := 2, hbClk := s.clk, frameClk := s.clk }) s
    if f.1 = 0x0003 ∨ f.1 = 0x0005 ∨ !slotHolds s 3 then s else linkAttempt s

/-- Boot ends FAILED (16 R445): the fault is logged, and nothing else starts but the twin link. -/
def bootFailed (f : Nat × Nat) (s : State) : State :=
  let s := failedRole f s
  let s := modDev (fun d => { d with mode := .run, ready := true, failed := true, bootPhase := 15, faultCode := BitVec.ofNat 16 f.1,
                                     faultArg := BitVec.ofNat 16 f.2, bootMs := bootDuration s }) s
  logFault f.1 f.2 s

/-- Boot from its self-tests on, with no lifecycle transition left over. -/
def bootOn (s : State) : State :=
  let s := modDev (fun d => { d with bootTests := passedTests s }) s
  match earlyFault s with
  | some f => bootFailed f (startCounters s)
  | none =>
    let s := restoreBuffer (startCounters s)
    match bootBank s with
    | none => bootFailed (0x0006, 0) s
    | some (s, cause) =>
      let s := settleImage s
      if (getArea s s.upd.bank).unmigrated then
        match migrate s with
        | none => revertMigration (if migrationSpent s then retire s else s)
        | some s => becomeReady cause (loadSettings s)
      else becomeReady cause (loadSettings s)

/-- BOOT_READY (R319): boot runs to its end. A transition found begun is completed first, which resets again (10 R306). -/
def execBootReady (s : State) : Host.Outcome State Fault Refusal :=
  if s.dev.mode ≠ .boot then .next s
  else match s.nv.intent with
    | some t => .next (resetDevice causeLifecycle (finishTransition t s))
    | none => .next (bootOn s)

end Sys2Proof.Machine
end

