-- ==== Sys2Proof/Machine/Chain.lean ====
section
/-!
DEFINITION. Sys2Proof/Machine/Chain.lean: the target of a firmware chain (15 R435 to R438).
-/
namespace Sys2Proof.Machine

/-! ## The stream as the target follows it (R436) -/

/-- A piece is written, or a job decrypts it as the chain gave it (10 R293). -/
def pieceInHand (s : State) (i : Nat) : Bool :=
  s.nv.bitmap.contains i || s.sec.jobs.any fun j => j.unit.any fun u => u.1 == i

/-- Start of the unit wanted next: the blob, the first missing piece, or the end of the stream. -/
def unitStart (s : State) : Nat :=
  let b := (idleBank s).blob
  if s.nv.updStage = IDLE || s.nv.updStage = REVERTED then 0
  else if s.nv.updStage ≠ RECEIVING then streamLen b
  else match (List.range (hdrPieces b)).find? fun i => !pieceInHand s i with
    | some i => b.length + 4112 * i
    | none => streamLen b

/-- The next offset: the point reached in the unit in progress (R436). -/
def nextOffset (s : State) : Nat := if s.upd.gatherAt = unitStart s then unitStart s + s.upd.gather.length else unitStart s

/-- Length of the unit in progress; of a blob once its flags have come. -/
def unitLength (s : State) (got : List Byte) : Nat :=
  let b := (idleBank s).blob
  if s.nv.updStage = RECEIVING then pieceLen b ((unitStart s - b.length) / 4112) + 16
  else if got.length < 42 then 576
  else blobLength (hdrFlags got)

def wireWord (n v : Nat) : List Byte := leBytes n v

/-- Reply of OFFER and STATUS (R436). -/
def offerReply (decision : Nat) (s : State) : List Byte :=
  wireWord 1 decision ++ wireWord 1 s.nv.updStage ++ wireWord 2 (piecesMissing s) ++ wireWord 4 (nextOffset s) ++
    wireWord 2 (hdrRelease (runBank s).blob) ++ wireWord 4 (hdrSecver (runBank s).blob) ++ wireWord 1 s.bus.addr ++ [0]

/-! ## OFFER (R436) -/

/-- An offer of an image that R420 would refuse, or one older than the image running. -/
def offerOlder (s : State) (pl : List Byte) : Bool :=
  let b := (runBank s).blob
  let rel := leNat (blobSlice pl 8 2)
  let set := leNat (blobSlice pl 16 2)
  let pieces := leNat (blobSlice pl 18 2)
  let len := leNat (blobSlice pl 20 4)
  decide (rel < hdrRelease b) || (rel == hdrRelease b && decide (leNat (blobSlice pl 10 2) < hdrBuild b)) ||
    decide (leNat (blobSlice pl 12 4) < secver s) || decide (set < hdrSettings b) || pieces == 0 || decide (1024 < pieces) ||
    decide (len ≤ (pieces - 1) * 4096) || decide (pieces * 4096 < len)

/-- The decision on an offer (R435, R436; the order among the reasons is the model's, assumption log 20). -/
def offerDecision (s : State) (pl : List Byte) : Nat :=
  let id := pl.take 8
  let inHand := decide (RECEIVING ≤ s.nv.updStage) && decide (s.nv.updStage ≤ VERIFIED)
  if par s (updId 1) = 0 then 4
  else if id == hdrImageId (runBank s).blob then 1
  else if s.nv.updStage = TRIAL || (inHand && hdrImageId (idleBank s).blob != id) then 3
  else if offerOlder s pl then 2
  else 0

/-- UPD_CHAIN (R440) of an operation. -/
def postChain (op decision : Nat) (via : Via) (s : State) : State :=
  postEvent 0x8304 (payload (match via with
    | .hitch => [op, decision, 1, 254]
    | .bus a => [op, decision, 2, a])) s

/-- The offer is of the image that is being received: from now on that comes from the chain too. -/
def offeredInHand (s : State) (pl : List Byte) : Bool :=
  decide (RECEIVING ≤ s.nv.updStage) && decide (s.nv.updStage ≤ VERIFIED) && hdrImageId (idleBank s).blob == pl.take 8

/-- A target receives OFFER: the state and the reply. -/
def takeOffer (via : Via) (pl : List Byte) (s : State) : State × List Byte :=
  let d := offerDecision s pl
  let s :=
    if d = 0 then
      let keep := s.nv.chainOpen && s.upd.gatherAt == unitStart s
      let s := modNv (fun n => { n with chainOpen := true, chainTarget := n.chainTarget || offeredInHand s pl }) s
      modUpd (fun u => { u with chainRole := 2, gather := if keep then u.gather else [], gatherAt := unitStart s }) s
    else s
  let s := postChain OP_OFFER d via s
  (s, offerReply d s)

/-! ## DATA (R436, R438) -/

/-- A unit is whole: it is applied under R420 and R421, or R423, by a background job (10 R293); what follows starts afresh. -/
def applyUnit (unit : List Byte) (s : State) : State :=
  let (s, ok) :=
    if s.nv.updStage = RECEIVING then
      let b := (idleBank s).blob
      let i := (unitStart s - b.length) / 4112
      (if (pieceStatus s i unit.length).isSome then s
       else addJob false (max 1 (ceilDiv unit.length 4096)) (pieceSlot b) 255 0 OP_PIECE (some (i, unit)) s, true)
    else
      let (t, st) := takeHeader unit s
      (modNv (fun n => { n with chainTarget := n.chainTarget || (st == ST_OK && n.updStage == RECEIVING) }) t, st == ST_OK)
  modUpd (fun u => { u with gather := [], gatherAt := unitStart s }) (modNv (fun n => { n with chainOpen := ok }) s)

/-- The target wants data: an offer stands, from before a reset perhaps (R431), and the stream has not all come. -/
def wantsData (s : State) : Bool :=
  s.nv.chainOpen && (s.nv.updStage == IDLE || s.nv.updStage == REVERTED || s.nv.updStage == RECEIVING)

/-- A target receives DATA: bytes at the next offset join the unit in progress, and what goes past its end is dropped. -/
def takeData (pl : List Byte) (s : State) : State × List Byte :=
  let off := leNat (pl.take 4)
  let bs := pl.drop 4
  let s :=
    if !wantsData s || off ≠ nextOffset s || bs.isEmpty then s
    else
      let at0 := unitStart s
      let got := (if s.upd.gatherAt = at0 then s.upd.gather else []) ++ bs
      let n := unitLength s got
      let s := modUpd (fun u => { u with gather := got.take n, gatherAt := at0, chainBytes := u.chainBytes + BitVec.ofNat 32 bs.length }) s
      if n ≤ got.length then applyUnit (got.take n) s else s
  (s, wireWord 4 (nextOffset s) ++ wireWord 2 (piecesMissing s) ++ wireWord 1 s.nv.updStage ++ [0])

/-! ## STATUS and WITHDRAW (R436) -/

def takeStatus (s : State) : State × List Byte := (s, offerReply 0 s)

/-- A target receives WITHDRAW: the transfer is closed and the unit in progress dropped. -/
def takeWithdraw (via : Via) (s : State) : State × List Byte :=
  let s := modNv (fun n => { n with chainOpen := false }) s
  let s := modUpd (fun u => { u with chainRole := if u.chainRole = 2 then 0 else u.chainRole, gather := [] }) s
  let s := postChain OP_WITHDRAW 0 via s
  (s, [BitVec.ofNat 8 s.nv.updStage, 0, 0, 0])

/-- A chain operation at the target: the state and the reply payload; none for an operation that is none of R436. -/
def chainOp (via : Via) (op : Nat) (pl : List Byte) (s : State) : Option (State × List Byte) :=
  if op = OP_OFFER then some (takeOffer via pl s)
  else if op = OP_DATA then some (takeData pl s)
  else if op = OP_STATUS then some (takeStatus s)
  else if op = OP_WITHDRAW then some (takeWithdraw via s)
  else none

/-- The device takes chain operations (R435): its signal box works; over the bus it talks in mode 0. -/
def chainListens (via : Via) (s : State) : Bool :=
  isRunning s && (match via with
    | .hitch => true
    | .bus _ => chainMaySend s)

/-- The answer of an operation that came over the bus goes to the source's address (R436). -/
def answerChain (via : Via) (op : Nat) (r : State × List Byte) : State :=
  match via with
  | .hitch => r.1
  | .bus a => sendChain a (op + 0x80) r.2 r.1

/-- CHAIN_OFFER (R436). -/
def execChainOffer (via : Via) (payload : List Byte) (s : State) : Host.Outcome State Fault Refusal :=
  if chainListens via s then .next (answerChain via OP_OFFER (takeOffer via payload s)) else .next s

/-- CHAIN_DATA (R436). -/
def execChainData (via : Via) (payload : List Byte) (s : State) : Host.Outcome State Fault Refusal :=
  if chainListens via s then .next (answerChain via OP_DATA (takeData payload s)) else .next s

/-- CHAIN_STATUS (R436). -/
def execChainStatus (via : Via) (s : State) : Host.Outcome State Fault Refusal :=
  if chainListens via s then .next (answerChain via OP_STATUS (takeStatus s)) else .next s

/-- CHAIN_WITHDRAW (R436). -/
def execChainWithdraw (via : Via) (s : State) : Host.Outcome State Fault Refusal :=
  if chainListens via s then .next (answerChain via OP_WITHDRAW (takeWithdraw via s)) else .next s

end Sys2Proof.Machine
end

