-- ==== Sys2Proof/Machine/BusRx.lean ====
section
/-!
DEFINITION. Sys2Proof/Machine/BusRx.lean: what the device does with frames of the vehicle bus (14 R404 to R411, R416; 15 R436). The layouts of
the messages are those of ISO 11783-3 and 11783-5 (PRESUMED, assumption log 6).
-/
namespace Sys2Proof.Machine

/-! ## Reception -/

/-- The controller receives: not in bus-off, and not once the bus has stopped for a sleep state (R370, R413). -/
def busHears (s : State) : Bool := isRunning s && s.dev.mode != .commit && !s.bus.off

def byteAt (d : List Byte) (i : Nat) : Nat := (d.getD i 0).toNat

/-- A frame to the device's own address. -/
def toMe (f : CanFrame) (s : State) : Bool := frameDest f == s.bus.addr && s.bus.addr != 254 && f.id / 65536 % 256 < 240

/-- A frame for the device or for all. -/
def forMe (f : CanFrame) (s : State) : Bool := frameDest f == 255 || toMe f s

/-- A frame has come in: counted, and one to the device after prepare has ended makes the bus refuse the commit (13 R370). -/
def noteRx (f : CanFrame) (s : State) : State :=
  let s := modBus (fun b => { b with rxFrames := b.rxFrames + 1 }) s
  if prepareEnded s && toMe f s then modPwr (fun p => { p with busFrameSeen := true }) s else s

/-- BUS_RX of a message (R416). -/
def postMessage (pgn src dest prio : Nat) (data : List Byte) (s : State) : State :=
  postEvent 0x8210 (leBytes 3 pgn ++ payload [src, dest, prio] ++ leBytes 2 data.length ++ data) s

/-- BUS_RX of a frame of mode 1 or 2; bytes 3 to 5 have no meaning in mode 2. -/
def postFrame (f : CanFrame) (s : State) : State :=
  if busMode s = 2 then
    let open3 := (List.range 3).map fun k => Config.openByte (s.free + k)
    used 3 (postEvent 0x8210 (leBytes 3 f.id ++ open3 ++ leBytes 2 f.data.length ++ f.data) s)
  else postMessage (framePgn f) (frameSrc f) (frameDest f) (framePrio f) f.data s

/-- A PGN is one of bus.rx_pgn (R410). -/
def rxPgn (s : State) (pgn : Nat) : Bool := pgn != 0x3FFFF && [6, 7, 8, 9].any fun i => par s (busId i) == pgn

/-- A message of a kind that has a use of its own is posted beside it where its PGN is listed (R410). -/
def postListed (f : CanFrame) (s : State) : State :=
  if rxPgn s (framePgn f) then postMessage (framePgn f) (frameSrc f) (frameDest f) (framePrio f) f.data s else s

/-- A received frame: modes 1 and 2 post every one; in mode 0 what its kind asks for. An FD frame is no frame of modes 0 and 1, which are classical
(R404). -/
def takeFrameRx (kind : CanFrame → Bool) (body : CanFrame → State → State) (f : CanFrame) (s : State) : State :=
  if !busHears s || (busMode s != 2 && (!f.ext || f.fd)) then s
  else if busMode s ≠ 0 then postFrame f (noteRx f s)
  else if kind f then body f (noteRx f s)
  else s

/-! ## Address claims (R405, R407) -/

/-- A claim of a NAME of lower value than the device's takes its address. -/
def loseAddress (s : State) : State :=
  if (busName s).getLsbD 63 then
    match (List.range 120).find? fun k => !s.bus.seen.contains (128 + k) with
    | some k => claimAddress (128 + k) 1 s
    | none => cannotClaim s
  else cannotClaim s

def takeClaim (f : CanFrame) (s : State) : State :=
  let src := frameSrc f
  let name := leNat (f.data.take 8)
  let s := if src < 254 && !s.bus.seen.contains src then modBus (fun b => { b with seen := b.seen ++ [src] }) s else s
  if src ≠ s.bus.addr ∨ s.bus.addr = 254 ∨ !busTalks s then s
  else if name < (busName s).toNat then loseAddress s
  else claimFrame (modBus (fun b => { b with claimClk := if b.state = 1 then some s.clk else b.claimClk }) s)

/-- ADDRESS_CLAIM_RX (R407). -/
def execAddressClaimRx (f : CanFrame) (s : State) : Host.Outcome State Fault Refusal :=
  .next (takeFrameRx (fun f => framePgn f == PGN_CLAIM && f.data.length == 8) (fun f s => takeClaim f (postListed f s)) f s)

/-- Commanded Address for the device's own NAME (R405). -/
def takeCommanded (name : Dword) (addr : Nat) (s : State) : State :=
  if busTalks s && busMode s == 0 && par s (busId 4) == 1 && name == busName s && name != 0 && decide (addr < 254) then claimAddress addr 3 s
  else s

/-- COMMANDED_ADDRESS_RX (R405): the message as put together. -/
def execCommandedAddressRx (name : Dword) (addr : Nat) (s : State) : Host.Outcome State Fault Refusal :=
  if busHears s then .next (takeCommanded name addr s) else .next s

/-! ## Requests (R405) -/

/-- Acknowledgement with control byte 1. -/
def nack (src pgn : Nat) (s : State) : State :=
  if busTalks s && s.bus.addr != 254 then
    sendPgn 6 PGN_ACK 255 (([1, 255, 255, 255, src] : List Nat).map (BitVec.ofNat 8) ++ pgnBytes pgn) s
  else s

def takeRequest59904 (f : CanFrame) (s : State) : State :=
  let pgn := leNat (f.data.take 3)
  if !forMe f s then s
  else if pgn = PGN_CLAIM then (if busTalks s && busName s != 0 then claimFrame (postListed f s) else postListed f s)
  else if rxPgn s pgn then postMessage PGN_REQUEST (frameSrc f) (frameDest f) (framePrio f) f.data s
  else nack (frameSrc f) pgn (postListed f s)

/-- BUS_REQUEST_RX (R405, R407). -/
def execBusRequestRx (f : CanFrame) (s : State) : Host.Outcome State Fault Refusal :=
  .next (takeFrameRx (fun f => framePgn f == PGN_REQUEST && f.data.length == 3) takeRequest59904 f s)

/-! ## Messages (R408, R410) -/

/-- A chain operation, or a reply to one of the device's own (15 R436). -/
def takeChain (src : Nat) (data : List Byte) (s : State) : State :=
  let op := byteAt data 2
  let pl := data.drop 4
  if !chainListens (.bus src) s then s
  else if 0x80 ≤ op then chainReply src op pl s
  else match chainOp (.bus src) op pl s with
    | some r => answerChain (.bus src) op r
    | none => s

/-- A whole message of mode 0, single frame or put together. -/
def takeMessage (pgn src dest prio : Nat) (data : List Byte) (s : State) : State :=
  let own := dest == s.bus.addr && s.bus.addr != 254
  if pgn == PGN_PROP_A && own && data.take 2 == [0xB1, 0x01] then takeChain src data s
  else
    let s := if pgn = PGN_COMMANDED ∧ data.length = 9 then
        takeCommanded (BitVec.ofNat 64 (leNat (data.take 8))) (byteAt data 8) s
      else s
    if rxPgn s pgn || (pgn == PGN_PROP_A && own && par s (busId 5) == 1) then postMessage pgn src dest prio data s else s

/-- PROPRIETARY_A_RX (R408). -/
def execProprietaryARx (f : CanFrame) (s : State) : Host.Outcome State Fault Refusal :=
  .next (takeFrameRx (fun f => framePgn f == PGN_PROP_A) (fun f s =>
    if forMe f s then takeMessage PGN_PROP_A (frameSrc f) (frameDest f) (framePrio f) f.data s else s) f s)

/-- PGNs of the rows of their own. -/
def knownPgn (pgn : Nat) : Bool :=
  pgn == PGN_REQUEST || pgn == PGN_CLAIM || pgn == PGN_PROP_A || pgn == PGN_TP_CM || pgn == PGN_TP_DT || pgn == PGN_ETP_CM || pgn == PGN_ETP_DT

/-- BUS_FRAME_RX (R410). -/
def execBusFrameRx (f : CanFrame) (s : State) : Host.Outcome State Fault Refusal :=
  .next (takeFrameRx (fun f => !knownPgn (framePgn f)) (fun f s =>
    if forMe f s then takeMessage (framePgn f) (frameSrc f) (frameDest f) (framePrio f) f.data s else s) f s)

/-! ## Receiving sessions (R405, R406, R410) -/

/-- The longest message put together: bus.rx_max, and a chain message whole (15 R436); whether a longer Proprietary A message is one of the
chain is known with its first packet (`foreignChain`). -/
def rxLimit (s : State) (pgn : Nat) (own : Bool) : Nat := if pgn = PGN_PROP_A ∧ own then max 4120 (par s (busId 10)) else par s (busId 10)

/-- A session as it opens. -/
def freshRx (s : State) (ext bam : Bool) (peer pgn prio total most : Nat) : BusSess :=
  { id := s.bus.nextSess, send := false, ext := ext, bam := bam, peer := peer, pgn := pgn, prio := prio, total := total, data := [],
    next := 1, grant := 0, base := 0, most := most, stage := 3, ref := none, deadline := 0 }

/-- Ask for packets from `next` on, as many as the sender gives at a time. -/
def askPackets (id : Nat) (s : State) : State :=
  match findSess s id with
  | none => s
  | some x =>
    let n := min x.most (tpPackets x.total + 1 - x.next)
    let msg := if x.ext then [21, n] ++ (leBytes 3 x.next).map BitVec.toNat else [17, n, x.next, 255, 255]
    let s := modSess id (fun x => { x with grant := x.next + n - 1, deadline := s.clk + clkMs t3 }) s
    sendCm x.ext x.peer msg x.pgn s

/-- Another message begins: refused when too long or with four sessions open (R410), else a session. -/
def openRx (ext bam : Bool) (most : Nat) (f : CanFrame) (pgn total : Nat) (s : State) : State :=
  let src := frameSrc f
  let s := modBus (fun b => { b with sess := b.sess.filter fun x => !(!x.send && x.peer == src && x.bam == bam && x.ext == ext) }) s
  let x := freshRx s ext bam src pgn (framePrio f) total most
  if rxLimit s pgn (!bam) < total || 4 ≤ (s.bus.sess.filter fun x => !x.send).length then
    let s := modBus (fun b => { b with rxDropped := b.rxDropped + 1 }) s
    if bam then s else sendAbort x 2 s
  else
    let s := modBus (fun b => { b with sess := b.sess ++ [{ x with deadline := s.clk + clkMs t1 }], nextSess := b.nextSess + 1 }) s
    if bam then s else askPackets x.id s

/-- The receiving session of a source. -/
def rxSess (s : State) (ext bam : Bool) (peer : Nat) : Option BusSess :=
  s.bus.sess.find? fun x => !x.send && x.ext == ext && x.bam == bam && x.peer == peer

/-- A whole message has come: acknowledged where it was addressed, then taken. -/
def endRx (x : BusSess) (dest : Nat) (data : List Byte) (s : State) : State :=
  let s := dropSess x.id s
  let msg := if x.ext then 23 :: (leBytes 4 x.total).map BitVec.toNat else [19, x.total % 256, x.total / 256, tpPackets x.total, 255]
  let s := if x.bam then s else sendCm x.ext x.peer msg x.pgn s
  takeMessage x.pgn x.peer dest x.prio (data.take x.total) s

/-- The first packet of a transfer that only a chain message may be as long as shows another message: it is refused then (R410; the moment is a
DEDUCED reading, assumption log 38). -/
def foreignChain (x : BusSess) (s : State) (first : List Byte) : Bool :=
  x.next == 1 && decide (par s (busId 10) < x.total) && first.take 2 != [0xB1, 0x01]

/-- A session refused after it opened. -/
def refuseRx (x : BusSess) (s : State) : State :=
  let s := modBus (fun b => { b with rxDropped := b.rxDropped + 1 }) (dropSess x.id s)
  if x.bam then s else sendAbort x 2 s

/-- A data frame of a session. -/
def takeData7 (ext : Bool) (f : CanFrame) (s : State) : State :=
  match rxSess s ext (frameDest f == 255) (frameSrc f) with
  | none => s
  | some x =>
    let k := x.base + byteAt f.data 0
    if k < x.next then s
    else if k ≠ x.next then (if x.bam then dropSess x.id s else askPackets x.id s)
    else if foreignChain x s (f.data.drop 1) then refuseRx x s
    else
      let data := x.data ++ f.data.drop 1
      if tpPackets x.total ≤ k then endRx x (frameDest f) data s
      else
        let s := modSess x.id (fun y => { y with data := data, next := k + 1, deadline := s.clk + clkMs t1 }) s
        if !x.bam && k == x.grant then askPackets x.id s else s

/-! ## Sending sessions (R406, R409) -/

/-- The sending session to an address for a PGN. -/
def txSess (s : State) (ext : Bool) (peer pgn : Nat) : Option BusSess :=
  s.bus.sess.find? fun x => x.send && x.ext == ext && !x.bam && x.peer == peer && x.pgn == pgn && x.stage != 5

/-- `n` packets from packet `k` on go out; an extended session tells their offset first. -/
def sendPackets (x : BusSess) (n k : Nat) (s : State) : State :=
  let total := tpPackets x.total
  let n := min n (total + 1 - k)
  let s := if x.ext then sendCm true x.peer ([22, n] ++ (leBytes 3 (k - 1)).map BitVec.toNat) x.pgn s else s
  let s := (List.range n).foldl (fun s j =>
    sendPgn 7 (if x.ext then PGN_ETP_DT else PGN_TP_DT) x.peer (dataFrame x (if x.ext then j + 1 else k + j) (k + j)) s) s
  modSess x.id (fun y => { y with next := k + n, stage := if total < k + n then 2 else 0, deadline := s.clk + clkMs t3 }) s

/-- Clear to Send: 0 packets holds the session. -/
def takeCts (ext : Bool) (f : CanFrame) (pgn n k : Nat) (s : State) : State :=
  match txSess s ext (frameSrc f) pgn with
  | none => s
  | some x =>
    if n = 0 then modSess x.id (fun y => { y with deadline := s.clk + clkMs t4 }) s
    else if k = 0 || tpPackets x.total < k then s
    else sendPackets x n k s

def takeEnd (ext : Bool) (f : CanFrame) (pgn : Nat) (s : State) : State :=
  match txSess s ext (frameSrc f) pgn with
  | none => s
  | some x => endSend x ST_OK s

/-- Connection Abort: whichever session with its source it names. -/
def takeAbort (ext : Bool) (f : CanFrame) (pgn : Nat) (s : State) : State :=
  match txSess s ext (frameSrc f) pgn with
  | some x => endSend x ST_BUS_ABORTED s
  | none => match rxSess s ext false (frameSrc f) with
    | some x => if x.pgn = pgn then dropSess x.id s else s
    | none => s

/-! ## TP_FRAME_RX -/

/-- Connection management of the transport protocol. -/
def takeTpCm (f : CanFrame) (s : State) : State :=
  let d := f.data
  let total := byteAt d 1 + 256 * byteAt d 2
  let pgn := leNat ((d.drop 5).take 3)
  let whole := byteAt d 3 == tpPackets total && decide (9 ≤ total) && decide (total ≤ 1785)
  match byteAt d 0 with
  | 16 => if toMe f s && whole then openRx false false (byteAt d 4) f pgn total s else s
  | 17 => if toMe f s then takeCts false f pgn (byteAt d 1) (byteAt d 2) s else s
  | 19 => if toMe f s then takeEnd false f pgn s else s
  | 32 => if frameDest f = 255 ∧ whole then openRx false true 0 f pgn total s else s
  | 255 => if toMe f s then takeAbort false f pgn s else s
  | _ => s

/-- Connection management of the extended transport protocol. -/
def takeEtpCm (f : CanFrame) (s : State) : State :=
  let d := f.data
  let pgn := leNat ((d.drop 5).take 3)
  if !toMe f s then s
  else match byteAt d 0 with
    | 20 => let total := leNat ((d.drop 1).take 4); if 1785 < total then openRx true false 255 f pgn total s else s
    | 21 => takeCts true f pgn (byteAt d 1) (leNat ((d.drop 2).take 3)) s
    | 22 => match rxSess s true false (frameSrc f) with
      | some x => modSess x.id (fun y => { y with base := leNat ((d.drop 2).take 3), deadline := s.clk + clkMs t1 }) s
      | none => s
    | 23 => takeEnd true f pgn s
    | 255 => takeAbort true f pgn s
    | _ => s

/-- The transport frame of a session, by PGN. -/
def takeTransport (f : CanFrame) (s : State) : State :=
  let pgn := framePgn f
  if pgn = PGN_TP_CM then takeTpCm f s
  else if pgn = PGN_ETP_CM then takeEtpCm f s
  else if forMe f s then takeData7 (pgn == PGN_ETP_DT) f s
  else s

/-- TP_FRAME_RX (R405, R406, R409, R410). -/
def execTpFrameRx (f : CanFrame) (s : State) : Host.Outcome State Fault Refusal :=
  .next (takeFrameRx (fun f => (framePgn f == PGN_TP_CM || framePgn f == PGN_TP_DT || framePgn f == PGN_ETP_CM || framePgn f == PGN_ETP_DT) &&
    f.data.length == 8) takeTransport f s)

end Sys2Proof.Machine
end

