-- ==== Sys2Proof/Machine/HostPort.lean ====
section
/-!
DEFINITION. Sys2Proof/Machine/HostPort.lean: SPI transactions, and the register accesses that have a row of their own (11 R308 to R318; 01
R18; 02 R50, R64, R70).
-/
namespace Sys2Proof.Machine

/-! ## SPI_ERR (R323) -/

def spiError (bit : Nat) (s : State) : State := modPort (fun p => { p with spiErr := p.spiErr ||| (1 <<< bit) }) s

/-- Bits of SPI_ERR: frame, partial, rsvd_bits, window_end. -/
def SPI_FRAME : Nat := 0
def SPI_PARTIAL : Nat := 1
def SPI_RSVD : Nat := 3
def SPI_WINDOW_END : Nat := 2

/-! ## The command word (R309) -/

def cmdRead (c : Half) : Bool := c.getLsbD 15
def cmdWin (c : Half) : Bool := c.getLsbD 14
def cmdInc (c : Half) : Bool := c.getLsbD 13
def cmdAddr (c : Half) : Nat := c.toNat % 512

/-- Reserved bits of a command word. -/
def cmdReserved (c : Half) : Bool := c.toNat / 512 % 16 != 0 || (cmdWin c && cmdAddr c != 0)

def regStep (inc : Bool) (a : Nat) : Nat := if inc then (a + 1) % 512 else a

def winStep (inc : Bool) (i : Nat) : Nat := if inc then i + 1 else i

/-! ## Transactions (R310 to R312) -/

/-- Register writes of a transaction's data words. -/
def writeRegs (inc : Bool) : Nat → List Half → State → State
  | _, [], s => s
  | a, d :: ds, s => writeRegs inc (regStep inc a) ds (regWrite a d s)

/-- Register reads of `n` words. -/
def readRegs (inc : Bool) : Nat → Nat → State → State × List Half
  | 0, _, s => (s, [])
  | n + 1, a, s =>
    let (s, v) := regRead a s
    let (s, vs) := readRegs inc n (regStep inc a) s
    (s, v :: vs)

/-- Window writes of a transaction's halves; past index 0xFFFF they are dropped, and a low half left alone is too. -/
def writeWin (inc : Bool) : Nat → List Half → State → State
  | i, lo :: hi :: ds, s =>
    writeWin inc (winStep inc i) ds (if 0xFFFF < i then spiError SPI_WINDOW_END s else hostWriteWord i lo hi s)
  | i, [_], s => spiError SPI_PARTIAL (if 0xFFFF < i then spiError SPI_WINDOW_END s else s)
  | _, [], s => s

/-- Window reads of `n` halves. -/
def readWin (inc : Bool) : Nat → Nat → State → State × List Half
  | 0, _, s => (s, [])
  | 1, i, s => if 0xFFFF < i then (spiError SPI_WINDOW_END s, [0]) else
      let (s, vs) := hostReadWord i s
      (s, vs.take 1)
  | n + 2, i, s =>
    let (s, vs) := if 0xFFFF < i then (spiError SPI_WINDOW_END s, [0, 0]) else hostReadWord i s
    let (s, rest) := readWin inc n (winStep inc i) s
    (s, vs ++ rest)

def setMiso (out : List Half) (s : State) : State := modPort (fun p => { p with spiOut := out }) s

/-- The word that MISO carries during the command word (R310). -/
def statusWord (s : State) : Half := BitVec.ofNat 16 (hostStatus s)

/-- A transaction of whole words: what it does, and what MISO carries after the command word. A window write may change a descriptor that waits:
one found without its own bit, or of no known opcode, is met as it is taken (R328, R329). -/
def spiWords (words : List Half) (s : State) : State :=
  match words with
  | [] => setMiso [] s
  | c :: rest =>
    let zero := List.replicate rest.length (0 : Half)
    let inc := cmdInc c
    if cmdReserved c then setMiso zero (spiError SPI_RSVD s)
    else if cmdWin c then
      match rest with
      | [] => setMiso [] s
      | idx :: ds =>
        if cmdRead c then
          let (s, vs) := readWin inc (ds.length - 1) idx.toNat s
          setMiso ((0 : Half) :: List.replicate (min 1 ds.length) 0 ++ vs) s
        else setMiso zero (settle (writeWin inc idx.toNat ds s))
    else if cmdRead c then
      let (s, vs) := readRegs inc (rest.length - 1) (cmdAddr c) s
      setMiso (List.replicate (min 1 rest.length) 0 ++ vs) s
    else setMiso zero (writeRegs inc (cmdAddr c) rest s)

/-- A transaction: the fall of CS_N is a wake source in every state in which the port lives (R315, 13 R366). No two accesses share a
clock, so what was set in the clock of this one coincides with no later one (01 R16; assumption log 4). -/
def spiRun (words : List Half) (s : State) : State :=
  if spiAlive s then
    let s := wakeEvent 0 s
    let t := spiWords words s
    { setMiso (if words.isEmpty then [] else statusWord s :: t.port.spiOut) t with fresh := [] }
  else s

/-! ## The rows -/

/-- SPI_REGISTER_WRITE (R310); with rd 1 in its command word the transaction is a register read, of as many registers as words follow the dummy. -/
def execSpiRegisterWrite (cmd : Half) (data : List Half) (s : State) : Host.Outcome State Fault Refusal :=
  if cmdWin cmd then .next s else .next (spiRun (cmd :: data) s)

/-- SPI_WINDOW_WRITE (R310, R312, R331). -/
def execSpiWindowWrite (cmd index : Half) (data : List Half) (s : State) : Host.Outcome State Fault Refusal :=
  if cmdRead cmd || !cmdWin cmd then .next s else .next (spiRun (cmd :: index :: data) s)

/-- SPI_WINDOW_READ (R310, R331) of whole window words. -/
def execSpiWindowRead (cmd index : Half) (words : Nat) (s : State) : Host.Outcome State Fault Refusal :=
  if !cmdRead cmd || !cmdWin cmd then .next s else .next (spiRun (cmd :: index :: 0 :: List.replicate (2 * words) 0) s)

/-- Whether the word cut off is the high half of a window write (R313). -/
def cutHighHalf (whole : List Half) : Bool :=
  match whole with
  | c :: _ :: ds => !cmdReserved c && cmdWin c && !cmdRead c && ds.length % 2 == 1
  | _ => false

/-- SPI_FRAME_ABORT (R313): whole words take effect; the cut one is discarded. A low half without its high half sets partial as any
does. -/
def execSpiFrameAbort (whole : List Half) (cutBits : Nat) (s : State) : Host.Outcome State Fault Refusal :=
  if !spiAlive s || cutBits = 0 || 15 < cutBits then .next s
  else .next (spiError SPI_FRAME (if cutHighHalf whole then spiError SPI_PARTIAL (spiRun whole s) else spiRun whole s))

/-- One register written on its own. -/
def writeOne (a v : Nat) (s : State) : State := spiRun [BitVec.ofNat 16 (a % 512), BitVec.ofNat 16 v] s

/-- One register read on its own. -/
def readOne (a : Nat) (s : State) : State := spiRun [BitVec.ofNat 16 (0x8000 + a % 512), 0, 0] s

/-- HOST_RESET (R317). -/
def execHostReset (s : State) : Host.Outcome State Fault Refusal := .next (writeOne 0x00C 0xA55A s)

/-- DOORBELL (R328, R329). -/
def execDoorbell (ring : Nat) (data : Half) (s : State) : Host.Outcome State Fault Refusal :=
  if ring < 64 then .next (writeOne (0x040 + 2 * ring) data.toNat s) else .next s

/-- TOKEN_VIOL_COUNT_READ (R323). -/
def execTokenViolCountRead (s : State) : Host.Outcome State Fault Refusal := .next (readOne 0x0E2 s)

/-- EVT_LOST_READ (R323). -/
def execEvtLostRead (s : State) : Host.Outcome State Fault Refusal := .next (readOne 0x0E7 s)

/-- HEAT_DEFER_READ (R324). -/
def execHeatDeferRead (s : State) : Host.Outcome State Fault Refusal := .next (readOne 0x188 s)

/-- TWIN_LINK_ERR_READ (R325). -/
def execTwinLinkErrRead (s : State) : Host.Outcome State Fault Refusal := .next (readOne 0x1A6 s)

/-- ASLEEP_REGISTER_READ (01 R18). -/
def execAsleepRegisterRead (addr : Nat) (s : State) : Host.Outcome State Fault Refusal :=
  if addr < 512 then .next (readOne addr s) else .next s

/-- Address of ANGn_CTRL (02 R49). -/
def angleCtrlAddr (n : Nat) : Nat := 0x100 + 8 * (3 * n + 1) + 6

/-- ANGLE_ENABLE (02 R50): en written 1, the other fields as they stand. -/
def execAngleEnable (src : Nat) (s : State) : Host.Outcome State Fault Refusal :=
  if src < 5 then .next (writeOne (angleCtrlAddr src) (angleCtrl { getSrc s src with en := true }) s) else .next s

/-- ANGLE_DISABLE (02 R50). -/
def execAngleDisable (src : Nat) (s : State) : Host.Outcome State Fault Refusal :=
  if src < 5 then .next (writeOne (angleCtrlAddr src) (angleCtrl { getSrc s src with en := false }) s) else .next s

/-- ANGLE_RESYNC (02 R50). -/
def execAngleResync (src : Nat) (s : State) : Host.Outcome State Fault Refusal :=
  if src < 5 then .next (writeOne (angleCtrlAddr src) (angleCtrl (getSrc s src) + 16) s) else .next s

/-- TMR_SWCAP (02 R70). -/
def execTmrSwcap (chan : Nat) (s : State) : Host.Outcome State Fault Refusal :=
  if chan < 16 then .next (writeOne (0x100 + 8 * chan) ((getTmr s chan).ctrl.toNat + 0x2000) s) else .next s

/-- TMR_CLR (02 R64). -/
def execTmrClr (chan : Nat) (s : State) : Host.Outcome State Fault Refusal :=
  if chan < 16 then .next (writeOne (0x100 + 8 * chan) ((getTmr s chan).ctrl.toNat + 0x4000) s) else .next s

end Sys2Proof.Machine
end

