-- ==== Sys2Proof/Machine/Air.lean ====
section
/-!
DEFINITION. Sys2Proof/Machine/Air.lean: frames as the island receives them and replies as it sends them: intervals to bits, bits to fields,
bits to the switching of its load (04 R109, R112, R113, R116 to R118, R127, R135, R136; 06 R182).
-/
namespace Sys2Proof.Machine

/-! ## The field detector (06 R182) -/

/-- What the field detector holds: the level of the carrier before the drop, whether it has declared field-off, the time since it last declared
either, and since the last field-off; and what it has measured: the carrier before the first gap, the field-off time of each gap, and the
interval from each field-off detection to the next. -/
structure FieldDetect where
  level : Nat
  off : Bool
  run : Nat
  since : Nat
  lead : Nat
  gaps : List Nat
  intervals : List Nat
  deriving DecidableEq, Repr

/-- One run of an amplitude: field-off below 25 % of the level before the drop, field-on above 50 % of it. The level before the drop is the
highest since field-on (DESIGN CHOICE, assumption log 21: R182 does not say when it is taken). -/
def detectRun (d : FieldDetect) (r : Nat × Nat) : FieldDetect :=
  let (cyc, amp) := r
  if d.off then
    if d.level < 2 * amp then { d with off := false, gaps := d.gaps ++ [d.run], level := amp, run := cyc, since := d.since + cyc }
    else { d with run := d.run + cyc, since := d.since + cyc }
  else if 4 * amp < d.level then
    { d with off := true, lead := if d.gaps.isEmpty then d.run else d.lead,
             intervals := if d.gaps.isEmpty then [] else d.intervals ++ [d.since], run := cyc, since := cyc }
  else { d with level := max d.level amp, run := d.run + cyc, since := d.since + cyc }

/-- What the detector measures of a frame, from a field that stands; a gap that does not end counts as far as it has come. -/
def detect (f : AirFrame) : FieldDetect :=
  let d := f.runs.foldl detectRun { level := 0, off := false, run := 0, since := 0, lead := 0, gaps := [], intervals := [] }
  if d.off then { d with gaps := d.gaps ++ [d.run] } else d

/-! ## Frames (R112, R113) -/

/-- An interval as a data bit (R112); none where it is no data bit. -/
def intervalBit (n : Nat) : Option Bool :=
  if 14 ≤ n ∧ n ≤ 22 then some false
  else if 24 ≤ n ∧ n ≤ 31 then some true
  else none

/-- The data bits of a frame's intervals, of which the last ends it. -/
def intervalBits : List Nat → Option (List Bool)
  | [] => none
  | [n] => if 33 ≤ n ∧ n ≤ 40 then some [] else none
  | n :: rest => match intervalBit n, intervalBits rest with
    | some b, some bs => some (b :: bs)
    | _, _ => none

/-- Lengths of a frame that are not discarded (R113): 8 bits, and 24 to 600. -/
def lengthOk (n : Nat) : Bool := n == 8 || (24 ≤ n && decide (n ≤ 600))

/-- The data bits of a frame; none where it is invalid, aborted or of a length that is discarded. A field-off time of 1 to 3 cyc is in no row of
R112: the frame that holds one is discarded (DESIGN CHOICE, assumption log 21). -/
def airBits (f : AirFrame) : Option (List Bool) :=
  let d := detect f
  if decide (32 ≤ d.lead) && d.gaps.all (fun g => 4 ≤ g && decide (g ≤ 12)) then (intervalBits d.intervals).filter fun bs => lengthOk bs.length
  else none

/-- The field was off for more than 64 cyc (R112, R126). -/
def airLost (f : AirFrame) : Bool := (detect f).gaps.any fun g => decide (64 < g)

/-- A frame as a base station sends it (R110). -/
def sentFrame (bits : List Bool) : AirFrame :=
  { runs := [(40, 1000), (8, 0)] ++ (bits.map (fun (b : Bool) => if b then 20 else 10) ++ [28]).flatMap fun n => [(n, 1000), (8, 0)] }

/-- The bits of a frame before its CRC. -/
def airFields (bits : List Bool) : List Bool := bits.take (bits.length - 16)

/-- A field of `w` bits at a place of a frame. -/
def field (bits : List Bool) (at' w : Nat) : Nat := natOfBits ((bits.drop at').take w)

/-- Command code of a frame. -/
def airCode (bits : List Bool) : Nat := field bits 0 8

/-- The receiver test of R127. -/
def crcOk (bits : List Bool) : Bool := crcReg bits == 0x1D0F

/-! ## Replies (R116 to R118) -/

/-- A reply of a body: preamble 1101, body, and a CRC over the body but in the reply to INV_WALK. -/
def replyFrame (walk : Bool) (body : List Bool) : List Bool :=
  [true, true, false, true] ++ body ++ (if walk then [] else bitsOf 16 (crc16 body).toNat)

/-- Half-bits of a reply, true where loaded (R117). -/
def replyHalves (reply : List Bool) : List Bool := reply.flatMap fun b => [b, !b]

/-- Whether the load is on in a cycle counted from E (R116, R117, R120, R122): the subcarrier is 4 cyc on, then 4 off, from E + 144. -/
def loadOn (slow : Bool) (reply : List Bool) (cyc : Nat) : Bool :=
  let x := cyc - 144
  144 ≤ cyc && (replyHalves reply).getD (x / if slow then 16 else 8) false && decide (x % 8 < 4)

end Sys2Proof.Machine
end

