-- ==== Sys2Proof/Machine/Island.lean ====
section
/-!
DEFINITION. Sys2Proof/Machine/Island.lean: the hitch island as a Class H tag: field sessions, the tag states and the commands of the
air protocol, secure commands (04 R113 to R150; 06 R180 to R205; 10 R291).
-/
namespace Sys2Proof.Machine

/-! ## Conditions (R180, R185, R192) -/

/-- VBAT is present (R180). -/
def hasVbat (s : State) : Bool := s.dev.mode != .off

def hitchEnabled (s : State) : Bool := par s (hitchId 0) == 1

/-- The island hears frames: it runs on a field with a lead behind it, hitch.enable is 1, and no commit or roll forward runs. -/
def tagHears (s : State) : Bool :=
  s.isl.powered && s.isl.field && hitchEnabled s && !committing s && s.isl.tag != .off

/-- A reply of a body at a rate. In FAILED with VBAT present the load modulator is off (R185). -/
def tagReplyAt (walk slow : Bool) (body : List Bool) (s : State) : State :=
  modIsl (fun i => { i with reply := if s.dev.failed && hasVbat s then [] else replyFrame walk body, replySlow := slow }) s

/-- A reply at the tag's own rate: fast where it has none (04 R117). -/
def tagReply (body : List Bool) (s : State) : State := tagReplyAt false s.isl.slow body s

def wordBits (w : Word) : List Bool := bitsOf 32 w.toNat
def statusBits (st : Nat) : List Bool := bitsOf 8 st

/-- Tag statuses (R137). -/
def TAG_OK : Nat := 0
def TAG_BAD_CMD : Nat := 1
def TAG_BAD_ARG : Nat := 2
def TAG_NO_AUTH : Nat := 3
def TAG_LOCKED : Nat := 4
def TAG_BAD_MAC : Nat := 5
def TAG_BAD_CTR : Nat := 6
def TAG_MEM_FAIL : Nat := 7

def tagStatus (st : Nat) (s : State) : State := tagReply (statusBits st) s

/-! ## States (R132, R133) -/

def isActiveTag : TagState → Bool
  | .ready => true
  | .inventoried => true
  | .authenticated => true
  | _ => false

/-- Handle states in which a command with the tag's own handle acts. -/
def hasHandle : TagState → Bool
  | .inventoried => true
  | .authenticated => true
  | _ => false

/-- READY: no handle, no rate, no session key (R132, R117). -/
def toReady (i : Island) : Island := { i with tag := .ready, handle := 0, hasRate := false, slow := false, ks := [], ctr := 0, lastFrame := [], lastReply := [] }

/-- OFF: everything of the session is lost (R126). -/
def toOff (i : Island) : Island :=
  { toReady i with tag := .off, prevTag := .off, prevHandle := 0, mark := false, rb := 0, rt := 0, rejects := 0, reply := [] }

/-- AUTH_WAIT gives way to the state before AUTH_1 or AUTH_1U (R133). -/
def revert (i : Island) : Island :=
  if i.tag = .authWait then
    (if i.prevHandle = 0 then { toReady i with mark := i.mark } else { i with tag := i.prevTag, handle := i.prevHandle })
  else i

/-- The reservoir's voltage changes, and the field level with it (R181); the rectifier clamps it at 8.0 V (R180). -/
def setReservoir (mv : Nat) (i : Island) : Island :=
  { i with reservoirMv := min 8000 mv, fieldLevel := min 1023 (min 8000 mv / 10) }

/-- The session closes (R197, R203, R205; 10 R291): auth_from and a waiting enrolment take effect, staged writes are applied. -/
def closeSession (s : State) : State :=
  let was := s.isl
  let due := was.session && was.reachedAuth && hasVbat s
  afterSession (modIsl (fun i =>
    { toOff i with session := false, coupled := false, wrote := false, reachedAuth := false, authFrom := par s (hitchId 2),
                   applying := !i.staged.isEmpty,
                   sessionsDue := if due then i.sessionsDue ++ [(was.fieldLevel, was.wrote)] else i.sessionsDue }) s)

/-- A frame that passes the checks of R113 up to the tag's state acts on its fields; one that is invalid, of a length its command does not
have, of another code, failing its CRC, or with a field out of range is discarded. `keeps` says that the frame has a row of its own for
AUTH_WAIT. A field-off time above 64 cyc is a field loss, though the field is back (R112, R126). No reply follows but the one that this frame
is given (R107). -/
def onFrame (code : Nat) (wellSized inRange keeps : List Bool → Bool) (act : List Bool → State → State) (f : AirFrame) (s : State) : State :=
  if !(s.isl.powered && s.isl.field) then s
  else if airLost f then closeSession s
  else
    let s := modIsl (fun i => { i with reply := [] }) s
    match (airBits f).filter fun _ => tagHears s with
    | none => s
    | some bits =>
      let x := airFields bits
      if airCode bits = code && wellSized bits && crcOk bits && inRange x then act x (if keeps x then s else modIsl revert s) else s

/-- A frame of a fixed length. -/
def sized (n : Nat) (bits : List Bool) : Bool := bits.length == n

def always (_ : List Bool) : Bool := true
def never (_ : List Bool) : Bool := false

/-- A frame named by the tag's own handle; handle 0x0000 is discarded (R144). 0xFFFF, which only QUIET accepts, is here a handle that is not
the tag's: the rules do not say whether it is a field out of range, which would leave AUTH_WAIT as it is (DESIGN CHOICE, assumption log 21). -/
def onHandle (code : Nat) (wellSized : List Bool → Bool) (act : List Bool → State → State) (f : AirFrame) (s : State) : State :=
  onFrame code wellSized (fun x => field x 8 16 != 0) never
    (fun x s => if hasHandle s.isl.tag && s.isl.handle == field x 8 16 then act x s else s) f s

/-! ## Inventory (R142, R143) -/

def uidBits (s : State) : List Bool := bitsOf 64 (deviceUid s).toNat

/-- Mask bit of Class H (R129). -/
def inMask (mask : BitVec 4) : Bool := mask.getLsbD 0

def setWalkMark (m : Bool) (s : State) : State := modIsl (fun i => { i with mark := m }) s

/-- INV_WALK (R133, R142): the reply goes at the rate the frame names, and carries no CRC. -/
def execInvWalk (f : AirFrame) (s : State) : Host.Outcome State Fault Refusal :=
  let p := fun (x : List Bool) => field x 13 7
  .next (onFrame 0x01 (fun bits => bits.length == 36 + field bits 13 7) (fun x => p x < 64) (fun x => p x == 0) (fun x s =>
    let mask : BitVec 4 := BitVec.ofNat 4 (field x 8 4)
    let slow := field x 12 1 == 1
    if s.isl.tag = .quiet then s
    else if p x = 0 then
      if inMask mask then tagReplyAt true slow (uidBits s) (modIsl (fun i => { toReady i with mark := true }) s) else setWalkMark false s
    else if s.isl.tag = .ready ∧ inMask mask ∧ (uidBits s).take (p x) = x.drop 20 then
      tagReplyAt true slow ((uidBits s).drop (p x)) (setWalkMark true s)
    else setWalkMark false s) f s)

/-- The ACK of INV_ASSIGN (R136). -/
def ackBits (s : State) : List Bool := wordBits (hitchDesc s) ++ (uidBits s).drop 32

/-- INV_ASSIGN (R133, R143): the ACK goes at the rate assigned. A handle of 0xFFFE or 0xFFFF is taken as a field out of range, and the frame
as discarded: R144 gives the handles that INV_ASSIGN assigns, and not what becomes of others (DESIGN CHOICE, assumption log 21). -/
def execInvAssign (f : AirFrame) (s : State) : Host.Outcome State Fault Refusal :=
  .next (onFrame 0x02 (sized 58) (fun x => field x 26 16 != 0 && decide (field x 26 16 ≤ 0xFFFD)) never (fun x s =>
    let direct := field x 8 1 == 1
    let mine := field x 10 16 == (uidchk (deviceUid s)).toNat
    let taken := if direct then isActiveTag s.isl.tag else s.isl.tag = .ready && s.isl.mark
    if mine && taken then
      let s := modIsl (fun i => { toReady i with tag := .inventoried, handle := field x 26 16, slow := field x 9 1 == 1, hasRate := true }) s
      tagReply (ackBits s) s
    else s) f s)

/-- QUIET (R133). -/
def execQuiet (f : AirFrame) (s : State) : Host.Outcome State Fault Refusal :=
  .next (onFrame 0x03 (sized 40) (fun x => field x 8 16 != 0) never (fun x s =>
    let s1 := modIsl (fun i => { i with tag := .quiet }) s
    if !hasHandle s.isl.tag then s
    else if field x 8 16 = 0xFFFF then s1
    else if s.isl.handle = field x 8 16 then tagStatus TAG_OK s1
    else s) f s)

/-- RESET_ALL (R133). -/
def execResetAll (f : AirFrame) (s : State) : Host.Outcome State Fault Refusal :=
  .next (onFrame 0x04 (sized 24) always never (fun _ s => modIsl toReady s) f s)

/-! ## Secure commands (R150) -/

/-- The request or reply mac under a counter value. -/
def macAt (s : State) (ctr : Nat) (msg : List Byte) : Word := mac4 s.isl.ks (beBytes 2 ctr ++ msg)

def secureReady (s : State) : Bool := s.isl.tag == .authenticated && !s.isl.ks.isEmpty

/-- The expected counter after the one before it. -/
def ctrBefore (s : State) : Nat := s.isl.ctr - 1

/-- A secure command is accepted: its reply is kept for a repeat, and the counter moves on. Past 0xFFFF the rule gives no value: the model
wraps it to 0 (R150; DESIGN CHOICE, assumption log 21). -/
def acceptSecure (frame reply : List Bool) (s : State) : State :=
  modIsl (fun i => { i with lastFrame := frame, lastReply := reply, ctr := (i.ctr + 1) % 65536 }) s

/-- A secure command that carries a mac: `act` answers status and the reply's bits between status and mac, none for a status that is
not OK. -/
def onSecure (frame : List Bool) (req : List Byte) (mac : Word) (act : State → State × Nat × List Byte) (s : State) : State :=
  if !secureReady s then tagStatus TAG_NO_AUTH s
  else
    let e := s.isl.ctr
    let past := decide (e ≠ 0) && macAt s (ctrBefore s) req == mac
    if macAt s e req = mac then
      let (t, st, body) := act s
      let bytes := BitVec.ofNat 8 st :: body
      let reply := if st = TAG_OK then bitsOfBytes bytes ++ wordBits (macAt s e (req ++ bytes)) else statusBits st
      tagReply reply (acceptSecure frame reply t)
    else if past then
      if frame = s.isl.lastFrame then tagReply s.isl.lastReply s else tagStatus TAG_BAD_CTR s
    else tagStatus TAG_BAD_MAC s

/-! ## Memory (R131, R139, R187 to R190) -/

/-- A protected page (R187). -/
def isProtected (s : State) (blk : Nat) : Bool := s.isl.authFrom ≤ blk / 4

/-- READ (R139, R188). -/
def execRead (f : AirFrame) (s : State) : Host.Outcome State Fault Refusal :=
  .next (onHandle 0x10 (sized 64) (fun x s =>
    let a := field x 24 16
    let n := field x 40 8
    if n = 0 then tagStatus TAG_OK s
    else if 8 < n ∨ islBlocks < a + n then tagStatus TAG_BAD_ARG s
    else
      let data := ((List.range n).map fun k => islBlock s (a + k)).flatMap fun w => beBytes 4 w.toNat
      if !isProtected s (a + n - 1) then tagReply (statusBits TAG_OK ++ bitsOfBytes data) s
      else if !secureReady s then tagStatus TAG_NO_AUTH s
      else if x = s.isl.lastFrame then tagReply s.isl.lastReply s
      else
        let bytes := (0 : Byte) :: data
        let reply := bitsOfBytes bytes ++ wordBits (macAt s s.isl.ctr (bytesOfBits x ++ bytes))
        tagReply reply (acceptSecure x reply s)) f s)

/-- One field WRITE that passed the checks of its form: the reservoir is tested, and the commit runs its steps 1 and 2 (R189, R190). -/
def fieldWrite (blk : Nat) (data : Word) (s : State) : State × Nat :=
  if islBlocks ≤ blk then (s, TAG_BAD_ARG)
  else if blk < 64 then (s, TAG_LOCKED)
  else if s.isl.reservoirMv < par s (hitchId 3) then (modIsl (fun i => { i with refused := i.refused + 1 }) s, TAG_MEM_FAIL)
  else (modIsl (fun i => { shadowWrite blk data i with wrote := true }) s, TAG_OK)

/-- The island resets and the tag goes OFF (R180), unless VBAT powers it; a commit flag stays set, and the step that runs is torn. -/
def islandSupply (s : State) : State :=
  if hasVbat s || 2200 ≤ s.isl.reservoirMv then s
  else modIsl (fun i => { i with powered := false, rolling := false }) (closeSession s)

/-- WRITE (R139, R150, R189), with the reservoir as it stands at E: the form of 120 bits is a secure command, whatever block it names. -/
def execWrite (f : AirFrame) (reservoirMv : Nat) (s : State) : Host.Outcome State Fault Refusal :=
  .next (onHandle 0x11 (fun bits => sized 88 bits || sized 120 bits) (fun x s =>
    let a := field x 24 16
    let data : Word := BitVec.ofNat 32 (field x 40 32)
    if x.length = 104 then
      onSecure x (bytesOfBits (x.take 72)) (BitVec.ofNat 32 (field x 72 32)) (fun s => ((fieldWrite a data s).1, (fieldWrite a data s).2, [])) s
    else if decide (a < islBlocks) && isProtected s a then tagStatus TAG_NO_AUTH s
    else tagStatus (fieldWrite a data s).2 (fieldWrite a data s).1) f
    (if s.isl.powered && s.isl.field then islandSupply (modIsl (setReservoir reservoirMv) s) else s))

/-! ## Authentication (R148, R149) -/

/-- The tag takes challenges: a hitch key is enrolled, and it has not rejected three proofs since READY from OFF. -/
def takesChallenge (s : State) : Bool := !s.isl.keyCell.isEmpty && s.isl.rejects < 3

/-- The answer to a challenge: AUTH_WAIT, rt and tp. -/
def answerChallenge (rb : Word) (handle : Nat) (s : State) : State :=
  let rt := Config.islandRt s.free
  let s := used 1 (modIsl (fun i => { i with prevTag := i.tag, prevHandle := i.handle, tag := .authWait, handle := handle, rb := rb, rt := rt }) s)
  tagReply (wordBits rt ++ wordBits (proofTp s.isl.keyCell rb rt (deviceUid s))) s

/-- AUTH_1 (R133, R148). -/
def execAuth1 (f : AirFrame) (s : State) : Host.Outcome State Fault Refusal :=
  .next (onHandle 0x20 (sized 72) (fun x s =>
    if takesChallenge s then answerChallenge (BitVec.ofNat 32 (field x 24 32)) s.isl.handle s else s) f s)

/-- AUTH_1U (R133, R148). -/
def execAuth1u (f : AirFrame) (s : State) : Host.Outcome State Fault Refusal :=
  .next (onFrame 0x21 (sized 72) always never (fun x s =>
    if !(isActiveTag s.isl.tag && takesChallenge s) then s
    else if field x 8 16 = (uidchk (deviceUid s)).toNat then answerChallenge (BitVec.ofNat 32 (field x 24 32)) 0xFFFE s
    else if s.isl.handle = 0xFFFE then modIsl toReady s
    else s) f s)

/-- AUTH_2 (R133, R148, R203). -/
def execAuth2 (f : AirFrame) (s : State) : Host.Outcome State Fault Refusal :=
  .next (onFrame 0x22 (sized 57) always always (fun x s =>
    if s.isl.tag ≠ .authWait then s
    else
      let say := fun (st : Nat) (s : State) => if field x 8 1 = 1 then tagStatus st s else s
      if (proofBp s.isl.keyCell s.isl.rb s.isl.rt (deviceUid s)).toNat = field x 9 32 then
        say TAG_OK (modIsl (fun i =>
          { i with tag := .authenticated, ks := sessionKey i.keyCell i.rb i.rt (deviceUid s), ctr := 0, lastFrame := [], lastReply := [],
                   reachedAuth := true, coupled := true }) s)
      else say TAG_BAD_MAC (modIsl (fun i => { revert i with ks := [], ctr := 0, lastFrame := [], lastReply := [], rejects := i.rejects + 1 }) s))
    f s)

/-! ## Class H commands (R141, 15 R436) -/

/-- Security version of the firmware running, or as block 9 last recorded it. -/
def islandSecver (s : State) : Nat := if isRunning s then hdrSecver (runBank s).blob else (islBlock s 9).toNat

/-- The island word (R141). -/
def islandWord (s : State) : Word :=
  BitVec.ofNat 32 (min 1023 (s.isl.reservoirMv / 10) * 2 ^ 22 + (committing s).toNat * 2 ^ 21 + (hostStaged s != 0).toNat * 2 ^ 20 +
    (hasVbat s).toNat * 2 ^ 19 + islandSecver s % 65536)

/-- H_STATUS (R141). -/
def execHStatus (f : AirFrame) (s : State) : Host.Outcome State Fault Refusal :=
  .next (onHandle 0x30 (sized 40) (fun _ s => tagReply (statusBits TAG_OK ++ wordBits (islandWord s)) s) f s)

/-- A chain operation over the hitch: the device behind the island answers it. -/
def hitchChain (op : Nat) (pl : List Byte) (s : State) : State × Nat × List Byte :=
  if !isRunning s then (s, TAG_BAD_CMD, [])
  else match chainOp .hitch op pl s with
    | none => (s, TAG_BAD_ARG, [])
    | some r => (r.1, TAG_OK, BitVec.ofNat 8 r.2.length :: r.2)

/-- H_CHAIN (R141, R150, R436): always a secure command; a len above 32 is answered with BAD_ARG once its mac is accepted. -/
def execHChain (f : AirFrame) (s : State) : Host.Outcome State Fault Refusal :=
  .next (onHandle 0x31 (fun bits => bits.length == 88 + 8 * field bits 32 8) (fun x s =>
    let len := field x 32 8
    let payload := bytesOfBits ((x.drop 40).take (8 * len))
    onSecure x (bytesOfBits (x.take (40 + 8 * len))) (BitVec.ofNat 32 (field x (40 + 8 * len) 32)) (fun s =>
      if 32 < len then (s, TAG_BAD_ARG, []) else hitchChain (field x 24 8) payload s) s) f s)

/-! ## Field and supply (R126, R180 to R182, R191 to R197, R203) -/

/-- The island starts (R180, R191): a commit flag found set is rolled forward. -/
def startIsland (i : Island) : Island := if i.powered then i else { i with powered := true, rolling := i.flag.isSome }

/-- HITCH_FIELD_RISE (R180 to R182): the field detect is a trigger of the timer channels (02 R64). -/
def execHitchFieldRise (reservoirMv : Nat) (s : State) : Host.Outcome State Fault Refusal :=
  let up := fun (i : Island) =>
    let i := { setReservoir reservoirMv i with field := true }
    if 2400 ≤ i.reservoirMv then startIsland i else i
  .next (if timebaseRuns s then captureTrig 7 (modIsl up s) else modIsl up s)

/-- A field session opens (R133, R192, R193). -/
def openSession (s : State) : State :=
  stageRest (modIsl (fun i =>
    { toOff i with tag := .ready, session := true, wrote := false, reachedAuth := false, sessions := i.sessions + 1 }) s)

/-- HITCH_LEAD (R133): a lead of 32 cyc or more; while a commit runs, frames are ignored but a session opens (R192, R196, R197). It wakes a sleeping device where pwr.hitch_wake is 1 (13 R366). -/
def execHitchLead (cyc : Nat) (s : State) : Host.Outcome State Fault Refusal :=
  if !(s.isl.powered && s.isl.field && hitchEnabled s && decide (32 ≤ cyc) && !s.isl.rolling && s.isl.tag == .off) then .next s
  else
    let s := openSession s
    if sleepItem s 8 = 1 then .next (wakeEvent 2 s) else .next s

/-- HITCH_FIELD_LOSS (R126). -/
def execHitchFieldLoss (s : State) : Host.Outcome State Fault Refusal :=
  if s.isl.field then .next (closeSession (modIsl (fun i => { i with field := false }) s)) else .next s

/-- ISLAND_BROWNOUT (R180): the reservoir falls below 2.2 V. -/
def execIslandBrownout (reservoirMv : Nat) (s : State) : Host.Outcome State Fault Refusal :=
  .next (islandSupply (modIsl (setReservoir reservoirMv) s))

/-- WAKE_PATTERN (04 R107, R115, R126; 06 R185; 13 R366): a frame of 8 bits, which gets no reply; a long field-off time in it is a field loss. -/
def execWakePattern (f : AirFrame) (s : State) : Host.Outcome State Fault Refusal :=
  let heard := (airBits f).any fun bits => bits.length == 8 && codeWakes s (natOfBits bits)
  if !(s.isl.powered && s.isl.field) then .next s
  else if airLost f then .next (closeSession s)
  else
    let s := modIsl (fun i => { i with reply := [] }) s
    if !committing s && hitchEnabled s && sleepItem s 8 == 0 && heard then .next (wakeEvent 2 s) else .next s

end Sys2Proof.Machine
end

