-- ==== Sys2Proof/Machine/KeyTimers.lean ====
section
/-!
DEFINITION. Sys2Proof/Machine/KeyTimers.lean: expiries of key sessions, holds, notices, requests and proofs, and the supervision of
the interlock echoes (07 R208, R216, R221, R223 to R233; 14 R398, R399).
-/
namespace Sys2Proof.Machine

/-! ## Keys -/

/-- The later of two clocks. -/
def laterOf (a b : Option Nat) : Option Nat :=
  match a, b with
  | some x, some y => some (max x y)
  | some x, none => some x
  | none, y => y

/-- SESSION_LAPSE (R216): PRESENT and AUTHENTICATED become AWAY. -/
def execSessionLapse (slot : Nat) (s : State) : Host.Outcome State Fault Refusal :=
  let q := getKey s slot
  if isRunning s && slot < 32 && keyActive s slot && (q.status == 1 || q.status == 2) then
    match laterOf q.heardClk q.authClk with
    | some t => .next (decideAll (checkHolds 4 (toAway slot (advanceTo (t + clkMs (par s (lockId 4 1))) s))))
    | none => .next (decideAll (checkHolds 4 (toAway slot s)))
  else .next s

/-- Demands of an enrolment are withdrawn, unless another KEY_ENROL waits for the same UID. -/
def dropEnrolDemand (uid : Dword) (s : State) : State :=
  if s.port.held.any fun h => (match h.kind with
    | .enrol _ _ u => u == uid
    | _ => false) then s
  else modSched (fun d => { d with svcs := d.svcs.map fun v => { v with demands := v.demands.filter fun x => x.uid != some uid } }) s

/-- KEY_ENROL_PROOF_TIMEOUT (R208): 10 s after its take, the oldest KEY_ENROL that no block has served. -/
def execKeyEnrolProofTimeout (s : State) : Host.Outcome State Fault Refusal :=
  match s.port.held.findSome? fun h => match h.kind with
    | .enrol _ _ u => some (h, u)
    | _ => none with
  | none => .next s
  | some (h, u) =>
    if !isRunning s then .next s
    else .next (dropEnrolDemand u (done h ST_ILK_NO_REPLY (advanceTo (h.taken + clkS 10) s)))

/-! ## Confirmed hold (R221, R230) -/

/-- Clock of the fix that last confirmed an output. -/
def holdClk (s : State) (o : Nat) : Nat := ((getKey s (getLock s o).holder).fix.map fun f => f.clk).getD s.clk

def heldConfirmed (s : State) (o : Nat) : Bool := o < 4 && (getLock s o).state == RELEASED && (getLock s o).items.hold

/-- CONFIRM_DEMAND (R221): half of confirm_ms after the last qualifying fix. -/
def execConfirmDemand (out : Nat) (s : State) : Host.Outcome State Fault Refusal :=
  if !(isRunning s && heldConfirmed s out) then .next s
  else
    let l := getLock s out
    let s := advanceTo (holdClk s out + clkMs l.items.confirmMs / 2) s
    if underWay s ZONE_TRACK l.holder then .next s else .next (raiseDemand ZONE_TRACK l.items.zones.toNat l.holder s)

/-- Clock at which the holder of an output no longer qualifies for want of a new fix or of a new IMMO_AUTH (R228 item 3, R230). -/
def lapseClk (s : State) (o : Nat) : Nat :=
  let l := getLock s o
  let fixEnd := holdClk s o + clkMs l.items.confirmMs
  1 + (match (getKey s l.holder).authClk with
    | some a => min fixEnd (a + clkMs l.items.authAgeMs)
    | none => fixEnd)

/-- CONFIRM_HOLD_LAPSE (R230): no fix within confirm_ms, or no IMMO_AUTH within auth_age_ms; another key that qualifies keeps the output. -/
def execConfirmHoldLapse (out : Nat) (s : State) : Host.Outcome State Fault Refusal :=
  if !(isRunning s && heldConfirmed s out) then .next s
  else
    let l := getLock s out
    let s := advanceTo (lapseClk s out) s
    match qualifier s out l.items with
    | some k => .next (modLock out (fun l => { l with holder := k }) s)
    | none => .next (dropOutput out 4 s)

/-! ## Notices and requests (R229, R233) -/

/-- NOTIFY_TIMEOUT (R229): the twin is silent for 5 ms. -/
def execNotifyTimeout (out : Nat) (s : State) : Host.Outcome State Fault Refusal :=
  if isRunning s && out < 4 && (getLock s out).state == NOTIFY then
    .next (withdrawNotice out ST_TWIN_NO_ACK (advanceTo ((getLock s out).notifyClk + clkMs 5) s))
  else .next s

/-- Requests pending on an output, oldest first. -/
def requestsOf (s : State) (o : Nat) : List Held :=
  s.port.held.filter fun h => match h.kind with
    | .lockRequest p _ => p == o
    | _ => false

/-- LOCK_REQUEST_TIMEOUT (R232, R233): the requests of an output complete together, request_ms after the oldest was taken. -/
def execLockRequestTimeout (out : Nat) (s : State) : Host.Outcome State Fault Refusal :=
  match requestsOf s out with
  | [] => .next s
  | h :: _ =>
    if !(isRunning s && out < 4) then .next s
    else
      let s := advanceTo (h.taken + clkMs (itemsInForce s out).requestMs) s
      .next (decideAll (completeRequests out (firstSeen (seenBy s out)) s))

/-! ## Echoes (R226, R229, R399) -/

/-- ILK_CHARGED (R229): 2 good periods in a row. A confirmed hold is looked at at once (R230): its key may have stopped qualifying meanwhile. -/
def execIlkCharged (out : Nat) (s : State) : Host.Outcome State Fault Refusal :=
  match (getLock s out).pulseClk with
  | some t =>
    if isRunning s && out < 4 && (getLock s out).state == CHARGING then .next (checkHolds 4 (releaseOutput out (advanceTo (t + 2 * pulsePeriod) s)))
    else .next s
  | none => .next s

/-- ILK_ECHO_MISSING (R226): CHARGING without 2 good periods in a row within 10, or 3 bad periods in a row while RELEASED. -/
def execIlkEchoMissing (out : Nat) (s : State) : Host.Outcome State Fault Refusal :=
  match (getLock s out).pulseClk with
  | some t =>
    if !(isRunning s && out < 4) then .next s
    else if (getLock s out).state = CHARGING then .next (readbackFault out 1 false (advanceTo (t + 10 * pulsePeriod) s))
    else if (getLock s out).state = RELEASED then
      .next (readbackFault out 1 true (advanceTo (t + ceilDiv (s.clk - t) pulsePeriod * pulsePeriod) s))
    else .next s
  | none => .next s

/-- The device supervises the echo of a locked output: not one that a notice of the twin covers, nor, as SIDING, before the notice
table has come (R398). -/
def supervises (s : State) (o : Nat) : Bool := !s.twin.notices.getLsbD o && (!isSiding s || s.twin.tableSeen)

/-- ILK_ECHO_WHILE_LOCKED (R226, R399). -/
def execIlkEchoWhileLocked (out : Nat) (s : State) : Host.Outcome State Fault Refusal :=
  if !(isRunning s && out < 4 && (getLock s out).state == LOCKED && supervises s out) then .next s
  else
    let s := readbackFault out 2 true (modDev (fun d => { d with echo := d.echo ||| (1 <<< out), kill := true }) s)
    let s := raiseTwin 2 (modTwin (fun t => { t with forceLocks := t.forceLocks + 1 }) s)
    .next (postEvent 0x8204 (payload [out, 1]) (sendTwinUp (.forceLock out) s))

/-- FORCE_LOCK_RELEASE (R399): every echo has been static low for 10 periods. A device that has turned FAILED releases the ball too (R384). -/
def execForceLockRelease (s : State) : Host.Outcome State Fault Refusal :=
  if s.dev.kill && boxRuns s && s.twin.notices == 0 then .next (modDev (fun d => { d with kill := false, echo := 0 }) s)
  else .next s

end Sys2Proof.Machine
end

