-- ==== Sys2Proof/Machine/Supply.lean ====
section
/-!
DEFINITION. Sys2Proof/Machine/Supply.lean: supplies, the reset ball, the watchdog, and the events that make the device FAILED (17 R463; 11 R317,
R319, R324; 13 R363, R377; 16 R442 to R448, R455; 10 R299).
-/
namespace Sys2Proof.Machine

/-! ## Supplies (17 R463) -/

/-- VBAT is present: the island runs on it (06 R180). -/
def supplyIsland (s : State) : State := modIsl startIsland s

/-- A supply at `mv` has passed a threshold that lies between two bounds; between them the spec leaves it open. -/
def passesThreshold (lo hi : Nat) (between : Nat → Bool) (mv : Nat) : Bool := if hi ≤ mv then true else if mv < lo then false else between mv

/-- VBAT has passed its rising power-on threshold (R463). -/
def vbatUp (mv : Nat) : Bool := passesThreshold 4300 4900 Config.vbatRises mv

/-- VIO has passed the threshold of a VIO mode (R463). -/
def vioUp (mode33 : Bool) (mv : Nat) : Bool :=
  if mode33 then passesThreshold 2600 2900 Config.vioRises mv else passesThreshold 1450 1650 Config.vioRises mv

/-- POWER_ON (R463): out of OFF a power-on reset, which takes the VIO mode and lasts until VIO has passed its threshold too; then boot
begins. -/
def execPowerOn (vbatMv vioMv : Nat) (defects : BitVec 12) (s : State) : Host.Outcome State Fault Refusal :=
  let supply := fun (s : State) => modDev (fun d => { d with vbatMv := vbatMv, vioMv := vioMv, defects := defects }) s
  match s.dev.mode with
  | .off =>
    if !vbatUp vbatMv then .next s
    else
      let mode33 := decide (2500 < vioMv)
      let s := resetDevice causePowerOn (supplyIsland s)
      .next (supply (modDev (fun d => { d with elapsedBase := s.nv.elapsedS, opBase := s.nv.opS, vio33 := mode33,
                                               mode := if vioUp mode33 vioMv then .boot else .held }) s))
  | .held =>
    if vbatUp vbatMv && vioUp s.dev.vio33 vioMv then .next (supply (modDev (fun d => { d with mode := .boot, bootClk := s.clk }) s)) else .next s
  | _ => .next s

/-- The device has lost its logic: what a reset wipes is gone, and boot does not begin. -/
def goDown (m : Mode) (s : State) : State :=
  let failed := s.dev.failed
  modDev (fun d => { d with mode := m, failed := failed }) (resetDevice causePowerOn s)

/-- VBAT_FALL (R463, 13 R363): OFF, from every state; the island goes on only on a reservoir of 2.2 V or more (06 R180). A reset from FAILED by power shows RESET_CAUSE bit 5 too (16 R449). -/
def execVbatFall (s : State) : Host.Outcome State Fault Refusal :=
  if s.dev.mode = .off then .next s else .next (islandSupply (goDown .off (locksStatic s)))

/-- VIO_FALL (R463): the device resets, and stays in reset until VIO is back. -/
def execVioFall (s : State) : Host.Outcome State Fault Refusal :=
  if s.dev.mode = .off ∨ s.dev.mode = .held then .next s
  else .next (modDev (fun d => { d with mode := .held }) (resetDevice causePowerOn (locksStatic s)))

/-- Whether the device has its supplies. -/
def supplied (s : State) : Bool := s.dev.mode != .off && s.dev.mode != .held

/-- BROWNOUT (11 R324): VBAT below 6 V. -/
def execBrownout (vbatMv : Nat) (s : State) : Host.Outcome State Fault Refusal :=
  if supplied s && decide (vbatMv < 6000) then
    .next (raise 0x189 1 <| modPwr (fun p => { p with brownout := true }) (setVbat vbatMv s))
  else .next s

/-- VBAT_HIGH (11 R324): VBAT above 36 V. -/
def execVbatHigh (vbatMv : Nat) (s : State) : Host.Outcome State Fault Refusal :=
  if supplied s && decide (36000 < vbatMv) then
    .next (raise 0x189 2 <| modPwr (fun p => { p with vbatHigh := true }) (setVbat vbatMv s))
  else .next s

/-- Whether a low pulse on RST_N resets (R463): 1 µs does, 200 ns does not; between them the spec leaves it open. -/
def rstTaken (ns : Nat) : Bool := if 1000 ≤ ns then true else if ns ≤ 200 then false else Config.rstPulseTaken ns

/-- RST_N_PULSE (11 R319). -/
def execRstNPulse (lowNs : Nat) (s : State) : Host.Outcome State Fault Refusal :=
  if supplied s && rstTaken lowNs then .next (resetDevice causeRstN (locksStatic s)) else .next s

/-! ## Watchdog and device faults (16 R445, R448) -/

/-- WATCHDOG_EXPIRY (R448): the signal box runs in RUN and in sleep entry. -/
def execWatchdogExpiry (s : State) : Host.Outcome State Fault Refusal :=
  if boxRuns s then .next (watchdogReset 0x0010 0 (locksStatic s)) else .next s

/-- TRNG_HEALTH_FAILURE (10 R299). -/
def execTrngHealthFailure (test : Nat) (s : State) : Host.Outcome State Fault Refusal :=
  if supplied s then .next (failDevice 0x0003 test (modSec (fun x => { x with trngFailed := true }) s)) else .next s

/-- CORE_UNDERVOLTAGE (R442 test 8). -/
def execCoreUndervoltage (s : State) : Host.Outcome State Fault Refusal := .next (failDevice 0x0001 8 s)

/-- ECC_ERROR (R445): 1 SRAM, 2 window, 3 code. -/
def execEccError (region : Nat) (s : State) : Host.Outcome State Fault Refusal :=
  if 1 ≤ region && decide (region ≤ 3) then .next (failDevice 0x0002 region s) else .next s

/-- ECC_CORRECTED (R455, R456): counted; the event at most once a second. -/
def execEccCorrected (region : Nat) (s : State) : Host.Outcome State Fault Refusal :=
  if !(boxRuns s && decide (1 ≤ region) && decide (region ≤ 3)) then .next s
  else
    let s := modDev (fun d => { d with sramCorrected := d.sramCorrected + 1 }) s
    if s.dev.failed || s.dev.eccEventClk.any fun t => decide (s.clk < t + clkS 1) then .next s
    else
      let bytes := payload [region, 0, 0, 0] ++ leBytes 4 s.dev.sramCorrected.toNat
      .next (postEvent 0x8403 bytes (modDev (fun d => { d with eccEventClk := some s.clk }) s))

/-- OVERTEMP_FAIL (13 R377): T_hot has stood at 160 °C or more for 10 ms. -/
def execOvertempFail (s : State) : Host.Outcome State Fault Refusal :=
  if 1600 ≤ tHot s then .next (failDevice 0x0007 (hottest s.dev.sensors).2 s) else .next s

/-- BRIDGE_FAULT_TEST (R446): test 9 on a line that has recorded fault 5. -/
def execBridgeFaultTest (line : Nat) (switchFails : Bool) (s : State) : Host.Outcome State Fault Refusal :=
  if isRunning s && decide (line < 24) && (getLine s line).fault == 5 && switchFails then .next (failDevice 0x0008 line s) else .next s

/-! ## Periodic self-tests (16 R443) -/

/-- The periodic tests, in bit order. -/
def periodicTests : List Nat := [0, 1, 2, 3, 4, 6, 7, 9, 10]

/-- PERIODIC_SELFTEST (R443): `failed` is what the silicon does. -/
def execPeriodicSelftest (failed : Bool) (s : State) : Host.Outcome State Fault Refusal :=
  let k := periodicTests.getD s.dev.nextTest 0
  if !(takesDescriptors s && !s.dev.failed) || testWaits s k then .next s
  else
    let s := advanceTo (s.dev.selftestClk + clkS (par s (sysId 0))) s
    let s := modDev (fun d => { d with lastTest := k, testsRun := d.testsRun + 1, selftestClk := s.clk,
                                       nextTest := (d.nextTest + 1) % periodicTests.length }) s
    if failed || testFinds s k then .next (failDevice (testFault s k).1 (testFault s k).2 s) else .next s

end Sys2Proof.Machine
end

