-- ==== Sys2Proof/Machine/UpdCmds.lean ====
section
/-!
DEFINITION. Sys2Proof/Machine/UpdCmds.lean: the UPD_ commands (12 R353; 15 R420 to R428).
-/
namespace Sys2Proof.Machine

/-- UPD_HEADER (R420, R421): word 4 the pieces of the image. -/
def updHeader (h : Held) (s : State) : State := inTurn h headerSigned s

def execUpdHeader (ring : Nat) (s : State) : Host.Outcome State Fault Refusal := cmdBuf ring 0x0C01 updHeader s

/-- UPD_PIECE (R423): word 4 the pieces still missing. A piece to decrypt is a background job (10 R293). -/
def updPiece (h : Held) (s : State) : State :=
  match pieceStatus s h.a0.toNat h.len with
  | some st => done1 h st (w (piecesMissing s)) s
  | none => submitJob false (jobParts h.len) (pieceSlot (idleBank s).blob) h s

def execUpdPiece (ring : Nat) (s : State) : Host.Outcome State Fault Refusal := cmdBuf ring 0x0C02 updPiece s

/-- UPD_VERIFY (R424): a job of the hash engine. -/
def updVerify (h : Held) (s : State) : State :=
  if s.nv.updStage ≠ RECEIVED then done h ST_UPD_STAGE s
  else beginVerify h.ring h.idx (setKind h (.job s.sec.nextJob) s)

def execUpdVerify (ring : Nat) (s : State) : Host.Outcome State Fault Refusal := cmdPlain ring 0x0C03 updVerify s

/-- UPD_ACTIVATE (R425): the device resets and posts no completion. -/
def updActivate (h : Held) (s : State) : State :=
  match activateRefused s with
  | some st => done h st (if st = ST_CTR_EXHAUSTED then retire s else s)
  | none => activateImage s

def execUpdActivate (ring : Nat) (s : State) : Host.Outcome State Fault Refusal := cmdPlain ring 0x0C04 updActivate s

/-- UPD_CONFIRM (R427). -/
def updConfirm (h : Held) (s : State) : State :=
  if s.nv.updStage ≠ TRIAL then done h ST_OK s
  else if nonceLeft s then done h ST_OK (confirmImage s)
  else done h ST_CTR_EXHAUSTED (retire s)

def execUpdConfirm (ring : Nat) (s : State) : Host.Outcome State Fault Refusal := cmdPlain ring 0x0C05 updConfirm s

/-- The resumption bitmap (R428). -/
def bitmapBytes (s : State) : List Byte :=
  let n := hdrPieces (handBlob s)
  (List.range (ceilDiv n 8)).map fun j => BitVec.ofNat 8 (ofBits ((List.range 8).map fun k => s.nv.bitmap.contains (8 * j + k)))

/-- UPD_STATUS (R428). -/
def updStatus (h : Held) (s : State) : State :=
  doneBytes h (bitmapBytes s) (w s.nv.updStage) (w (piecesMissing s)) (w (imageIdNat (handBlob s))) s

def execUpdStatus (ring : Nat) (s : State) : Host.Outcome State Fault Refusal := cmdBuf ring 0x0C06 updStatus s

/-- UPD_ABORT (R428). -/
def updAbort (h : Held) (s : State) : State :=
  if s.nv.updStage = TRIAL then done h ST_UPD_STAGE s
  else if s.nv.updStage = VERIFYING then setKind h .updAbort s
  else if s.nv.updStage = IDLE then done h ST_OK s
  else done h ST_OK (abandonImage s)

def execUpdAbort (ring : Nat) (s : State) : Host.Outcome State Fault Refusal := cmdPlain ring 0x0C07 updAbort s

end Sys2Proof.Machine
end

