-- ==== Sys2Proof/Machine/Dispatch.lean ====
section
/-!
DEFINITION. Sys2Proof/Machine/Dispatch.lean: one arm per command of the table, each one call of its meaning.
-/
namespace Sys2Proof.Machine

def exec (i : Instr) (s : State) : Host.Outcome State Fault Refusal :=
  match i with
  | .powerOn vbatMv vioMv defects => Sys2Proof.Machine.execPowerOn vbatMv vioMv defects s
  | .rstNPulse lowNs => Sys2Proof.Machine.execRstNPulse lowNs s
  | .vbatFall => Sys2Proof.Machine.execVbatFall s
  | .vioFall => Sys2Proof.Machine.execVioFall s
  | .brownout vbatMv => Sys2Proof.Machine.execBrownout vbatMv s
  | .vbatHigh vbatMv => Sys2Proof.Machine.execVbatHigh vbatMv s
  | .bootReady => Sys2Proof.Machine.execBootReady s
  | .watchdogExpiry => Sys2Proof.Machine.execWatchdogExpiry s
  | .trngHealthFailure test => Sys2Proof.Machine.execTrngHealthFailure test s
  | .coreUndervoltage => Sys2Proof.Machine.execCoreUndervoltage s
  | .eccError region => Sys2Proof.Machine.execEccError region s
  | .eccCorrected region => Sys2Proof.Machine.execEccCorrected region s
  | .periodicSelftest failed => Sys2Proof.Machine.execPeriodicSelftest failed s
  | .bridgeFaultTest line switchFails => Sys2Proof.Machine.execBridgeFaultTest line switchFails s
  | .overtempFail => Sys2Proof.Machine.execOvertempFail s
  | .spiRegisterWrite cmd data => Sys2Proof.Machine.execSpiRegisterWrite cmd data s
  | .spiWindowWrite cmd index data => Sys2Proof.Machine.execSpiWindowWrite cmd index data s
  | .spiWindowRead cmd index words => Sys2Proof.Machine.execSpiWindowRead cmd index words s
  | .spiFrameAbort whole cutBits => Sys2Proof.Machine.execSpiFrameAbort whole cutBits s
  | .hostReset => Sys2Proof.Machine.execHostReset s
  | .doorbell ring data => Sys2Proof.Machine.execDoorbell ring data s
  | .tokenViolCountRead => Sys2Proof.Machine.execTokenViolCountRead s
  | .evtLostRead => Sys2Proof.Machine.execEvtLostRead s
  | .heatDeferRead => Sys2Proof.Machine.execHeatDeferRead s
  | .twinLinkErrRead => Sys2Proof.Machine.execTwinLinkErrRead s
  | .angleEnable src => Sys2Proof.Machine.execAngleEnable src s
  | .angleDisable src => Sys2Proof.Machine.execAngleDisable src s
  | .angleResync src => Sys2Proof.Machine.execAngleResync src s
  | .tmrSwcap chan => Sys2Proof.Machine.execTmrSwcap chan s
  | .tmrClr chan => Sys2Proof.Machine.execTmrClr chan s
  | .tmrCompareMatch chan => Sys2Proof.Machine.execTmrCompareMatch chan s
  | .tmrOverflow chan => Sys2Proof.Machine.execTmrOverflow chan s
  | .tmrCaptureTrigger trig => Sys2Proof.Machine.execTmrCaptureTrigger trig s
  | .angleEdge src rising forward dated => Sys2Proof.Machine.execAngleEdge src rising forward dated s
  | .angleIndexEdge src rising dated => Sys2Proof.Machine.execAngleIndexEdge src rising dated s
  | .angleGlitch src clocks => Sys2Proof.Machine.execAngleGlitch src clocks s
  | .angleStall src => Sys2Proof.Machine.execAngleStall src s
  | .entryArm svc opp => Sys2Proof.Machine.execEntryArm svc opp s
  | .ledgerStep sensors vbatMv => Sys2Proof.Machine.execLedgerStep sensors vbatMv s
  | .admissionFinal svc => Sys2Proof.Machine.execAdmissionFinal svc s
  | .entryCrossing svc opp => Sys2Proof.Machine.execEntryCrossing svc opp s
  | .liveCalStep line boundary cur volt => Sys2Proof.Machine.execLiveCalStep line boundary cur volt s
  | .replyWindowClose svc rx => Sys2Proof.Machine.execReplyWindowClose svc rx s
  | .lineFault line obs => Sys2Proof.Machine.execLineFault line obs s
  | .headroomLimit line cyc ma => Sys2Proof.Machine.execHeadroomLimit line cyc ma s
  | .blockEnd svc meas => Sys2Proof.Machine.execBlockEnd svc meas s
  | .kpAnswer pkt => Sys2Proof.Machine.execKpAnswer pkt s
  | .fobData pkt => Sys2Proof.Machine.execFobData pkt s
  | .ztReport pkt => Sys2Proof.Machine.execZtReport pkt s
  | .preambleDetected => Sys2Proof.Machine.execPreambleDetected s
  | .radioTxRequest => Sys2Proof.Machine.execRadioTxRequest s
  | .synthLock => Sys2Proof.Machine.execSynthLock s
  | .lockLoss => Sys2Proof.Machine.execLockLoss s
  | .paRampStart => Sys2Proof.Machine.execPaRampStart s
  | .txEnd => Sys2Proof.Machine.execTxEnd s
  | .txDeadlineExpiry => Sys2Proof.Machine.execTxDeadlineExpiry s
  | .coexWaitExpiry => Sys2Proof.Machine.execCoexWaitExpiry s
  | .coexGrantRise => Sys2Proof.Machine.execCoexGrantRise s
  | .coexGrantFall => Sys2Proof.Machine.execCoexGrantFall s
  | .rangingExchange devDelayPs => Sys2Proof.Machine.execRangingExchange devDelayPs s
  | .rangingEnd tones => Sys2Proof.Machine.execRangingEnd tones s
  | .reportAgeExpiry slot => Sys2Proof.Machine.execReportAgeExpiry slot s
  | .keyPollListenEnd => Sys2Proof.Machine.execKeyPollListenEnd s
  | .bgCalInterval => Sys2Proof.Machine.execBgCalInterval s
  | .bgCalSliceEnd => Sys2Proof.Machine.execBgCalSliceEnd s
  | .sessionLapse slot => Sys2Proof.Machine.execSessionLapse slot s
  | .confirmDemand out => Sys2Proof.Machine.execConfirmDemand out s
  | .confirmHoldLapse out => Sys2Proof.Machine.execConfirmHoldLapse out s
  | .notifyTimeout out => Sys2Proof.Machine.execNotifyTimeout out s
  | .lockRequestTimeout out => Sys2Proof.Machine.execLockRequestTimeout out s
  | .ilkCharged out => Sys2Proof.Machine.execIlkCharged out s
  | .ilkEchoMissing out => Sys2Proof.Machine.execIlkEchoMissing out s
  | .ilkEchoWhileLocked out => Sys2Proof.Machine.execIlkEchoWhileLocked out s
  | .forceLockRelease => Sys2Proof.Machine.execForceLockRelease s
  | .keyEnrolProofTimeout => Sys2Proof.Machine.execKeyEnrolProofTimeout s
  | .hitchFieldRise reservoirMv => Sys2Proof.Machine.execHitchFieldRise reservoirMv s
  | .hitchLead cyc => Sys2Proof.Machine.execHitchLead cyc s
  | .hitchFieldLoss => Sys2Proof.Machine.execHitchFieldLoss s
  | .wakePattern f => Sys2Proof.Machine.execWakePattern f s
  | .invWalk f => Sys2Proof.Machine.execInvWalk f s
  | .invAssign f => Sys2Proof.Machine.execInvAssign f s
  | .quiet f => Sys2Proof.Machine.execQuiet f s
  | .resetAll f => Sys2Proof.Machine.execResetAll f s
  | .read f => Sys2Proof.Machine.execRead f s
  | .write f reservoirMv => Sys2Proof.Machine.execWrite f reservoirMv s
  | .auth1 f => Sys2Proof.Machine.execAuth1 f s
  | .auth1u f => Sys2Proof.Machine.execAuth1u f s
  | .auth2 f => Sys2Proof.Machine.execAuth2 f s
  | .hStatus f => Sys2Proof.Machine.execHStatus f s
  | .hChain f => Sys2Proof.Machine.execHChain f s
  | .islandCommitComplete => Sys2Proof.Machine.execIslandCommitComplete s
  | .xpmApplied => Sys2Proof.Machine.execXpmApplied s
  | .chainOffer via payload => Sys2Proof.Machine.execChainOffer via payload s
  | .chainData via payload => Sys2Proof.Machine.execChainData via payload s
  | .chainStatus via => Sys2Proof.Machine.execChainStatus via s
  | .chainWithdraw via => Sys2Proof.Machine.execChainWithdraw via s
  | .chainOfferTimer => Sys2Proof.Machine.execChainOfferTimer s
  | .autoConfirm => Sys2Proof.Machine.execAutoConfirm s
  | .hello h role lastRole => Sys2Proof.Machine.execHello h role lastRole s
  | .heartbeat h => Sys2Proof.Machine.execHeartbeat h s
  | .mirror h seq recs => Sys2Proof.Machine.execMirror h seq recs s
  | .mirrorAck h seq => Sys2Proof.Machine.execMirrorAck h seq s
  | .notify h out => Sys2Proof.Machine.execNotify h out s
  | .notifyAck h out => Sys2Proof.Machine.execNotifyAck h out s
  | .drop h out => Sys2Proof.Machine.execDrop h out s
  | .noticeEnd out => Sys2Proof.Machine.execNoticeEnd out s
  | .noticeTable h outs => Sys2Proof.Machine.execNoticeTable h outs s
  | .sleep h target => Sys2Proof.Machine.execSleep h target s
  | .sleepAck h target => Sys2Proof.Machine.execSleepAck h target s
  | .failedFrame h code arg => Sys2Proof.Machine.execFailedFrame h code arg s
  | .resetReq h => Sys2Proof.Machine.execResetReq h s
  | .unpair h => Sys2Proof.Machine.execUnpair h s
  | .pairHello m => Sys2Proof.Machine.execPairHello m s
  | .pairKey m => Sys2Proof.Machine.execPairKey m s
  | .pairConfirm mac => Sys2Proof.Machine.execPairConfirm mac s
  | .pairDone => Sys2Proof.Machine.execPairDone s
  | .twinPeerTimeout => Sys2Proof.Machine.execTwinPeerTimeout s
  | .twinHbTimeout => Sys2Proof.Machine.execTwinHbTimeout s
  | .twinLinkDown => Sys2Proof.Machine.execTwinLinkDown s
  | .twinLinkFail => Sys2Proof.Machine.execTwinLinkFail s
  | .roleDecision => Sys2Proof.Machine.execRoleDecision s
  | .busRequestRx f => Sys2Proof.Machine.execBusRequestRx f s
  | .tpFrameRx f => Sys2Proof.Machine.execTpFrameRx f s
  | .addressClaimRx f => Sys2Proof.Machine.execAddressClaimRx f s
  | .commandedAddressRx name addr => Sys2Proof.Machine.execCommandedAddressRx name addr s
  | .proprietaryARx f => Sys2Proof.Machine.execProprietaryARx f s
  | .busFrameRx f => Sys2Proof.Machine.execBusFrameRx f s
  | .tpTimeout session => Sys2Proof.Machine.execTpTimeout session s
  | .bamFrameTimer => Sys2Proof.Machine.execBamFrameTimer s
  | .claimHoldoffExpiry => Sys2Proof.Machine.execClaimHoldoffExpiry s
  | .busOffEntry => Sys2Proof.Machine.execBusOffEntry s
  | .busOffRecovery => Sys2Proof.Machine.execBusOffRecovery s
  | .wakeSourceEvent source => Sys2Proof.Machine.execWakeSourceEvent source s
  | .wakeTimerExpiry => Sys2Proof.Machine.execWakeTimerExpiry s
  | .wakeStepReady us => Sys2Proof.Machine.execWakeStepReady us s
  | .wakeStepTimeout => Sys2Proof.Machine.execWakeStepTimeout s
  | .sleepPrepareTimeout => Sys2Proof.Machine.execSleepPrepareTimeout s
  | .sleepCommit => Sys2Proof.Machine.execSleepCommit s
  | .patrolHourlyCheck => Sys2Proof.Machine.execPatrolHourlyCheck s
  | .elapsedTimeSave => Sys2Proof.Machine.execElapsedTimeSave s
  | .maintActivityEnd patrol => Sys2Proof.Machine.execMaintActivityEnd patrol s
  | .engineJobComplete job => Sys2Proof.Machine.execEngineJobComplete job s
  | .sysReset ring => Sys2Proof.Machine.execSysReset ring s
  | .sysXpmRead ring => Sys2Proof.Machine.execSysXpmRead ring s
  | .sysXpmWrite ring => Sys2Proof.Machine.execSysXpmWrite ring s
  | .sysBusSend ring => Sys2Proof.Machine.execSysBusSend ring s
  | .sysBusClaim ring => Sys2Proof.Machine.execSysBusClaim ring s
  | .paramGet ring => Sys2Proof.Machine.execParamGet ring s
  | .paramSet ring => Sys2Proof.Machine.execParamSet ring s
  | .paramGetMany ring => Sys2Proof.Machine.execParamGetMany ring s
  | .paramSetMany ring => Sys2Proof.Machine.execParamSetMany ring s
  | .paramSave ring => Sys2Proof.Machine.execParamSave ring s
  | .ringSetup ring => Sys2Proof.Machine.execRingSetup ring s
  | .ringPost ring => Sys2Proof.Machine.execRingPost ring s
  | .ringCancel ring => Sys2Proof.Machine.execRingCancel ring s
  | .routeLineClear ring => Sys2Proof.Machine.execRouteLineClear ring s
  | .routeStatus ring => Sys2Proof.Machine.execRouteStatus ring s
  | .svcDefine ring => Sys2Proof.Machine.execSvcDefine ring s
  | .svcUndefine ring => Sys2Proof.Machine.execSvcUndefine ring s
  | .svcDemand ring => Sys2Proof.Machine.execSvcDemand ring s
  | .rosterAdd ring => Sys2Proof.Machine.execRosterAdd ring s
  | .rosterFind ring => Sys2Proof.Machine.execRosterFind ring s
  | .rosterGet ring => Sys2Proof.Machine.execRosterGet ring s
  | .rosterSetOwner ring => Sys2Proof.Machine.execRosterSetOwner ring s
  | .rosterDelete ring => Sys2Proof.Machine.execRosterDelete ring s
  | .rosterCompact ring => Sys2Proof.Machine.execRosterCompact ring s
  | .authKey ring => Sys2Proof.Machine.execAuthKey ring s
  | .authStatus ring => Sys2Proof.Machine.execAuthStatus ring s
  | .lockRequest ring => Sys2Proof.Machine.execLockRequest ring s
  | .lockEngineStopped ring => Sys2Proof.Machine.execLockEngineStopped ring s
  | .lockDrop ring => Sys2Proof.Machine.execLockDrop ring s
  | .lockClear ring echoLow => Sys2Proof.Machine.execLockClear ring echoLow s
  | .zoneFix ring => Sys2Proof.Machine.execZoneFix ring s
  | .zoneGet ring => Sys2Proof.Machine.execZoneGet ring s
  | .rangeDetail ring => Sys2Proof.Machine.execRangeDetail ring s
  | .radioCal ring => Sys2Proof.Machine.execRadioCal ring s
  | .radioCw ring => Sys2Proof.Machine.execRadioCw ring s
  | .radioCwEnd => Sys2Proof.Machine.execRadioCwEnd s
  | .radioStop ring => Sys2Proof.Machine.execRadioStop ring s
  | .keyEnrol ring => Sys2Proof.Machine.execKeyEnrol ring s
  | .keyRevoke ring => Sys2Proof.Machine.execKeyRevoke ring s
  | .keyList ring => Sys2Proof.Machine.execKeyList ring s
  | .keyOemRoot ring => Sys2Proof.Machine.execKeyOemRoot ring s
  | .keyOtpWrite ring => Sys2Proof.Machine.execKeyOtpWrite ring s
  | .keyOtpRead ring => Sys2Proof.Machine.execKeyOtpRead ring s
  | .keyXportOpen ring => Sys2Proof.Machine.execKeyXportOpen ring s
  | .keyImport ring => Sys2Proof.Machine.execKeyImport ring s
  | .keyGenerate ring => Sys2Proof.Machine.execKeyGenerate ring s
  | .keyHitchEnrol ring => Sys2Proof.Machine.execKeyHitchEnrol ring s
  | .keyDestroy ring => Sys2Proof.Machine.execKeyDestroy ring s
  | .keyCmac ring => Sys2Proof.Machine.execKeyCmac ring s
  | .keyCcmEnc ring => Sys2Proof.Machine.execKeyCcmEnc ring s
  | .keyCcmDec ring => Sys2Proof.Machine.execKeyCcmDec ring s
  | .keySha ring => Sys2Proof.Machine.execKeySha ring s
  | .keySign ring => Sys2Proof.Machine.execKeySign ring s
  | .keyVerify ring => Sys2Proof.Machine.execKeyVerify ring s
  | .keyCtrAdvance ring => Sys2Proof.Machine.execKeyCtrAdvance ring s
  | .keyAttest ring => Sys2Proof.Machine.execKeyAttest ring s
  | .keyCertRead ring => Sys2Proof.Machine.execKeyCertRead ring s
  | .keyLifecycle ring => Sys2Proof.Machine.execKeyLifecycle ring s
  | .updHeader ring => Sys2Proof.Machine.execUpdHeader ring s
  | .updPiece ring => Sys2Proof.Machine.execUpdPiece ring s
  | .updVerify ring => Sys2Proof.Machine.execUpdVerify ring s
  | .updActivate ring => Sys2Proof.Machine.execUpdActivate ring s
  | .updConfirm ring => Sys2Proof.Machine.execUpdConfirm ring s
  | .updStatus ring => Sys2Proof.Machine.execUpdStatus ring s
  | .updAbort ring => Sys2Proof.Machine.execUpdAbort ring s
  | .twinPair ring => Sys2Proof.Machine.execTwinPair ring s
  | .twinUnpair ring => Sys2Proof.Machine.execTwinUnpair ring s
  | .twinResync ring => Sys2Proof.Machine.execTwinResync ring s
  | .twinStatus ring => Sys2Proof.Machine.execTwinStatus ring s
  | .maintRefresh ring => Sys2Proof.Machine.execMaintRefresh ring s
  | .maintCalSweep ring => Sys2Proof.Machine.execMaintCalSweep ring s
  | .maintCancel ring => Sys2Proof.Machine.execMaintCancel ring s
  | .maintStatus ring => Sys2Proof.Machine.execMaintStatus ring s
  | .pwrSleep ring => Sys2Proof.Machine.execPwrSleep ring s
  | .pwrHeat ring => Sys2Proof.Machine.execPwrHeat ring s
  | .diagTtRead ring => Sys2Proof.Machine.execDiagTtRead ring s
  | .diagCapture ring => Sys2Proof.Machine.execDiagCapture ring s
  | .diagSelftest ring fails => Sys2Proof.Machine.execDiagSelftest ring fails s
  | .diagFaultLog ring => Sys2Proof.Machine.execDiagFaultLog ring s
  | .diagEcho ring => Sys2Proof.Machine.execDiagEcho ring s
  | .islandBrownout reservoirMv => Sys2Proof.Machine.execIslandBrownout reservoirMv s
  | .sleepAckTimeout => Sys2Proof.Machine.execSleepAckTimeout s
  | .forceLockNotice h out => Sys2Proof.Machine.execForceLockNotice h out s
  | .heartbeatResumed => Sys2Proof.Machine.execHeartbeatResumed s
  | .heartbeatTimer => Sys2Proof.Machine.execHeartbeatTimer s
  | .canFrameSent => Sys2Proof.Machine.execCanFrameSent s
  | .flashWriteComplete => Sys2Proof.Machine.execFlashWriteComplete s
  | .vendorProvisioning cert imgKey sig => Sys2Proof.Machine.execVendorProvisioning cert imgKey sig s
  | .asleepRegisterRead addr => Sys2Proof.Machine.execAsleepRegisterRead addr s
  | .takeoverEchoSettled allLow => Sys2Proof.Machine.execTakeoverEchoSettled allLow s

end Sys2Proof.Machine
end

