-- ==== Sys2Proof/WellFormed.lean ====
section
/-!
DEFINITION. Sys2Proof/WellFormed.lean: which commands are well formed: operands within what the spec lets arrive. The machine has a meaning for
every term; a term out of these ranges is no command of the device, and its meaning leaves the state as it is or clips it.
-/
namespace Sys2Proof

/-- A phasor's parts are 10-bit two's complement (03 R88). -/
def Phasor.wf (p : Phasor) : Bool := -512 ≤ p.i && p.i < 512 && -512 ≤ p.q && p.q < 512

/-- A channel names a line; it listens at five start offsets (04 R119). -/
def RxChannel.wf (c : RxChannel) : Bool := decide (c.line < 24) && c.offsets.length == 5 && c.offsets.all fun l => l.all Phasor.wf

/-- Measurements of a block: phasors of 10 bits, 64 tuning codes where there is a sweep (03 R88, 16 R454). -/
def BlockMeas.wf (m : BlockMeas) : Bool := (m.pass.all fun p => decide (p.1 < 24) && p.2.all Phasor.wf) && (m.er.isEmpty || m.er.length == 64)

/-- A packet: 16 preamble symbols judged for diversity, 4 bytes of MIC (09 R272, R274). -/
def FobPacket.wf (p : FobPacket) : Bool := p.mic.length == 4 && p.corr.length == 16

/-- A frame of the air begins with a carrier (04 R110). -/
def AirFrame.wf (f : AirFrame) : Bool := f.runs.head?.any fun r => decide (0 < r.2)

/-- A tone of a ranging exchange: a phase of 10 bits (08 R245). -/
def Tone.wf (t : Tone) : Bool := 0 ≤ t.phi && t.phi < 1024

/-- A bus address is one byte (14 R404). -/
def Via.wf : Via → Bool
  | .hitch => true
  | .bus a => decide (a < 256)

/-- A frame: an identifier of 29 or 11 bits, at most 8 bytes of a classical and 64 of an FD frame (14 R404). -/
def CanFrame.wf (f : CanFrame) : Bool := decide (f.id < if f.ext then 2 ^ 29 else 2 ^ 11) && decide (f.data.length ≤ if f.fd then 64 else 8) && (f.fd || !f.brs)

/-- The counters of a frame head fit their fields, and the CCM tag has 8 bytes (14 R387). -/
def FrameHdr.wf (h : FrameHdr) : Bool := decide (h.boot < 2 ^ 32) && decide (h.ctr < 2 ^ 64) && h.tag.length == 8

/-- A change record: a handle, slot, ID or service the tables have (14 R395). -/
def MirrorRec.wf : MirrorRec → Bool
  | .roster handle words => decide (handle < 4096) && (words.isEmpty || words.length == 8)
  | .key k .. => decide (k < 32)
  | .slot k _ => decide (k < 128)
  | .param id _ => decide (id < 0x10000)
  | .paramSave => true
  | .svcDefine n => decide (n < 256)
  | .svcUndefine n => decide (n < 256)
  | .busAddr a => decide (a < 255)
  | .resyncStatus st => decide (st < 0x10000)
  | .only handles slots svcs => handles.all (decide <| · < 4096) && slots.all (decide <| · < 128) && svcs.all (decide <| · < 256)

/-- PAIR_HELLO: role 1 or 2, a challenge of 32 bytes, an OEM root hash of 48 (14 R390). -/
def PairHelloMsg.wf (m : PairHelloMsg) : Bool :=
  (m.role == 1 || m.role == 2) && m.challenge.length == 32 && m.oemRoot.length == 48 && m.devId.length == 96

/-- Ring of a descriptor command: one of 64 (11 R320). -/
def Instr.ring? : Instr → Option Nat
  | .doorbell r _ => some r
  | .sysReset r => some r | .sysXpmRead r => some r | .sysXpmWrite r => some r | .sysBusSend r => some r | .sysBusClaim r => some r
  | .paramGet r => some r | .paramSet r => some r | .paramGetMany r => some r | .paramSetMany r => some r | .paramSave r => some r
  | .ringSetup r => some r | .ringPost r => some r | .ringCancel r => some r | .routeLineClear r => some r | .routeStatus r => some r
  | .svcDefine r => some r | .svcUndefine r => some r | .svcDemand r => some r
  | .rosterAdd r => some r | .rosterFind r => some r | .rosterGet r => some r | .rosterSetOwner r => some r | .rosterDelete r => some r
  | .rosterCompact r => some r | .authKey r => some r | .authStatus r => some r
  | .lockRequest r => some r | .lockEngineStopped r => some r | .lockDrop r => some r | .lockClear r _ => some r
  | .zoneFix r => some r | .zoneGet r => some r | .rangeDetail r => some r | .radioCal r => some r | .radioCw r => some r | .radioStop r => some r
  | .keyEnrol r => some r | .keyRevoke r => some r | .keyList r => some r | .keyOemRoot r => some r | .keyOtpWrite r => some r
  | .keyOtpRead r => some r | .keyXportOpen r => some r | .keyImport r => some r | .keyGenerate r => some r | .keyHitchEnrol r => some r
  | .keyDestroy r => some r | .keyCmac r => some r | .keyCcmEnc r => some r | .keyCcmDec r => some r | .keySha r => some r
  | .keySign r => some r | .keyVerify r => some r | .keyCtrAdvance r => some r | .keyAttest r => some r | .keyCertRead r => some r
  | .keyLifecycle r => some r | .updHeader r => some r | .updPiece r => some r | .updVerify r => some r | .updActivate r => some r
  | .updConfirm r => some r | .updStatus r => some r | .updAbort r => some r
  | .twinPair r => some r | .twinUnpair r => some r | .twinResync r => some r | .twinStatus r => some r
  | .maintRefresh r => some r | .maintCalSweep r => some r | .maintCancel r => some r | .maintStatus r => some r
  | .pwrSleep r => some r | .pwrHeat r => some r
  | .diagTtRead r => some r | .diagCapture r => some r | .diagSelftest r _ => some r | .diagFaultLog r => some r | .diagEcho r => some r
  | _ => none

/-- Operands that are not a ring. -/
def Instr.operandsWf : Instr → Bool
  | .eccError region => decide (1 ≤ region) && decide (region ≤ 3)
  | .eccCorrected region => decide (1 ≤ region) && decide (region ≤ 3)
  | .bridgeFaultTest line _ => decide (line < 24)
  | .spiRegisterWrite cmd _ => !cmd.getLsbD 14
  | .spiWindowWrite cmd _ _ => !cmd.getLsbD 15 && cmd.getLsbD 14
  | .spiWindowRead cmd _ _ => cmd.getLsbD 15 && cmd.getLsbD 14
  | .spiFrameAbort _ cut => decide (1 ≤ cut) && decide (cut ≤ 15)
  | .angleEnable src => decide (src < 5)
  | .angleDisable src => decide (src < 5)
  | .angleResync src => decide (src < 5)
  | .tmrSwcap chan => decide (chan < 16)
  | .tmrClr chan => decide (chan < 16)
  | .tmrCompareMatch chan => decide (chan < 16)
  | .tmrOverflow chan => decide (chan < 16)
  | .tmrCaptureTrigger trig => decide (trig < 16)
  | .angleEdge src _ _ _ => decide (src < 4)
  | .angleIndexEdge src _ _ => decide (src < 4)
  | .angleGlitch src _ => decide (src < 4)
  | .angleStall src => decide (src < 4)
  | .entryArm svc _ => decide (svc ≤ 256)
  | .ledgerStep sensors _ => sensors.length == 8 && sensors.all fun x => -512 ≤ x && x < 512
  | .admissionFinal svc => decide (svc ≤ 256)
  | .entryCrossing svc _ => decide (svc ≤ 256)
  | .liveCalStep line _ cur volt => decide (line < 24) && cur.wf && volt.wf
  | .replyWindowClose svc rx => decide (svc < 256) && rx.all RxChannel.wf
  | .lineFault line _ => decide (line < 24)
  | .headroomLimit line _ _ => decide (line < 24)
  | .blockEnd svc meas => decide (svc ≤ 256) && meas.wf
  | .kpAnswer pkt => pkt.wf
  | .fobData pkt => pkt.wf
  | .ztReport pkt => pkt.wf
  | .rangingEnd tones => tones.length == 80 && tones.all Tone.wf
  | .reportAgeExpiry slot => decide (slot < 32)
  | .sessionLapse slot => decide (slot < 32)
  | .confirmDemand out => decide (out < 4)
  | .confirmHoldLapse out => decide (out < 4)
  | .notifyTimeout out => decide (out < 4)
  | .lockRequestTimeout out => decide (out < 4)
  | .ilkCharged out => decide (out < 4)
  | .ilkEchoMissing out => decide (out < 4)
  | .ilkEchoWhileLocked out => decide (out < 4)
  | .wakePattern f => f.wf
  | .invWalk f => f.wf
  | .invAssign f => f.wf
  | .quiet f => f.wf
  | .resetAll f => f.wf
  | .read f => f.wf
  | .write f _ => f.wf
  | .auth1 f => f.wf
  | .auth1u f => f.wf
  | .auth2 f => f.wf
  | .hStatus f => f.wf
  | .hChain f => f.wf
  | .chainOffer via _ => via.wf
  | .chainData via _ => via.wf
  | .chainStatus via => via.wf
  | .chainWithdraw via => via.wf
  | .hello h role lastRole => h.wf && decide (role < 3) && decide (lastRole < 3)
  | .heartbeat h => h.wf
  | .mirror h _ recs => h.wf && recs.all MirrorRec.wf
  | .mirrorAck h _ => h.wf
  | .notify h out => h.wf && decide (out < 4)
  | .notifyAck h out => h.wf && decide (out < 4)
  | .drop h out => h.wf && decide (out < 4)
  | .noticeEnd out => decide (out < 4)
  | .noticeTable h _ => h.wf
  | .sleep h target => h.wf && (target == 1 || target == 2)
  | .sleepAck h target => h.wf && (target == 1 || target == 2)
  | .failedFrame h _ _ => h.wf
  | .resetReq h => h.wf
  | .unpair h => h.wf
  | .pairHello m => m.wf
  | .pairKey m => m.ephemeral.length == 96 && m.sig.length == 96
  -- a CMAC, or the status of a ceremony that failed (assumption log 37)
  | .pairConfirm mac => mac.length == 16 || mac.length == 2
  | .busRequestRx f => f.wf
  | .tpFrameRx f => f.wf
  | .addressClaimRx f => f.wf
  | .commandedAddressRx _ addr => decide (addr < 256)
  | .proprietaryARx f => f.wf
  | .busFrameRx f => f.wf
  | .wakeSourceEvent _ => true
  | .vendorProvisioning _ imgKey sig => imgKey.length == 32 && sig.length == 96
  | .forceLockNotice h out => h.wf && decide (out < 4)
  | .asleepRegisterRead addr => decide (addr < 512)
  | _ => true

/-- A command is well formed. -/
def Instr.wf (i : Instr) : Bool := (i.ring?.all fun r => decide (r < 64)) && i.operandsWf

end Sys2Proof
end

