-- ==== Sys2Proof/Safety.lean ====
section
/-!
DEFINITION. Sys2Proof/Safety.lean: the terms in which claims are stated: a device its host can reach, a descriptor the device takes and
accepts, a descriptor answered, what a state has apart from its port and window, and the form that every step keeps.
-/
namespace Sys2Proof.Machine

/-! ## Forms of the state -/

/-- The memories of bytes are in canonical form: the window and OTP (11 R326, 10 R283). -/
def MemoriesCanonical (s : State) : Prop :=
  Mem.wf s.win = true ∧ Mem.wf s.nv.otp = true

/-- The form every state of the device has: memories in canonical form, 64 rings (11 R320), 24 lines (03 R74), 32 key slots (07 R207), 4 outputs
(07 R223), 5 angle sources (02 R37), 16 timer channels (02 R63). -/
def WellShaped (s : State) : Prop :=
  MemoriesCanonical s ∧ s.port.rings.length = 64 ∧ s.lines.length = 24 ∧ s.keys.length = 32 ∧ s.nv.keyTab.length = 32 ∧
  s.locks.length = 4 ∧ s.tb.src.length = 5 ∧ s.tb.tmr.length = 16

/-- The device is in RUN with boot complete, and no sleep entry was abandoned in this clock: its host can reach every register (11 R315). -/
def HostAwake (s : State) : Prop := s.dev.mode = .run ∧ s.dev.ready = true ∧ s.pwr.abortClk = none

/-- HostAwake, and not FAILED: the signal box works (01 R34). -/
def Working (s : State) : Prop := HostAwake s ∧ s.dev.failed = false

/-- Two states that differ at most in the port, the window and what is noted of this clock's settings (01 R16). -/
def ApartPort (u s : State) : Prop := { u with port := s.port, win := s.win, fresh := s.fresh } = s

/-- Two states that differ at most in the port, the window, the twin link and the nonces and engine jobs that its frames take (14 R387, 10 R293,
R302). -/
def ApartLink (u s : State) : Prop :=
  ApartPort { u with twin := s.twin,
                     sec := { u.sec with nonceCtr := s.sec.nonceCtr, retired := s.sec.retired, engineJobs := s.sec.engineJobs } } s

/-- `t`, with what MISO carried in a transaction that began in `s`: HOST_STATUS in the command word, then `out` (11 R310). Nothing is left noted
of the flags set in the clock of the access (01 R16). -/
def miso (s : State) (out : List Half) (t : State) : State := { t with port := { t.port with spiOut := statusWord s :: out }, fresh := [] }

/-! ## A descriptor taken and accepted (11 R328) -/

/-- The descriptor buffer of the one at take, as the area its token covers. -/
def headBuf (s : State) (r : Nat) : Nat × Nat := ((headHeld s r).buf, (headHeld s r).len)

/-- The device takes ring `r`'s next descriptor, which holds opcode `op`, and accepts it: it is the next one to be taken, it was handed
over, it lies in its ring and in the window, every check of R328 passes with these areas named, the device's condition refuses
nothing (11 R332, 12 R337, 10 R304), and it gives every argument. -/
def Accepted (s : State) (r op : Nat) (areas : List (Nat × Nat)) : Prop :=
  nextRing s = some r ∧ headOpcode s r = op ∧ headOwn s r = true ∧
  (getRing s r).take < (getRing s r).size ∧ headOffset s r + 32 ≤ windowBytes ∧ Mem.wf s.win = true ∧
  (s.dev.failed = false ∨ failedServes r op = true) ∧
  checkStatus (takeHead r s) (headHeld s r) (headReserved s r) ((opcodeArgs r op).getD 0) areas = none ∧
  gate s op = none ∧ (headHeld s r).argc = (opcodeArgs r op).getD 0

/-- Accepted, with the descriptor's own buffer of at least one byte as its only area. -/
def AcceptedBuf (s : State) (r op : Nat) : Prop := Accepted s r op [headBuf s r] ∧ (headHeld s r).len ≠ 0

/-- The state in which an accepted command runs: the descriptor taken, its token and its areas' tokens held (R328 step 2, R331). -/
def takenState (s : State) (r : Nat) (areas : List (Nat × Nat)) : State :=
  let h := headHeld s r
  modPort (fun p => { p with held := p.held.map fun x => if x.ring == r && x.idx == h.idx then { h with areas := areas } else x })
    (takeHead r s)

/-! ## A descriptor answered (11 R330) -/

/-- Words 4 to 7 of the descriptor at take of `s`, its word 0 with own 0 and seq and opcode kept, and words 1 to 3 as they were; the bytes
`bs` from the start of its buffer; every other byte of the window as it was. -/
def AnsweredWindow (s : State) (r st : Nat) (w4 w5 w6 : Word) (bs : List Byte) (u : State) : Prop :=
  let off := headOffset s r
  let h := headHeld s r
  winWord u off = BitVec.ofNat 32 (h.seq * 65536 + h.opcode) ∧
  winWord u (off + 16) = w4 ∧ winWord u (off + 20) = w5 ∧ winWord u (off + 24) = w6 ∧
  winWord u (off + 28) = BitVec.ofNat 32 (bs.length * 65536 + st) ∧
  winRead u h.buf bs.length = bs ∧
  ∀ a, (a < off ∨ (off + 4 ≤ a ∧ a < off + 16) ∨ off + 32 ≤ a) → (a < h.buf ∨ h.buf + bs.length ≤ a) → Mem.read u.win a = Mem.read s.win a

/-- The descriptor at take of `s` is taken and held no more; the ring's done bit is set where its irq bit asks; every other register of
the port, every other ring and every other held descriptor is as it was. -/
def AnsweredPort (s : State) (r : Nat) (u : State) : Prop :=
  let h := headHeld s r
  findHeld u r h.idx = none ∧
  (∀ x : Held, ¬(x.ring = r ∧ x.idx = h.idx) → (x ∈ u.port.held ↔ x ∈ s.port.held)) ∧
  u.port.ringDone = (if h.irq then s.port.ringDone ||| (1 <<< r) else s.port.ringDone) ∧
  (getRing u r).take = ((getRing s r).take + 1) % (getRing s r).size ∧
  (getRing u r).tail = (getRing s r).tail ∧ (∀ q, q ≠ r → getRing u q = getRing s q) ∧
  { u.port with rings := s.port.rings, lastRing := s.port.lastRing, held := s.port.held, ringDone := s.port.ringDone } = s.port

/-- The device takes the next descriptor of ring `r` and answers it: status, result words, bytes written (rlen their number). -/
def Answered (s : State) (r st : Nat) (w4 w5 w6 : Word) (bs : List Byte) (u : State) : Prop :=
  AnsweredWindow s r st w4 w5 w6 bs u ∧ AnsweredPort s r u

/-- The device holds the descriptor at take of `s`, waiting for `k` (R330), and nothing of the window changed. -/
def Holds (s : State) (r : Nat) (k : HeldKind) (u : State) : Prop :=
  (∃ h, findHeld u r (headHeld s r).idx = some h ∧ h.kind = k ∧ h.opcode = headOpcode s r ∧ h.taken = s.clk) ∧
  ∀ a, Mem.read u.win a = Mem.read s.win a

/-- A descriptor the device holds, inside the window. -/
def HeldAt (s : State) (h : Held) : Prop :=
  findHeld s h.ring h.idx = some h ∧ (getRing s h.ring).base + 32 * h.idx + 32 ≤ windowBytes ∧ Mem.wf s.win = true

/-- A held descriptor has completed with a status, first result word and rlen, and is held no more (11 R330). -/
def Completed (s : State) (h : Held) (st : Nat) (w4 : Word) (rlen : Nat) (u : State) : Prop :=
  let off := (getRing s h.ring).base + 32 * h.idx
  winWord u off = BitVec.ofNat 32 (h.seq * 65536 + h.opcode) ∧ winWord u (off + 16) = w4 ∧
  winWord u (off + 28) = BitVec.ofNat 32 (rlen * 65536 + st) ∧ findHeld u h.ring h.idx = none

/-- An event with these payload bytes has joined the queue, where no descriptor posted on RING3 takes it and the queue has room (11 R334). -/
def Posts (s : State) (code : Nat) (bs : List Byte) (u : State) : Prop :=
  firstPost s 3 = none → s.port.evtQ.length < 256 →
    u.port.evtQ = s.port.evtQ ++ [{ code := code, payload := bs, timeUs := bootUs u % 2 ^ 32 }]

/-! ## Restarted and failed (11 R317, R319; 16 R447) -/

/-- A reset has taken the device to boot: RESET_CAUSE has this cause's bits, and bit 5 where the device was FAILED; what a reset wipes is
wiped, and every output is LOCKED with no pulses (01 R36, 11 R319). What MISO carried in the transaction that asked for it stays visible. -/
def Restarted (s : State) (cause : Nat) (t : State) : Prop :=
  t.dev.mode = .boot ∧ t.dev.ready = false ∧ t.dev.failed = false ∧ t.dev.scratch = 0 ∧
  t.dev.resetCause = BitVec.ofNat 7 (cause + if s.dev.failed then 32 else 0) ∧
  t.win = [] ∧ { t.port with spiOut := [] } = Port.reset ∧ t.sched = Sched.reset ∧
  t.radio = { Radio.reset with grant := s.radio.grant } ∧ t.staged = [] ∧ t.sec = Sec.reset ∧
  t.locks = State.reset.locks ∧ t.twin = Twin.reset ∧ t.bus = Bus.reset

/-- Non-volatile memory from `s` to `t` stands, but for the saved position and the refresh buffer of a patrol that was cut off (16 R453). -/
def FlashStands (s t : State) : Prop :=
  { t.nv with patrolPos := s.nv.patrolPos, refreshBuffer := s.nv.refreshBuffer } = s.nv ∧ (s.mnt.running ≠ PATROL → t.nv = s.nv)

/-- The device has entered FAILED with a code and argument: blocks, candidates, radio and jobs stopped, no output driven, no descriptor held,
the fault logged (16 R445, R447). -/
def EntersFailed (s : State) (code arg : Nat) (t : State) : Prop :=
  t.dev.failed = true ∧ t.dev.ready = true ∧ t.dev.mode = .run ∧
  t.dev.faultCode = BitVec.ofNat 16 code ∧ t.dev.faultArg = BitVec.ofNat 16 arg ∧
  t.sched.blocks = [] ∧ t.sched.cands = [] ∧ t.radio.paOn = false ∧ t.radio.queue = [] ∧ t.sec.jobs = [] ∧ t.port.held = [] ∧
  (∀ o, o < 4 → pumping t o = false) ∧ t.nv.logCount = s.nv.logCount + 1

/-- The device has power and is out of boot: RUN, entering sleep, asleep or waking (13 R361). -/
def UpAndBooted (s : State) : Prop := s.dev.mode ≠ .off ∧ s.dev.mode ≠ .held ∧ s.dev.mode ≠ .boot

/-! ## Frames to the island (04 R110 to R113, R127) -/

/-- A frame carries these bits from code to last field: no long gap, valid intervals, and a CRC that passes. -/
def Carries (f : AirFrame) (x : List Bool) : Prop :=
  airLost f = false ∧ ∃ bits, airBits f = some bits ∧ crcOk bits = true ∧ airFields bits = x ∧ bits.length = x.length + 16

/-- A frame that the tag discards whatever its state: invalid, aborted, of a length no frame has, or failing its CRC. -/
def Discarded (f : AirFrame) : Prop := airLost f = false ∧ ∀ bits, airBits f = some bits → crcOk bits = false

/-- A device that is not FAILED, whose tag hears a frame in a state other than AUTH_WAIT. -/
def TagAwake (s : State) : Prop := tagHears s = true ∧ s.dev.failed = false ∧ s.isl.tag ≠ .authWait

/-- The tag has heard a frame, and answers a body at its own rate, with preamble and CRC (04 R118, R136); nothing else changes. -/
def tagSays (body : List Bool) (s : State) : State :=
  { s with isl := { s.isl with reply := replyFrame false body, replySlow := s.isl.slow } }

/-- The tag has heard a frame and says nothing. -/
def tagSilent (s : State) : State := { s with isl := { s.isl with reply := [] } }

/-! ## The twin (14 R388, R400) -/

/-- A device that is not FAILED accepts this frame of a type of its twin: it exchanges frames, its CCM passes under the twin's session nonce,
and its counters exceed those of the last frame (14 R388). -/
def TakesFrame (s : State) (type : Nat) (h : FrameHdr) : Prop :=
  twinWorks s = true ∧ exchanges s = true ∧ authentic s type h = true ∧ frameNewer s h = true ∧ s.dev.failed = false

/-- A frame of the twin has been accepted: an engine has opened it, and its counters and the time it came are kept (14 R388, 10 R293). -/
def frameTaken (h : FrameHdr) (s : State) : State := noteFrame h (aesJob s)

/-- This message goes out to the twin, where the link is up and a CCM counter is left (14 R387, 10 R302). -/
def Sends (s : State) (m : TwinMsg) (u : State) : Prop :=
  s.twin.linkUp = true → nonceLeft s = true → ∃ f, u.twin.out = f :: s.twin.out ∧ f.msg = m

/-- Nothing that the twin acknowledges waits: no result, no counter mark, no resynchronisation (14 R396). -/
def NothingAwaited (s : State) : Prop := s.twin.withheld = [] ∧ s.sec.awaiting = [] ∧ s.twin.resyncSeq = none

/-! ## Jobs (10 R293, R299) -/

/-- Nothing waits for an engine or for a key in use: every job runs, no destruction, mirrored rewrite or self-test is held up (R287; 16 R443), and
no change waits to be sent to the twin. -/
def EnginesUnawaited (s : State) : Prop :=
  (∀ j ∈ s.sec.jobs, j.running = true) ∧ s.sec.slotWrites = [] ∧ sendWaiting s = s ∧
  ∀ h ∈ s.port.held, (∀ slot, h.kind ≠ .destroy slot) ∧ ∀ fails, h.kind ≠ .selftest fails

/-- Every job that waits for an engine, or runs, runs, and none has the next number. -/
def JobsRun (s : State) : Prop := ∀ j ∈ s.sec.jobs, j.running = true ∧ j.id ≠ s.sec.nextJob

/-- A job that has not ended writes a slot for an earlier descriptor of ring `r`, so that the one at take waits for it (11 R333). -/
def slotAwaited (s : State) (r slot : Nat) : Bool := slotWritten (takeHead r s) r slot s.sec.nextJob

/-- The status that refuses the descriptor at take of ring `r` a slot that the host may name, when it is taken (10 R284 to R286). -/
def slotRefuses (s : State) (r slot bit : Nat) (ec : Bool) : Option Nat :=
  if 16 ≤ slot ∧ slot < 128 ∧ slotAwaited s r slot = true then none else slotRefused s slot bit ec

/-- The descriptor at take of `s` has become a job, behind those before it: of the public-key and hash engine or of the AES engines, in so many
parts, with a slot's key (255 for none). It runs where an engine is free and no descriptor before it is yet to write or destroy the slot it names,
and then holds its key. -/
def Queues (s : State) (r : Nat) (pk : Bool) (parts slot : Nat) (u : State) : Prop :=
  Holds s r (.job s.sec.nextJob) u ∧ ∃ j, u.sec.jobs = s.sec.jobs ++ [j] ∧ j.id = s.sec.nextJob ∧ j.pk = pk ∧ j.running = (jobMayRun s pk && !jobBlocked u j) ∧
    j.parts = parts ∧ j.slot = slot ∧ j.ring = r ∧ j.idx = (headHeld s r).idx ∧ j.opcode = headOpcode s r ∧
    (j.running = true → slot < 128 → ∀ a key, readSlot s slot = .key a key → j.key = key)

/-! ## Descriptor commands (12 R337 to R353) -/

/-- Ring and opcode of the descriptor that a command takes; none for the other rows. -/
def descriptorOf : Instr → Option (Nat × Nat)
  | .sysReset r => some (r, 0x0001) | .sysXpmRead r => some (r, 0x0002) | .sysXpmWrite r => some (r, 0x0003) | .sysBusSend r => some (r, 0x0004)
  | .sysBusClaim r => some (r, 0x0005) | .paramGet r => some (r, 0x0101) | .paramSet r => some (r, 0x0102) | .paramGetMany r => some (r, 0x0103)
  | .paramSetMany r => some (r, 0x0104) | .paramSave r => some (r, 0x0105) | .ringSetup r => some (r, 0x0201) | .ringPost r => some (r, 0x0202)
  | .ringCancel r => some (r, 0x0203) | .routeLineClear r => some (r, 0x0301) | .routeStatus r => some (r, 0x0302)
  | .svcDefine r => some (r, 0x0401) | .svcUndefine r => some (r, 0x0402) | .svcDemand r => some (r, 0x0403) | .rosterAdd r => some (r, 0x0501)
  | .rosterFind r => some (r, 0x0502) | .rosterGet r => some (r, 0x0503) | .rosterSetOwner r => some (r, 0x0504)
  | .rosterDelete r => some (r, 0x0505) | .rosterCompact r => some (r, 0x0506) | .authKey r => some (r, 0x0601) | .authStatus r => some (r, 0x0602)
  | .lockRequest r => some (r, 0x0701) | .lockEngineStopped r => some (r, 0x0702) | .lockDrop r => some (r, 0x0703)
  | .lockClear r _ => some (r, 0x0704) | .zoneFix r => some (r, 0x0801) | .zoneGet r => some (r, 0x0802) | .rangeDetail r => some (r, 0x0901)
  | .radioCal r => some (r, 0x0A01) | .radioCw r => some (r, 0x0A02) | .radioStop r => some (r, 0x0A03) | .keyEnrol r => some (r, 0x0B01)
  | .keyRevoke r => some (r, 0x0B02) | .keyList r => some (r, 0x0B03) | .keyOemRoot r => some (r, 0x0B04) | .keyOtpWrite r => some (r, 0x0B05)
  | .keyOtpRead r => some (r, 0x0B06) | .keyXportOpen r => some (r, 0x0B07) | .keyImport r => some (r, 0x0B08) | .keyGenerate r => some (r, 0x0B09)
  | .keyHitchEnrol r => some (r, 0x0B0A) | .keyDestroy r => some (r, 0x0B0B) | .keyCmac r => some (r, 0x0B0C) | .keyCcmEnc r => some (r, 0x0B0D)
  | .keyCcmDec r => some (r, 0x0B0E) | .keySha r => some (r, 0x0B0F) | .keySign r => some (r, 0x0B10) | .keyVerify r => some (r, 0x0B11)
  | .keyCtrAdvance r => some (r, 0x0B12) | .keyAttest r => some (r, 0x0B13) | .keyCertRead r => some (r, 0x0B14)
  | .keyLifecycle r => some (r, 0x0B15) | .updHeader r => some (r, 0x0C01) | .updPiece r => some (r, 0x0C02) | .updVerify r => some (r, 0x0C03)
  | .updActivate r => some (r, 0x0C04) | .updConfirm r => some (r, 0x0C05) | .updStatus r => some (r, 0x0C06) | .updAbort r => some (r, 0x0C07)
  | .twinPair r => some (r, 0x0D01) | .twinUnpair r => some (r, 0x0D02) | .twinResync r => some (r, 0x0D03) | .twinStatus r => some (r, 0x0D04)
  | .maintRefresh r => some (r, 0x0E01) | .maintCalSweep r => some (r, 0x0E02) | .maintCancel r => some (r, 0x0E03)
  | .maintStatus r => some (r, 0x0E04) | .pwrSleep r => some (r, 0x0F01) | .pwrHeat r => some (r, 0x0F02) | .diagTtRead r => some (r, 0x1001)
  | .diagCapture r => some (r, 0x1002) | .diagSelftest r _ => some (r, 0x1003) | .diagFaultLog r => some (r, 0x1004)
  | .diagEcho r => some (r, 0x1005)
  | _ => none

end Sys2Proof.Machine
end

