-- ==== Sys2Proof/Certificates/Slice0/Obligations.lean ====
section
/-!
DEFINITION. Sys2Proof/Certificates/Slice0/Obligations.lean: the statements about this model, each with the rules of spec/ it rests on. A
statement about a descriptor command speaks of the state `u` that the command leaves; the step's state is `settle u`, in which descriptors that no
command of the table spells are answered too (SettleTouchesPortOnly).
-/
open Sys2Proof Sys2Proof.Machine

/-- For every command c, queue rest and state s: a step of s with c in front of rest is exec of c on s with rest as its queue (the queue is
the model's own; assumption log 1). -/
def Obligations.StepRunsFrontCommand : Prop :=
  ∀ (c : Instr) (rest : List Instr) (s : State), step { s with pending := c :: rest } = exec c { s with pending := rest }

/-- On an empty queue a step passes one clock: the clock count rises by one, the timer channels and angle sources move only where the
timebase is clocked, and nothing else changes but the note of the flags set in this clock (the model's choice, assumption log 4). -/
def Obligations.IdleStepPassesOneClock : Prop :=
  ∀ s : State, s.pending = [] → ∃ t, step s = .next t ∧ t.clk = s.clk + 1 ∧ { t with clk := s.clk, tb := s.tb, fresh := s.fresh } = s ∧
    (timebaseRuns s = false → t.tb = s.tb)

/-- The state right after reset has its memories in canonical form, 64 rings, 24 lines, 32 key slots, 4 outputs, 5 angle sources and 16
timer channels. -/
def Obligations.ResetIsWellShaped : Prop :=
  WellShaped State.reset

/-- For every state that is well shaped (memories of bytes in canonical form, 64 rings, 24 lines, 32 key slots, 4 outputs, 5 angle sources,
16 timer channels), whatever command or idle clock a step takes, the next state is well shaped. -/
def Obligations.StepKeepsShape : Prop :=
  ∀ s t : State, WellShaped s → step s = .next t → WellShaped t

/-- Whatever the command and the state, exec answers a next state, and the queue of waiting commands is unchanged: the machine has no stop. -/
def Obligations.EveryCommandAnswersAndLeavesQueue : Prop :=
  ∀ (c : Instr) (s : State), ∃ t, exec c s = .next t ∧ t.pending = s.pending

/-- Settling (R328, R329: a descriptor found without its own bit stops its ring, an unknown opcode is answered with ST_BAD_OPCODE, or in
FAILED with ST_DEVICE_FAILED) changes nothing but the port and the window; with no descriptor waiting, or a known opcode next, it changes
nothing. -/
def Obligations.SettleTouchesPortOnly : Prop :=
  (∀ s : State, ApartPort (settle s) s) ∧ (∀ s : State, nextRing s = none → settle s = s) ∧
  ∀ (s : State) (r : Nat), nextRing s = some r → headOwn s r = true → (opcodeArgs 0 (headOpcode s r)).isSome = true → settle s = s

/-- POWER_ON completes: out of OFF, with VBAT at 4.9 V or more, it is a power-on reset: RESET_CAUSE bit 0, everything wiped, what data flash
holds unchanged, the supplies as given, and the 3.3 V mode of VIO where VIO exceeds 2.5 V. Boot begins where VIO has passed its threshold
(2.90 V, or 1.65 V in 1.8 V mode); with VIO below it (2.60 V, 1.45 V) the device stays in reset. In reset for want of VIO, boot begins once
VIO has passed the threshold of the mode taken, and nothing else changes but the supplies. VBAT below 4.3 V, VIO below its threshold in
reset, and every other state: nothing changes. -/
def Obligations.PowerOnBoots : Prop :=
  ∀ (s : State) (v w : Nat) (d : BitVec 12),
    (s.dev.mode = .off → 4900 ≤ v → 2900 ≤ w ∨ (1650 ≤ w ∧ w ≤ 2500) → ∃ t, exec (.powerOn v w d) s = .next t ∧ Restarted s 1 t ∧ t.nv = s.nv ∧
      t.dev.vbatMv = v ∧ t.dev.vioMv = w ∧ t.dev.vio33 = decide (2500 < w) ∧ t.dev.elapsedBase = s.nv.elapsedS ∧ t.dev.opBase = s.nv.opS) ∧
    (s.dev.mode = .off → 4900 ≤ v → w < 1450 ∨ (2500 < w ∧ w < 2600) → ∃ t, exec (.powerOn v w d) s = .next t ∧ t.dev.mode = .held ∧
      Restarted s 1 { t with dev := { t.dev with mode := .boot } } ∧ t.nv = s.nv ∧ t.dev.vio33 = decide (2500 < w)) ∧
    (s.dev.mode = .off → v < 4300 → exec (.powerOn v w d) s = .next s) ∧
    (s.dev.mode = .held → 4900 ≤ v → (if s.dev.vio33 then 2900 else 1650) ≤ w → exec (.powerOn v w d) s =
      .next { s with dev := { s.dev with mode := .boot, bootClk := s.clk, vbatMv := v, vioMv := w, defects := d } }) ∧
    (s.dev.mode = .held → v < 4300 ∨ w < (if s.dev.vio33 then 2600 else 1450) → exec (.powerOn v w d) s = .next s) ∧
    (s.dev.mode ≠ .off → s.dev.mode ≠ .held → exec (.powerOn v w d) s = .next s)

/-- RST_N_PULSE, HOST_RESET, SYS_RESET and WATCHDOG_EXPIRY complete: a low pulse of 1 µs or more on RST_N, a write of 0xA55A to HOST_RESET
in every state in which the port lives, FAILED and asleep included, SYS_RESET with key 0xA55A, and the watchdog while the signal box runs
each take the device to boot with their RESET_CAUSE bit (and bit 5 out of FAILED), wiping what a reset wipes; non-volatile memory is
unchanged but for the watchdog's log entry and count and what a patrol cut off leaves. -/
def Obligations.ResetsRestart : Prop :=
  (∀ (s : State) (ns : Nat), supplied s = true → 1000 ≤ ns →
    ∃ t, exec (.rstNPulse ns) s = .next t ∧ Restarted s 2 t ∧ FlashStands s t) ∧
  (∀ (s : State) (ns : Nat), ns ≤ 200 → exec (.rstNPulse ns) s = .next s) ∧
  (∀ s : State, spiAlive s = true → ∃ t, exec .hostReset s = .next t ∧ Restarted s 4 t ∧ FlashStands s t) ∧
  (∀ (s : State) (r : Nat), Accepted s r 0x0001 [] → (headHeld s r).a0 = 0xA55A →
    ∃ t, exec (.sysReset r) s = .next t ∧ Restarted s 4 t ∧ FlashStands s t) ∧
  ∀ s : State, boxRuns s = true → ∃ t, exec .watchdogExpiry s = .next t ∧ Restarted s 8 t ∧ t.nv.wdResets = s.nv.wdResets + 1 ∧
    t.nv.logCount = s.nv.logCount + 1 ∧ t.nv.keyTab = s.nv.keyTab ∧ t.nv.otp = s.nv.otp

/-- A fall of VBAT takes a device that is on to OFF (VBAT_FALL), and a fall of VIO (VIO_FALL) takes one that has its supplies into reset,
with every output LOCKED, the window and the port wiped, and non-volatile memory unchanged but for what a patrol cut off leaves. VBAT below
6 V sets PWR_FLAGS.brownout (BROWNOUT) and VBAT above 36 V sets PWR_FLAGS.vbat_high (VBAT_HIGH), and neither changes anything else but the
voltage and, where a block runs, the quench flags of its lines and which of them its bursts have quenched; a reading not beyond its limit
changes nothing. -/
def Obligations.SupplyLoss : Prop :=
  (∀ s : State, s.dev.mode ≠ .off → ∃ t, exec .vbatFall s = .next t ∧ t.dev.mode = .off ∧ t.win = [] ∧ t.port = Port.reset ∧
    t.locks = State.reset.locks ∧ FlashStands s t) ∧
  (∀ s : State, supplied s = true → ∃ t, exec .vioFall s = .next t ∧ t.dev.mode = .held ∧ t.win = [] ∧ t.port = Port.reset ∧
    t.locks = State.reset.locks ∧ FlashStands s t) ∧
  (∀ (s : State) (v : Nat), supplied s = true → v < 6000 → ∃ t, exec (.brownout v) s = .next t ∧
    { t with lines := s.lines, fresh := s.fresh, sched := { t.sched with blocks := s.sched.blocks } } =
      { s with dev := { s.dev with vbatMv := v }, pwr := { s.pwr with brownout := true } } ∧
    t.sched.blocks.map (fun b => { b with quenched := 0 }) = s.sched.blocks.map (fun b => { b with quenched := 0 }) ∧
    (s.sched.blocks = [] → t.lines = s.lines)) ∧
  (∀ (s : State) (v : Nat), 6000 ≤ v → exec (.brownout v) s = .next s) ∧
  (∀ (s : State) (v : Nat), supplied s = true → 36000 < v → ∃ t, exec (.vbatHigh v) s = .next t ∧
    { t with lines := s.lines, fresh := s.fresh, sched := { t.sched with blocks := s.sched.blocks } } =
      { s with dev := { s.dev with vbatMv := v }, pwr := { s.pwr with vbatHigh := true } } ∧
    t.sched.blocks.map (fun b => { b with quenched := 0 }) = s.sched.blocks.map (fun b => { b with quenched := 0 }) ∧
    (s.sched.blocks = [] → t.lines = s.lines)) ∧
  ∀ (s : State) (v : Nat), v ≤ 36000 → exec (.vbatHigh v) s = .next s

/-- TRNG_HEALTH_FAILURE, CORE_UNDERVOLTAGE, ECC_ERROR, OVERTEMP_FAIL, BRIDGE_FAULT_TEST and PERIODIC_SELFTEST complete. In a device that is
up, out of boot and not yet FAILED: a TRNG health failure (0x0003), core undervoltage (0x0001, test 8), an uncorrectable ECC error (0x0002,
region), over-temperature at 160 °C (0x0007, sensor), a switch found failed on a line with fault 5 (0x0008, line) and a failed periodic
self-test (0x0001, its bit, where slots 0 and 1 are whole) each enter FAILED: blocks, candidates, radio and jobs stopped, no output driven,
no descriptor held, and one fault log entry more. -/
def Obligations.DeviceFaultsEnterFailed : Prop :=
  (∀ (s : State) (k : Nat), UpAndBooted s → s.dev.failed = false →
    ∃ t, exec (.trngHealthFailure k) s = .next t ∧ EntersFailed s 3 k t ∧ t.sec.trngFailed = true) ∧
  (∀ s : State, UpAndBooted s → s.dev.failed = false → ∃ t, exec .coreUndervoltage s = .next t ∧ EntersFailed s 1 8 t) ∧
  (∀ (s : State) (g : Nat), UpAndBooted s → s.dev.failed = false → 1 ≤ g → g ≤ 3 →
    ∃ t, exec (.eccError g) s = .next t ∧ EntersFailed s 2 g t) ∧
  (∀ s : State, UpAndBooted s → s.dev.failed = false → 1600 ≤ tHot s →
    ∃ t, exec .overtempFail s = .next t ∧ EntersFailed s 7 (hottest s.dev.sensors).2 t) ∧
  (∀ (s : State) (l : Nat), isRunning s = true → l < 24 → (getLine s l).fault = 5 →
    ∃ t, exec (.bridgeFaultTest l true) s = .next t ∧ EntersFailed s 8 l t) ∧
  ∀ s : State, s.dev.ready = true → s.dev.mode = .run → s.dev.failed = false → s.dev.nextTest < 9 →
    testWaits s (periodicTests.getD s.dev.nextTest 0) = false → slotCorrupt s 0 = false → slotCorrupt s 1 = false →
    ∃ t, exec (.periodicSelftest true) s = .next t ∧ EntersFailed s 1 (periodicTests.getD s.dev.nextTest 0) t

/-- ECC_CORRECTED completes: while the signal box works (FAILED included), a corrected ECC error in SRAM, window or code flash raises the
count by one and, at most once a second and not in FAILED, posts ECC_CORRECTED with the region and the count; nothing else changes but the
port and the window. A further device fault leaves a FAILED device as it was. A fault while booting is kept, the first one, until boot ends.
A switch test that passes changes nothing. A periodic test that passes is counted, dated and hands over to the next. -/
def Obligations.FaultsThatDoNotFail : Prop :=
  (∀ (s : State) (g : Nat), boxRuns s = true → 1 ≤ g → g ≤ 3 → ∃ t, exec (.eccCorrected g) s = .next t ∧
    t.dev.sramCorrected = s.dev.sramCorrected + 1 ∧ t.nv = s.nv ∧
    ApartPort { t with dev := s.dev } s ∧ { t.dev with sramCorrected := s.dev.sramCorrected, eccEventClk := s.dev.eccEventClk } = s.dev ∧
    (s.dev.failed = true → exec (.eccCorrected g) s = .next { s with dev := { s.dev with sramCorrected := s.dev.sramCorrected + 1 } }) ∧
    (s.dev.failed = false → (∃ c, s.dev.eccEventClk = some c ∧ s.clk < c + 32000000) →
      exec (.eccCorrected g) s = .next { s with dev := { s.dev with sramCorrected := s.dev.sramCorrected + 1 } }) ∧
    (s.dev.failed = false → (∀ c, s.dev.eccEventClk = some c → c + 32000000 ≤ s.clk) → t.dev.eccEventClk = some s.clk ∧
      Posts s 0x8403 (payload [g, 0, 0, 0] ++ leBytes 4 (s.dev.sramCorrected + 1).toNat) t)) ∧
  (∀ s : State, s.dev.failed = true → UpAndBooted s → exec .coreUndervoltage s = .next s) ∧
  (∀ (s : State) (g : Nat), s.dev.mode = .boot → 1 ≤ g → g ≤ 3 → exec (.eccError g) s =
    .next { s with dev := { s.dev with bootFault := s.dev.bootFault <|> some (2, g) } }) ∧
  (∀ (s : State) (l : Nat), exec (.bridgeFaultTest l false) s = .next s) ∧
  (∀ s : State, s.dev.ready = true → s.dev.mode = .run → s.dev.failed = false → s.dev.nextTest < 9 →
    testWaits s (periodicTests.getD s.dev.nextTest 0) = false → slotCorrupt s 0 = false → slotCorrupt s 1 = false → sensorsAgree s = true →
    ∃ t, exec (.periodicSelftest false) s = .next t ∧ t.dev.failed = false ∧ t.dev.testsRun = s.dev.testsRun + 1 ∧
      t.dev.lastTest = periodicTests.getD s.dev.nextTest 0 ∧ t.dev.nextTest = (s.dev.nextTest + 1) % 9 ∧ t.win = s.win ∧ t.nv = s.nv) ∧
  (∀ (s : State) (g : Nat), g = 0 ∨ 3 < g → exec (.eccCorrected g) s = .next s)

/-- BOOT_READY completes: in boot, with no lifecycle transition left over and the device not FAILED before: where boot finds a device fault,
the device ends boot ready and FAILED with its code and argument logged; where it finds none and its bank passes, with no settings to
migrate, the device is ready and not FAILED, its boot count advanced. A transition left over is completed, and the device resets again with
RESET_CAUSE bit 4. Out of boot the command changes nothing. -/
def Obligations.BootReadyOutcome : Prop :=
  (∀ (s : State) (f : Nat × Nat), s.dev.mode = .boot → s.nv.intent = none → earlyFault s = some f →
    ∃ t, exec .bootReady s = .next t ∧ t.dev.mode = .run ∧ t.dev.ready = true ∧ t.dev.failed = true ∧ t.dev.bootPhase = 15 ∧
      t.dev.faultCode = BitVec.ofNat 16 f.1 ∧ t.dev.faultArg = BitVec.ofNat 16 f.2 ∧ t.nv.logCount = s.nv.logCount + 1 ∧ t.win = s.win) ∧
  (∀ s : State, s.dev.mode = .boot → s.dev.failed = false → s.nv.intent = none → earlyFault s = none → (bootRecord s).trial = false →
    bankPasses s (bootRecord s).bank = true → s.nv.updStage ≠ VERIFYING → s.nv.areaA.unmigrated = false → s.nv.areaB.unmigrated = false →
    ∃ t, exec .bootReady s = .next t ∧ t.dev.mode = .run ∧ t.dev.ready = true ∧ t.dev.failed = false ∧ t.dev.bootPhase = 5 ∧
      t.upd.bank = (bootRecord s).bank ∧ t.sec.bootCount = counterMark s 0) ∧
  (∀ (s : State) (k : Nat), s.dev.mode = .boot → s.nv.intent = some k →
    ∃ t, exec .bootReady s = .next t ∧ Restarted s 16 t ∧ t.nv.lifecycle = k ∧ t.nv.intent = none) ∧
  ∀ s : State, s.dev.mode ≠ .boot → exec .bootReady s = .next s

/-- On a device its host can reach, a write of one register over SPI does exactly this: SCRATCH, IRQ_ENABLE, HIRQ_CTRL, TOKEN_PROBE and
WAKE_TMR take the value, WAKE_EN takes it with SPI wake always enabled, HOST_STATUS, SPI_ERR, PWR_FLAGS, TWIN_FLAGS, WAKE_SRC, ILK_EVENTS,
RING_DONE0 to 3, RING_ERR, TMRn_STAT, ANGn_STAT and TB_STAT lose the flags written 1, but for one that the device sets in the same clock
(R16: a flag noted as set in this clock is never among those cleared); RING_DONE_EN0 to 3, TMRn_CC and the tt_ie of TB_CTRL take the value;
TMRn_CTRL takes en and its interrupt enables, and mode, clk and trig only while en is 0, captures with swcap in capture mode and notes clr;
the plain bits of ANGn_CTRL (tt_en, wake_en, dir_inv, sync_ie) take theirs where en stays as it is and resync is 0, after which outputs that
check that source's speed are decided (07 R228); and nothing else changes but what MISO carried: HOST_STATUS during the command word, then 0
(SPI_REGISTER_WRITE completes). -/
def Obligations.RegisterWrites : Prop :=
  ∀ (s : State) (d : Half), HostAwake s →
    exec (.spiRegisterWrite 0x00D [d]) s = .next (miso s [0] { s with dev := { s.dev with scratch := d } }) ∧
    exec (.spiRegisterWrite 0x0C1 [d]) s = .next (miso s [0] { s with port := { s.port with irqEnable := d.setWidth 8 } }) ∧
    exec (.spiRegisterWrite 0x0CC [d]) s = .next (miso s [0] { s with port := { s.port with hirqCtrl := d.setWidth 2 } }) ∧
    exec (.spiRegisterWrite 0x0E4 [d]) s = .next (miso s [0] { s with port := { s.port with tokenProbe := d.toNat % 8192 } }) ∧
    exec (.spiRegisterWrite 0x0E8 [d]) s =
      .next (miso s [0] { s with port := { s.port with spiErr := s.port.spiErr &&& ~~~(BitVec.ofNat 4 (w1c s 0x0E8 d.toNat)) } }) ∧
    exec (.spiRegisterWrite 0x009 [d]) s = .next (miso s [0] { s with
      port := { s.port with
        tokenViol := s.port.tokenViol && !(w1c s 0x009 d.toNat).testBit 10
        asleepAccess := s.port.asleepAccess && !(w1c s 0x009 d.toNat).testBit 11 } }) ∧
    exec (.spiRegisterWrite 0x181 [d]) s = .next (miso s [0] { s with pwr := { s.pwr with wakeEn := d.setWidth 5 ||| 1 } }) ∧
    exec (.spiRegisterWrite 0x182 [d]) s =
      .next (miso s [0] { s with pwr := { s.pwr with wakeSrc := s.pwr.wakeSrc &&& ~~~(BitVec.ofNat 5 (w1c s 0x182 d.toNat)) } }) ∧
    exec (.spiRegisterWrite 0x183 [d]) s =
      .next (miso s [0] { s with pwr := { s.pwr with wakeTmr := s.pwr.wakeTmr.extractLsb' 16 16 ++ d } }) ∧
    exec (.spiRegisterWrite 0x184 [d]) s =
      .next (miso s [0] { s with pwr := { s.pwr with wakeTmr := d ++ s.pwr.wakeTmr.extractLsb' 0 16 } }) ∧
    exec (.spiRegisterWrite 0x189 [d]) s = .next (miso s [0] { s with
      pwr := { s.pwr with
        brownout := s.pwr.brownout && !(w1c s 0x189 d.toNat).testBit 0
        vbatHigh := s.pwr.vbatHigh && !(w1c s 0x189 d.toNat).testBit 1
        sleepAborted := s.pwr.sleepAborted && !(w1c s 0x189 d.toNat).testBit 2 } }) ∧
    exec (.spiRegisterWrite 0x1A1 [d]) s =
      .next (miso s [0] { s with twin := { s.twin with flags := s.twin.flags &&& ~~~(BitVec.ofNat 4 (w1c s 0x1A1 d.toNat)) } }) ∧
    exec (.spiRegisterWrite 0x1A5 [d]) s =
      .next (miso s [0] { s with ilkEvents := s.ilkEvents &&& ~~~(BitVec.ofNat 12 (w1c s 0x1A5 d.toNat)) }) ∧
    (∀ k, k < 4 → exec (.spiRegisterWrite (BitVec.ofNat 16 (0x0C2 + k)) [d]) s = .next (miso s [0] { s with
      port := { s.port with ringDone := s.port.ringDone &&& ~~~(BitVec.ofNat 64 (w1c s (0x0C2 + k) d.toNat * 2 ^ (16 * k))) } })) ∧
    (∀ k, k < 4 → ∃ en : Dword, (∀ j, j < 64 → en.getLsbD j = if j / 16 = k then d.getLsbD (j % 16) else s.port.ringDoneEn.getLsbD j) ∧
      exec (.spiRegisterWrite (BitVec.ofNat 16 (0x0C6 + k)) [d]) s = .next (miso s [0] { s with port := { s.port with ringDoneEn := en } })) ∧
    exec (.spiRegisterWrite 0x0E6 [d]) s = .next (miso s [0] { s with
      port := { s.port with ringErr := if (w1c s 0x0E6 d.toNat).testBit 15 then 0 else s.port.ringErr } }) ∧
    exec (.spiRegisterWrite 0x17E [d]) s = .next (miso s [0] { s with tb := { s.tb with ttIe := d.getLsbD 0 } }) ∧
    exec (.spiRegisterWrite 0x17F [d]) s = .next (miso s [0] { s with tb := { s.tb with
      ttLate := s.tb.ttLate &&& ~~~(BitVec.ofNat 5 (w1c s 0x17F d.toNat))
      ttSkip := s.tb.ttSkip &&& ~~~(BitVec.ofNat 5 (w1c s 0x17F d.toNat / 256)) } }) ∧
    (WellShaped s → ∀ n, n < 16 → ∃ u, exec (.spiRegisterWrite (BitVec.ofNat 16 (0x100 + 8 * n)) [d]) s = .next (miso s [0] u) ∧
      { u with tb := s.tb } = s ∧ { u.tb with tmr := s.tb.tmr } = s.tb ∧ (∀ m, m ≠ n → getTmr u m = getTmr s m) ∧
      (∀ j, j < 12 → (getTmr u n).ctrl.getLsbD j =
        if 1 ≤ j ∧ j ≤ 8 ∧ tmrEn (getTmr s n) = true then (getTmr s n).ctrl.getLsbD j else d.getLsbD j) ∧
      (d.getLsbD 13 = false ∨ tmrCapture (getTmr u n) = false → (getTmr u n).cc = (getTmr s n).cc ∧ (getTmr u n).cap = (getTmr s n).cap ∧
        (getTmr u n).capLost = (getTmr s n).capLost) ∧
      (d.getLsbD 13 = true → tmrCapture (getTmr u n) = true → (getTmr u n).cc = (getTmr s n).cnt ∧ (getTmr u n).cap = true ∧
        (getTmr u n).capLost = ((getTmr s n).capLost || (getTmr s n).cap)) ∧
      (getTmr u n).clrDue = ((getTmr s n).clrDue || d.getLsbD 14) ∧ (getTmr u n).cnt = (getTmr s n).cnt ∧
      (getTmr u n).hit = (getTmr s n).hit ∧ (getTmr u n).ovf = (getTmr s n).ovf) ∧
    (WellShaped s → ∀ n, n < 16 → exec (.spiRegisterWrite (BitVec.ofNat 16 (0x101 + 8 * n)) [d]) s =
      .next (miso s [0] (modTmr n (fun t =>
        { t with hit := t.hit && !(w1c s (0x101 + 8 * n) d.toNat).testBit 0, ovf := t.ovf && !(w1c s (0x101 + 8 * n) d.toNat).testBit 1
                 cap := t.cap && !(w1c s (0x101 + 8 * n) d.toNat).testBit 2
                 capLost := t.capLost && !(w1c s (0x101 + 8 * n) d.toNat).testBit 3 }) s))) ∧
    (WellShaped s → ∀ n, n < 16 →
      exec (.spiRegisterWrite (BitVec.ofNat 16 (0x104 + 8 * n)) [d]) s =
        .next (miso s [0] (modTmr n (fun t => { t with cc := t.cc.extractLsb' 16 16 ++ d }) s)) ∧
      exec (.spiRegisterWrite (BitVec.ofNat 16 (0x105 + 8 * n)) [d]) s =
        .next (miso s [0] (modTmr n (fun t => { t with cc := d ++ t.cc.extractLsb' 0 16 }) s))) ∧
    (WellShaped s → ∀ n, n < 5 → d.getLsbD 0 = (getSrc s n).en → d.getLsbD 4 = false →
      exec (.spiRegisterWrite (BitVec.ofNat 16 (angleCtrlAddr n)) [d]) s = .next (miso s [0] (speedDecides n (modSrc n (fun a =>
        { a with ttEn := d.getLsbD 1, wakeEn := d.getLsbD 2, dirInv := d.getLsbD 3, syncIe := d.getLsbD 5, synced := a.en && a.synced }) s)))) ∧
    (WellShaped s → ∀ n, n < 5 → exec (.spiRegisterWrite (BitVec.ofNat 16 (angleCtrlAddr n + 1)) [d]) s =
      .next (miso s [0] (modSrc n (fun a =>
        { a with syncGain := a.syncGain && !(w1c s (angleCtrlAddr n + 1) d.toNat).testBit 3
                 syncLost := a.syncLost && !(w1c s (angleCtrlAddr n + 1) d.toNat).testBit 4
                 syncJump := a.syncJump && !(w1c s (angleCtrlAddr n + 1) d.toNat).testBit 5
                 glitch := a.glitch && !(w1c s (angleCtrlAddr n + 1) d.toNat).testBit 6 }) s))) ∧
    (∀ n, (∀ o, o < 4 → (itemsInForce s o).speedSrc ≠ n) → speedDecides n s = s) ∧
    (∀ v : Nat, freshBits s 0x1A5 = 0 → v < 65536 → w1c s 0x1A5 v = v) ∧
    ∀ (a v k : Nat), (freshBits s a).testBit k = true → (w1c s a v).testBit k = false

/-- At 0x010 to 0x03F, 0x0CD to 0x0DF, 0x0E9 to 0x0FF, 0x18A to 0x19F and 0x1A8 to 0x1BF (and at 0x1C0 to 0x1FF, of which R311 says the same
but for the flags: DEDUCED, assumption log 12), in every state in which the port lives, a read returns 0x0000 and a write is ignored, and
neither sets a flag: apart from the fall of CS_N as a wake source, only what MISO carried changes. -/
def Obligations.UnassignedRegisters : Prop :=
  ∀ (s : State) (a : Nat) (d : Half), spiAlive s = true → a < 512 →
    ((0x010 ≤ a ∧ a ≤ 0x03F) ∨ (0x0CD ≤ a ∧ a ≤ 0x0DF) ∨ (0x0E9 ≤ a ∧ a ≤ 0x0FF) ∨ (0x18A ≤ a ∧ a ≤ 0x19F) ∨ 0x1A8 ≤ a) →
    exec (.asleepRegisterRead a) s = .next (miso (wakeEvent 0 s) [0, 0] (wakeEvent 0 s)) ∧
    exec (.spiRegisterWrite (BitVec.ofNat 16 a) [d]) s = .next (miso (wakeEvent 0 s) [0] (wakeEvent 0 s))

/-- On a device its host can reach, a read of TOKEN_VIOL_COUNT, EVT_LOST, HEAT_DEFER and TWIN_LINK_ERR returns the count on MISO and clears
it, and nothing else changes (TOKEN_VIOL_COUNT_READ, EVT_LOST_READ, HEAT_DEFER_READ and TWIN_LINK_ERR_READ complete). An event dropped in
the same clock is left for the next read (R16). -/
def Obligations.ClearOnReadRegisters : Prop :=
  ∀ s : State, HostAwake s →
    (freshCount s 0x0E2 = 0 → exec .tokenViolCountRead s =
      .next (miso s [0, BitVec.ofNat 16 s.port.violCount] { s with port := { s.port with violCount := 0 } })) ∧
    (freshCount s 0x0E7 = 0 → exec .evtLostRead s =
      .next (miso s [0, BitVec.ofNat 16 s.port.evtLost] { s with port := { s.port with evtLost := 0 } })) ∧
    (freshCount s 0x188 = 0 → exec .heatDeferRead s =
      .next (miso s [0, BitVec.ofNat 16 s.pwr.heatDefer] { s with pwr := { s.pwr with heatDefer := 0 } })) ∧
    (freshCount s 0x1A6 = 0 → exec .twinLinkErrRead s =
      .next (miso s [0, BitVec.ofNat 16 s.twin.linkErr] { s with twin := { s.twin with linkErr := 0 } })) ∧
    (∀ n, freshCount s 0x0E7 = n → n ≤ s.port.evtLost → s.port.evtLost < 65536 → exec .evtLostRead s =
      .next (miso s [0, BitVec.ofNat 16 (s.port.evtLost - n)] { s with port := { s.port with evtLost := n } }))

/-- Where a register's block is asleep (no ready, and the address one of those R315 says are then off), a read returns 0x0000 and sets the
sticky ASLEEP_ACCESS flag, and a write is dropped; beyond that, only the fall of CS_N acts as a wake source. In an awake block a read of a
register returns its value. -/
def Obligations.AsleepRegisterAccess : Prop :=
  (∀ (s : State) (a : Nat), spiAlive s = true → a < 512 → regAsleep s a = true →
    exec (.asleepRegisterRead a) s =
      .next (miso (wakeEvent 0 s) [0, 0] (modPort (fun p => { p with asleepAccess := true }) (wakeEvent 0 s)))) ∧
  (∀ (s : State) (a : Nat) (d : Half), spiAlive s = true → a < 512 → regAsleep s a = true →
    exec (.spiRegisterWrite (BitVec.ofNat 16 a) [d]) s = .next (miso (wakeEvent 0 s) [0] (wakeEvent 0 s))) ∧
  ∀ (s : State) (a : Nat), HostAwake s → a < 512 → a ≠ 0x0E2 → a ≠ 0x0E7 → a ≠ 0x188 → a ≠ 0x1A6 →
    exec (.asleepRegisterRead a) s = .next (miso s [0, regValue s a] s)

/-- On a device its host can reach with the window in canonical form: a write of a window word whose granule the device does not hold puts
exactly that word there, low half first; a read returns the word's halves. SPI_WINDOW_WRITE and SPI_WINDOW_READ complete; after the write
the rings settle (R328, R329: the word may belong to a descriptor that waits), which changes nothing where none waits. Where the device
holds the granule, a write lands nowhere and a read returns zeros, and either sets token_violation, counts it, and keeps the first refused
address. -/
def Obligations.WindowAccess : Prop :=
  ∀ (s : State) (i lo hi : Half), HostAwake s → Mem.wf s.win = true →
    (granuleHolder s (4 * i.toNat / 32) = none →
      (∃ u, exec (.spiWindowWrite 0x4000 i [lo, hi]) s = .next (miso s [0, 0, 0] (settle u)) ∧ winWord u (4 * i.toNat) = hi ++ lo ∧
        (∀ a, a < 4 * i.toNat ∨ 4 * i.toNat + 4 ≤ a → Mem.read u.win a = Mem.read s.win a) ∧
        { u with win := s.win } = s ∧ (nextRing s = none → settle u = u)) ∧
      exec (.spiWindowRead 0xC000 i 1) s =
        .next (miso s [0, 0, (winWord s (4 * i.toNat)).extractLsb' 0 16, (winWord s (4 * i.toNat)).extractLsb' 16 16] s)) ∧
    ((granuleHolder s (4 * i.toNat / 32)).isSome = true →
      exec (.spiWindowWrite 0x4000 i [lo, hi]) s = .next (miso s [0, 0, 0] (settle { s with
        port := { s.port with
          tokenViol := true, violCount := satSucc 0xFFFF s.port.violCount
          violAddr := if s.port.tokenViol then s.port.violAddr else 4 * i.toNat
          violWrite := if s.port.tokenViol then s.port.violWrite else true } })) ∧
      exec (.spiWindowRead 0xC000 i 1) s = .next (miso s [0, 0, 0, 0] { s with
        port := { s.port with
          tokenViol := true, violCount := satSucc 0xFFFF s.port.violCount
          violAddr := if s.port.tokenViol then s.port.violAddr else 4 * i.toNat
          violWrite := if s.port.tokenViol then s.port.violWrite else false } }))

/-- SPI_FRAME_ABORT completes. Where the port lives and CS_N rises after 1 to 15 bits of a word: the words before it have the effect they
have in a transaction of their own, and SPI_ERR.frame (bit 0) is set; where the word cut off is the high half of a window word, its low half
is dropped too, and SPI_ERR.partial (bit 1) is set together with frame. -/
def Obligations.FrameAbortDiscardsWord : Prop :=
  ∀ (s : State) (c i lo : Half) (ds : List Half) (k : Nat), spiAlive s = true → 1 ≤ k → k ≤ 15 → cmdReserved c = false →
    (cmdRead c = false → cmdWin c = false → ∃ u, exec (.spiRegisterWrite c ds) s = .next u ∧
      exec (.spiFrameAbort (c :: ds) k) s = .next { u with port := { u.port with spiErr := u.port.spiErr ||| 1 } }) ∧
    (cmdRead c = false → cmdWin c = true → ds.length % 2 = 0 → ∃ u v, exec (.spiWindowWrite c i ds) s = .next u ∧
      exec (.spiFrameAbort (c :: i :: ds) k) s = .next { u with port := { u.port with spiErr := u.port.spiErr ||| 1 } } ∧
      exec (.spiFrameAbort (c :: i :: (ds ++ [lo])) k) s = .next v ∧ v.win = u.win ∧ v.port.spiErr.getLsbD 0 = true ∧
      v.port.spiErr.getLsbD 1 = true ∧ v.dev = u.dev ∧ v.pwr = u.pwr) ∧
    (cmdRead c = true → cmdWin c = true → ∃ u, exec (.spiFrameAbort (c :: i :: ds) k) s = .next u ∧ u.win = (wakeEvent 0 s).win ∧
      u.port.spiErr.getLsbD 0 = true)

/-- DOORBELL completes. On a device its host can reach: a doorbell of a ring of size 0 is stored; one with a tail in the ring that does not
pass the descriptors the device still has is stored and clears stalled, and the rings settle; one whose tail is not below the ring's size,
or that would hand over more than the ring holds beside what the device has, changes no tail, stalls the ring, and is recorded in RING_ERR
(with the ring, its take, and cause 3 or 2) unless an earlier error stands there. No byte of the window changes before settling. -/
def Obligations.DoorbellHandsOver : Prop :=
  ∀ (s : State) (r : Nat) (v : Half), HostAwake s → s.port.rings.length = 64 → r < 64 →
    let x := getRing s r
    let tail := v.toNat % 64
    let tooMany := decide (x.size - 1 < (x.tail + x.size - x.free) % x.size + (tail + x.size - x.tail) % x.size)
    ∃ u, exec (.doorbell r v) s = .next (miso s [0] (settle u)) ∧ u.win = s.win ∧ ApartPort u s ∧
      (∀ q, q ≠ r → getRing u q = getRing s q) ∧ u.port.held = s.port.held ∧ u.port.ringDone = s.port.ringDone ∧
      (x.size = 0 → getRing u r = { x with tail := tail, stalled := false } ∧ u.port.ringErr = s.port.ringErr) ∧
      (x.size ≠ 0 → tail < x.size → tooMany = false →
        getRing u r = { x with tail := tail, stalled := false } ∧ u.port.ringErr = s.port.ringErr) ∧
      (x.size ≠ 0 → x.size ≤ tail ∨ tooMany = true → getRing u r = { x with stalled := true } ∧
        u.port.ringErr = if s.port.ringErr.getLsbD 15 then s.port.ringErr
          else BitVec.ofNat 16 (r + 64 * x.take + 4096 * (if x.size ≤ tail then 3 else 2) + 32768))

/-- ANGLE_ENABLE, ANGLE_DISABLE and ANGLE_RESYNC complete. On a well-shaped device its host can reach, for each source 0 to 4: enabling a
stopped source takes the stored kind into effect with both halves 0, synced at once for a ground pulse or synthetic source and not
otherwise; disabling stops it, holds the accumulator and clears synced; a resync of a running quadrature or tooth wheel source drops sync
and searches again, and of another kind does nothing. Every other source, every timer channel and everything but the timebase and MISO is
unchanged, but that enabling drops the candidates armed on the source and takes its entries up to 0 as passed, and that at the end the
outputs that check the source's speed are decided (07 R228), which leaves the timebase alone and changes nothing where no output checks it. -/
def Obligations.AngleControl : Prop :=
  ∀ (s : State) (n : Nat), HostAwake s → WellShaped s → n < 5 →
    (∀ t, (speedDecides n t).tb = t.tb ∧ ((∀ o, o < 4 → (itemsInForce t o).speedSrc ≠ n) → speedDecides n t = t)) ∧
    ((getSrc s n).en = false → ∃ t, exec (.angleEnable n) s = .next (miso s [0] (speedDecides n t)) ∧ (getSrc t n).en = true ∧ (getSrc t n).kind = anglePar s n 0 ∧
      (getSrc t n).pos = 0 ∧ (getSrc t n).synced = (anglePar s n 0 == 3 || anglePar s n 0 == 4) ∧ (getSrc t n).ttEn = (getSrc s n).ttEn ∧
      (∀ m, m ≠ n → getSrc t m = getSrc s m) ∧ t.tb.tmr = s.tb.tmr ∧ { t with tb := s.tb, sched := s.sched, fresh := s.fresh } = s ∧
      t.sched.cands = s.sched.cands.filter (fun c => c.src != n) ∧ t.sched.blocks = s.sched.blocks ∧
      { t.sched with cands := s.sched.cands, svcs := s.sched.svcs } = s.sched) ∧
    (∃ t, exec (.angleDisable n) s = .next (miso s [0] (speedDecides n t)) ∧ getSrc t n = { getSrc s n with en := false, synced := false } ∧
      (∀ m, m ≠ n → getSrc t m = getSrc s m) ∧ t.tb.tmr = s.tb.tmr ∧
      { t with tb := s.tb, fresh := s.fresh } = s) ∧
    ((getSrc s n).en = true → ∃ t, exec (.angleResync n) s = .next (miso s [0] (speedDecides n t)) ∧ getSrc t n = resyncSource (getSrc s n) ∧
      ((getSrc s n).kind = 1 ∨ (getSrc s n).kind = 2 → (getSrc t n).synced = false ∧ (getSrc t n).pos = (getSrc s n).pos) ∧
      (∀ m, m ≠ n → getSrc t m = getSrc s m) ∧ t.tb.tmr = s.tb.tmr ∧
      { t with tb := s.tb, fresh := s.fresh } = s)

/-- TMR_SWCAP, TMR_CLR, TMR_COMPARE_MATCH, TMR_OVERFLOW and TMR_CAPTURE_TRIGGER complete. On a well-shaped device: swcap copies the counter
of a channel in capture mode to CC with cap (and cap_lost where cap stood); clr sets it to 0 on the next 32 MHz clock; in a clocked
timebase, for a running channel on a divided clock: the compare match restarts the counter from 0 and sets match, the overflow leaves it at
0 and sets ovf, and a trigger captures on exactly the channels in capture mode that select it and have not captured on it in this clock. The
other channels are untouched by swcap and clr, and by a trigger they do not select. -/
def Obligations.TimerCommands : Prop :=
  (∀ (s : State) (n : Nat), HostAwake s → WellShaped s → n < 16 →
    (∃ t, exec (.tmrSwcap n) s = .next t ∧ (getTmr t n).cnt = (getTmr s n).cnt ∧
      (tmrCapture (getTmr s n) = true → (getTmr t n).cc = (getTmr s n).cnt ∧ (getTmr t n).cap = true ∧
        (getTmr t n).capLost = ((getTmr s n).capLost || (getTmr s n).cap)) ∧
      (tmrCapture (getTmr s n) = false → (getTmr t n).cc = (getTmr s n).cc ∧ (getTmr t n).cap = (getTmr s n).cap) ∧
      (∀ m, m ≠ n → getTmr t m = getTmr s m) ∧ t.tb.src = s.tb.src ∧ { t with tb := s.tb } = miso s [0] s) ∧
    (∃ t, exec (.tmrClr n) s = .next t ∧ getTmr t n = { getTmr s n with clrDue := true } ∧ (getTmr (advance 1 t) n).cnt = 0 ∧
      (∀ m, m ≠ n → getTmr t m = getTmr s m) ∧ t.tb.src = s.tb.src ∧ { t with tb := s.tb } = miso s [0] s)) ∧
  (∀ (s : State) (n : Nat), WellShaped s → n < 16 → timebaseRuns s = true → tmrEn (getTmr s n) = true → tmrPrescale (getTmr s n) ≠ 0 →
    (getTmr s n).rem < tmrPrescale (getTmr s n) → (getTmr s n).clrDue = false →
    (tmrCapture (getTmr s n) = false → (getTmr s n).cc ≠ 0 → ∃ t, exec (.tmrCompareMatch n) s = .next t ∧ (getTmr t n).hit = true ∧
      (getTmr t n).cnt = 0 ∧ (getTmr t n).cc = (getTmr s n).cc ∧ s.clk < t.clk ∧ { t with tb := s.tb, clk := s.clk, fresh := s.fresh } = s) ∧
    (tmrCapture (getTmr s n) = true → ∃ t, exec (.tmrOverflow n) s = .next t ∧ (getTmr t n).ovf = true ∧ (getTmr t n).cnt = 0 ∧
      (tmrTrig (getTmr s n) = 0 ∨ 5 < tmrTrig (getTmr s n) → (getTmr t n).cc = (getTmr s n).cc) ∧ s.clk < t.clk ∧
      { t with tb := s.tb, clk := s.clk, fresh := s.fresh } = s)) ∧
  ∀ (s : State) (k : Nat), timebaseRuns s = true → 1 ≤ k → k ≤ 8 → ∃ t, exec (.tmrCaptureTrigger k) s = .next t ∧
    { t with tb := s.tb, fresh := s.fresh } = s ∧ t.tb.src = s.tb.src ∧
    ∀ n, n < s.tb.tmr.length → (tmrTrig (getTmr s n) ≠ k ∨ (getTmr s n).trigClk = some s.clk → getTmr t n = getTmr s n) ∧
      (tmrTrig (getTmr s n) = k → tmrCapture (getTmr s n) = true → (getTmr s n).trigClk ≠ some s.clk → (getTmr t n).cc = (getTmr s n).cnt ∧ (getTmr t n).cap = true ∧
        (getTmr t n).capLost = ((getTmr s n).capLost || (getTmr s n).cap))

/-- ANGLE_EDGE, ANGLE_INDEX_EDGE, ANGLE_GLITCH and ANGLE_STALL complete. In a well-shaped device whose timebase is clocked, for a running
source 0 to 3: an edge of the polarity counted (a counted edge; on ANGn_B of a quadrature source alone) of kinds 1 to 3 is dated, ends a
stall, and moves no other source; for a ground pulse source it sets the next edge's angle, never below the interpolated one. The first index
edge of a quadrature source that is not synced syncs it with index_angle as its index angle, at which it stands where no speed is known yet.
A pulse shorter than the filter's clocks sets glitch, and a longer one none; stall_ms after the last edge, or after the start where there
was none, a stall sets stalled with no interval, and makes a tooth wheel lose sync. After an edge and a stall the outputs that check the
source's speed are decided (07 R228), which leaves the timebase alone. -/
def Obligations.AngleEvents : Prop :=
  ∀ (s : State) (n : Nat), WellShaped s → timebaseRuns s = true → n < 4 →
    (∀ t, (speedDecides n t).tb = t.tb) ∧
    (∀ (e : PinEdge) (f : Bool) (d : Nat), d + filterClocks s n ≤ s.clk → (getSrc s n).en = true → 1 ≤ (getSrc s n).kind → (getSrc s n).kind ≤ 3 →
      countsEdge s n (getSrc s n).kind e.rises = true → (e.onB = true → (getSrc s n).kind = 1) →
      ∃ t, exec (.angleEdge n e f d) s = .next (speedDecides n t) ∧ (getSrc t n).lastEdge = some d ∧ (getSrc t n).stalled = false ∧
        (getSrc t n).kind = (getSrc s n).kind ∧
        ((getSrc s n).kind = 3 → (getSrc t n).edgeIdx = (getSrc s n).edgeIdx + 1 ∧
          (getSrc t n).edgePos = (getSrc s n).indexPos + edgeOffset s n 3 ((getSrc s n).edgeIdx + 1) ∧ (getSrc s n).pos ≤ (getSrc t n).pos) ∧
        (∀ m, m ≠ n → getSrc t m = getSrc s m) ∧ { t with tb := s.tb, sched := s.sched, fresh := s.fresh } = s ∧
        ((getSrc s n).synced = true → { t.sched with svcs := s.sched.svcs } = s.sched)) ∧
    (∀ d : Nat, d + filterClocks s n ≤ s.clk → (getSrc s n).en = true → (getSrc s n).kind = 1 → (getSrc s n).synced = false →
      ∃ t, exec (.angleIndexEdge n true d) s = .next t ∧ (getSrc t n).synced = true ∧ (getSrc t n).syncGain = true ∧
        (getSrc t n).indexPos / 65536 % 65536 = ((anglePar s n 6 % 65536 : Nat) : Int) ∧
        ((getSrc s n).interval = 0 → angleHalf (getSrc t n) = anglePar s n 6 % 65536) ∧ counts (getSrc s n) ≤ counts (getSrc t n) ∧
        (∀ m, m ≠ n → getSrc t m = getSrc s m) ∧ { t with tb := s.tb, sched := s.sched, fresh := s.fresh } = s ∧ t.sched.blocks = s.sched.blocks) ∧
    (∀ c : Nat, c < filterClocks s n → ∃ t, exec (.angleGlitch n c) s = .next t ∧ getSrc t n = { getSrc s n with glitch := true } ∧
      (∀ m, m ≠ n → getSrc t m = getSrc s m) ∧ { t with tb := s.tb, fresh := s.fresh } = s) ∧
    (∀ c : Nat, filterClocks s n ≤ c → exec (.angleGlitch n c) s = .next s) ∧
    ((getSrc s n).en = true → 1 ≤ (getSrc s n).kind → (getSrc s n).kind ≤ 3 → anglePar s n 5 ≠ 0 →
      (getSrc s n).lastEdge.getD (getSrc s n).startClk + clkMs (anglePar s n 5) ≤ s.clk →
      ∃ t, exec (.angleStall n) s = .next (speedDecides n t) ∧ (getSrc t n).stalled = true ∧ (getSrc t n).interval = 0 ∧
        (getSrc t n).pos = (getSrc s n).pos ∧ angleSpeed (getSrc t n) = 0 ∧
        (getSrc t n).synced = (if (getSrc s n).kind = 2 then false else (getSrc s n).synced) ∧
        (∀ m, m ≠ n → getSrc t m = getSrc s m) ∧ { t with tb := s.tb, fresh := s.fresh } = s)

/-- ENTRY_ARM completes. For a defined service in RUN whose entry lies ahead by no more than arm_lead_us, due at that entry and not yet
submitted, with a span and a route that has members: with no faulted member a candidate with the route, span, price and priority of the
moment, for that crossing, joins the candidates; with one, the service's demands are withdrawn and nothing is submitted. Nothing else
changes but the challenge drawn, or the port where a waiting descriptor completes. -/
def Obligations.EntriesArm : Prop :=
  ∀ (s : State) (svc opp t : Nat) (v : Svc), blocksWork s = true → s.dev.mode = .run → findSvc s svc = some v → v.defined = true →
    opp < entryCount s svc → sourceFires s (svcPar s svc 3) = true →
    predictReach s (svcPar s svc 3) (nextAt (counts (getSrc s (svcPar s svc 3)) + 1) (entryAngle s svc opp)) = some t →
    t ≤ s.clk + clkUs (anglePar s (svcPar s svc 3) 10) →
    dueAhead s v (entriesAhead s svc opp) = true → (s.sched.cands.any fun c => c.svc == svc && c.opp == opp) = false →
    svcPar s svc 7 ≠ 0 → routeMembers s (svcPar s svc 1) ≠ 0 →
    (routeState s (svcPar s svc 1) ≠ 2 → exec (.entryArm svc opp) s =
      .next { s with free := s.free + 4, sched := { s.sched with cands := s.sched.cands ++
        [makeCand s svc opp (nextAt (counts (getSrc s (svcPar s svc 3)) + 1) (entryAngle s svc opp)) t v] } }) ∧
    (routeState s (svcPar s svc 1) = 2 → ∃ u, exec (.entryArm svc opp) s = .next u ∧ u.sched.cands = s.sched.cands ∧
      (∀ x ∈ u.sched.svcs, x.n = svc → x.demands = []) ∧ ApartPort { u with sched := s.sched } s)

/-- LEDGER_STEP and ADMISSION_FINAL complete. While the signal box runs, no image from a chain is in hand and no self-test is held up, a
ledger step with eight readings dates itself 1 ms after the last, takes the readings and VBAT, sums core and running blocks into P_now,
keeps the peak temperature and moves the heat condition with its 2 °C hysteresis; of services it changes nothing but demands, of lines
nothing but flags, of blocks nothing but which bursts have been quenched. ADMISSION_FINAL on the only candidate of an entry, its decision
not final, stands 50 µs before the crossing it predicts and leaves that candidate final, decided; one nearer than 50 µs, or crossed, is left
as it is. -/
def Obligations.LedgerAndAdmission : Prop :=
  (∀ (s : State) (x : List Int) (v : Nat), boxRuns s = true → x.length = 8 → s.nv.chainTarget = false →
    (∀ h ∈ s.port.held, ∀ f, h.kind ≠ .selftest f) →
    ∃ u, exec (.ledgerStep x v) s = .next u ∧ u.dev = { s.dev with sensors := x, vbatMv := v } ∧
      u.clk = max s.clk (s.pwr.ledgerClk + 32000) ∧ u.pwr.ledgerClk = u.clk ∧
      u.pwr.pNowUw = par s (pwrId 3) * 1000 + (s.sched.blocks.map fun b => b.priceUw).sum ∧
      u.pwr.tPeak = max s.pwr.tPeak (5 * (hottest x).1) ∧
      u.pwr.hot = (if s.pwr.hot then !decide (5 * (hottest x).1 < 10 * (par s (pwrId 0) : Nat) - 20)
        else decide ((10 * (par s (pwrId 0) : Nat) : Int) ≤ 5 * (hottest x).1)) ∧
      ApartPort { u with clk := s.clk, tb := s.tb, dev := s.dev, pwr := s.pwr, sched := s.sched, lines := s.lines } s ∧
      { u.sched with cands := s.sched.cands, svcs := s.sched.svcs, blocks := s.sched.blocks } = s.sched ∧
      (u.sched.blocks.map fun b => { b with quenched := 0 }) = (s.sched.blocks.map fun b => { b with quenched := 0 }) ∧
      (u.sched.svcs.map fun v => { v with demands := [] }) = (s.sched.svcs.map fun v => { v with demands := [] }) ∧
      (u.lines.map fun l => { l with flags := 0 }) = (s.lines.map fun l => { l with flags := 0 })) ∧
  ∀ (s : State) (svc : Nat) (c : Cand), (s.sched.cands.find? fun x => x.svc == svc && !x.final) = some c →
    ((renewCand s c).crossing < s.clk + 1600 ∨ c.target ≤ counts (getSrc s c.src) → exec (.admissionFinal svc) s = .next s) ∧
    (s.clk + 1600 ≤ (renewCand s c).crossing → counts (getSrc s c.src) < c.target → s.dev.mode = .run →
      (∀ x ∈ s.sched.cands, sameCand x c = true → x = c) →
      (c.decision ≠ .waiting ∨ (renewCand s c).crossing ≤ (renewCand (advanceTo ((renewCand s c).crossing - 1600) s) c).crossing) →
      ∃ u, exec (.admissionFinal svc) s = .next u ∧ u.clk = (renewCand s c).crossing - 1600 ∧
      (∀ x ∈ u.sched.cands, sameCand x c = true → x.final = true ∧ x.decision ≠ .waiting) ∧
      { u.sched with cands := s.sched.cands } = s.sched ∧
      { u with clk := s.clk, tb := s.tb, sched := s.sched, pwr := s.pwr, fresh := s.fresh } = s)

/-- ENTRY_CROSSING completes. For a due entry of a defined service whose source lets it fire and has met the entry, which the service has
not taken yet: outside sleep commit, an admitted, final candidate whose lines and an AES engine are free starts a block with its route and
span at the first carrier boundary at or after the crossing (the model counts the boundaries from clock 0, assumption log 15), and the
service has started with its count of crossings at 0; a displaced candidate, one refused, and an entry with none submitted defer the service
once more, starting nothing, the last setting tt_late of the source. -/
def Obligations.CrossingStartsOrDefers : Prop :=
  ∀ (s : State) (svc opp : Nat) (v : Svc), blocksWork s = true → findSvc s svc = some v → v.defined = true → opp < entryCount s svc →
    svcDue s { v with crossings := v.crossings + 1 } = true → sourceFires s (svcPar s svc 3) = true →
    (∀ c : Cand, (s.sched.cands.find? fun x => x.svc == svc && x.opp == opp) = some c →
      c.target ≤ counts (getSrc s (svcPar s svc 3)) → c.target ≤ crossingOf v (getSrc s (svcPar s svc 3)) (entryAngle s svc opp) → c.final = true →
      (c.decision = .admitted → c.displaced = false → s.dev.mode ≠ .commit → findBlock s svc = none → s.staged = [] → routeState s c.route = 1 →
        linesHeld s &&& routeMembers s c.route = 0 → aesBusy s < 4 →
        ∃ u b, exec (.entryCrossing svc opp) s = .next u ∧ findBlock u svc = some b ∧ b.route = c.route ∧ b.span = c.span ∧
          b.startClk = max s.clk (ceilDiv s.clk (linesDiv s (routeMembers s c.route)) * linesDiv s (routeMembers s c.route)) ∧
          u.sched.cands = s.sched.cands.filter (fun x => !sameCand x c) ∧
          (∀ x ∈ u.sched.svcs, x.n = svc → x.started = true ∧ x.crossings = 0 ∧ x.deferred = false) ∧ u.nv = s.nv ∧ u.keys = s.keys) ∧
      (c.decision = .refused ∨ c.displaced = true →
        exec (.entryCrossing svc opp) s = .next { s with sched := { s.sched with
          cands := s.sched.cands.filter fun x => !sameCand x c
          svcs := s.sched.svcs.map fun x => if x.n == svc then
            { x with crossings := x.crossings + 1, crossed := c.target, deferrals := min 16383 (x.deferrals + 1), deferred := true } else x } })) ∧
    ((s.sched.cands.find? fun x => x.svc == svc && x.opp == opp) = none → svcPar s svc 7 ≠ 0 → routeState s (svcPar s svc 1) = 1 →
      crossingOf v (getSrc s (svcPar s svc 3)) (entryAngle s svc opp) ≤ counts (getSrc s (svcPar s svc 3)) →
      exec (.entryCrossing svc opp) s = .next { s with
        fresh := (0x17F, 2 ^ svcPar s svc 3) :: s.fresh
        tb := { s.tb with ttLate := s.tb.ttLate ||| (1 <<< svcPar s svc 3) }
        sched := { s.sched with svcs := s.sched.svcs.map fun x => if x.n == svc then
          { x with crossings := x.crossings + 1, crossed := crossingOf v (getSrc s (svcPar s svc 3)) (entryAngle s svc opp),
                   deferrals := min 16383 (x.deferrals + 1), deferred := true } else x } })

/-- LIVE_CAL_STEP, HEADROOM_LIMIT and LINE_FAULT complete. In a running device, on a line a block drives: from the 16th driven cycle on, two
cycles after a gap or later, a peak short of target but of at least a quarter sets flag 0; a calibration boundary changes nothing in mode 0;
where a step is due, mode 1 with the resonance error beyond its limit moves the tuning code by one towards zero error, and a phase error
beyond its limit otherwise moves the trim by one against it, where they stay in range, storing the two phasors and counting the step; an
observation that shows a fault of a fitted line stores its code, takes the line out of what the block drives, leaves the flags of its quench
(R93), marks the block and posts event 0x8001 (its service byte is open for a block of the calibration sweep). No other line changes. -/
def Obligations.DrivenLines : Prop :=
  ∀ (s : State) (l : Nat) (b : Block), isRunning s = true → l < s.lines.length → drivingBlock s l = some b →
    (∀ (cyc ma : Nat), memberDriven b l cyc = true → 16 ≤ drivenCycles b l cyc → 2 ≤ sinceDriveBegan b l cyc → ma < blockPeak s b l → blockPeak s b l ≤ 4 * ma →
      exec (.headroomLimit l cyc ma) s =
        .next (modLine l (fun x => { x with flags := x.flags ||| 1 }) (advanceTo (b.startClk + cyc * b.div) s))) ∧
    (∀ (bd : Nat) (i v : Phasor),
      (linePar s l 7 = 0 → exec (.liveCalStep l bd i v) s = .next s) ∧
      (∀ (item : Nat) (step : Int), stepDue s b l bd = true →
        ((linePar s l 7 = 1 ∧ linePar s l 8 < (wrap512 (argOf i - argOf v)).natAbs ∧ item = 5 ∧ step = intSign (wrap512 (argOf i - argOf v)) ∧
            0 ≤ (liveParam s (lineId l 5)).toInt + step) ∨
          (linePar s l 7 ≠ 0 ∧ (linePar s l 7 ≠ 1 ∨ (wrap512 (argOf i - argOf v)).natAbs ≤ linePar s l 8) ∧
            linePar s l 9 < (wrap512 (argOf i - 8 * weightPhase (routeWeight (atStart b s) b.route l))).natAbs ∧ item = 6 ∧
            step = -(intSign (wrap512 (argOf i - 8 * weightPhase (routeWeight (atStart b s) b.route l)))) ∧
            -64 ≤ (liveParam s (lineId l 6)).toInt + step)) →
        (liveParam s (lineId l item)).toInt + step ≤ 63 →
        ∃ u, exec (.liveCalStep l bd i v) s = .next u ∧ u.clk = max s.clk (bd * b.div) ∧
          getLine u l = { getLine s l with phasorI := phasorWord i, phasorV := phasorWord v, lastStep := some (bd * b.div),
                                           calSteps := (getLine s l).calSteps + 1 } ∧
          u.par = Cells.putD s.par (lineId l item) (BitVec.ofInt 32 ((liveParam s (lineId l item)).toInt + step)) (paramReset (lineId l item)) ∧
          (∀ m, m ≠ l → getLine u m = getLine s m) ∧
          { u with lines := s.lines, par := s.par, clk := s.clk, tb := s.tb, fresh := s.fresh } = s)) ∧
    (∀ obs : LineObs, faultOf s b l obs ≠ 0 → linePar s l 0 ≠ 0 → ∃ u, exec (.lineFault l obs) s = .next u ∧
      u.clk = max s.clk (b.startClk + obsCyc obs * b.div) ∧
      getLine u l = { getLine s l with fault := faultOf s b l obs, flags := (getLine (quenchLine b s l) l).flags } ∧ (∀ m, m ≠ l → getLine u m = getLine s m) ∧
      (∀ x ∈ u.sched.blocks, x.svc = b.svc → x.faulted = true ∧ x.driven.getLsbD l = false) ∧
      Posts s 0x8001 (payload [l, faultOf s b l obs, if b.svc < 256 then b.svc else (Config.openByte s.free).toNat]) u ∧
      ApartPort { u with clk := s.clk, tb := s.tb, lines := s.lines, sched := s.sched, free := s.free } s)

/-- REPLY_WINDOW_CLOSE and BLOCK_END complete. In a running device: where the reply window of a READ, MEASURE, AUTH_2, H_STATUS or H_CHAIN
closes with no preamble accepted, before the third attempt and with room in the span beside what its block keeps for later first attempts
(the model's reading, assumption log 16), the clock stands at the window's close and the same command is sent again as a new frame of the
block, its attempt counted; of the lines only flags change. At its end, where no block of lower instance ends with it and no other block or
job waits for that, a block's lines are held no more by it, the clock standing past its span and the quench of its lines; a KEY_POLL no
descriptor waits for changes nothing else but the regeneration flags of its driven lines. -/
def Obligations.RepliesAndBlockEnd : Prop :=
  (∀ (s : State) (svc : Nat) (b : Block) (c : AirCmd) (rx : List RxChannel), isRunning s = true → findBlock s svc = some b → b.cmd = some c →
    hasStatus c = true → receive s b (replyLen c) rx = none → b.attempt < 3 →
    b.used + frameCyc (cmdFrame c) + windowClose c false + cmdCost c + keptSpan s b c ≤ usable b →
    ∃ u, exec (.replyWindowClose svc rx) s = .next u ∧
      u.clk = max s.clk (b.startClk + (b.used + frameCyc (cmdFrame c) + windowClose c false) * b.div) ∧
      findBlock u svc = some { b with used := b.used + frameCyc (cmdFrame c) + windowClose c false, cmd := some c, attempt := b.attempt + 1,
                                      frames := (b.used + frameCyc (cmdFrame c) + windowClose c false, cmdFrame c) :: b.frames } ∧
      (u.lines.map fun l => { l with flags := 0 }) = (s.lines.map fun l => { l with flags := 0 }) ∧
      { u.sched with blocks := s.sched.blocks } = s.sched ∧
      { u with clk := s.clk, tb := s.tb, fresh := s.fresh, sched := s.sched, lines := s.lines } = s) ∧
  (∀ (s : State) (svc : Nat) (b : Block) (m : BlockMeas), isRunning s = true → findBlock s svc = some b → b.type = 1 → b.cmd = none →
    endsBefore s b = [] → (∀ x ∈ s.sched.blocks, x.svc ≠ svc → x.ended = none) → (∀ j ∈ s.sec.jobs, j.running = true) →
    s.sec.slotWrites = [] → s.twin.backlog = [] → s.port.held = [] → s.staged = [] → ∃ u, exec (.blockEnd svc m) s = .next u ∧ findBlock u svc = none ∧
      u.clk = max s.clk (b.startClk + b.span * b.div + holdCyc s b * b.div) ∧
      u.sched = { s.sched with blocks := s.sched.blocks.filter fun x => x.svc != svc } ∧
      (∀ k, b.driven.getLsbD k = false → getLine u k = getLine s k) ∧ (∀ k, (getLine u k).fault = (getLine s k).fault) ∧
      { u with clk := s.clk, tb := s.tb, fresh := s.fresh, sched := s.sched, lines := s.lines } = s)

/-- SYNTH_LOCK, LOCK_LOSS, COEX_GRANT_RISE, COEX_GRANT_FALL, PREAMBLE_DETECTED, BG_CAL_INTERVAL and BG_CAL_SLICE_END complete. While the
radio works: SYNTH_LOCK locks in SYNTH, dated, and again in an exchange, whose amplifier comes on; a loss of lock unlocks, counted in TX
(where the packet ends) and in RANGE (where the slot falls silent), and is nothing to an unlocked synthesiser; the grant follows its wire,
its fall ending a transmission in TX with ST_COEX_DENIED where coexistence is on, while a ramp due in that clock does not begin, its packet
and counter as before and the wait going on; a preamble heard aborts a calibration slice; a calibration interval starts the next item from
its first slice, bg_interval_ms after the last or at once where a sensor has moved; and the end of a slice moves to the next slice, or ends
the item, whose results then count. Beside the radio, the transmit time of band 1 where a transmission is cut, and time, nothing changes. -/
def Obligations.SynthesiserGrantCalibration : Prop :=
  ∀ s : State, radioWorks s = true →
    (∀ (q : TxReq) (rest : List TxReq), s.radio.state = 2 → s.radio.locked = false → s.radio.queue = q :: rest → heldOff s q = false →
      EnginesUnawaited s → exec .synthLock s = .next { s with radio := { s.radio with locked := true, lockClk := s.clk } }) ∧
    (s.radio.state = 5 → s.radio.locked = false → ∃ u, exec .synthLock s = .next u ∧ u.radio.locked = true ∧ u.radio.lockClk = s.clk ∧
      u.radio.paOn = true ∧ u.radio.lostSlot = none ∧ u.radio.state = 5 ∧ { u with radio := s.radio } = s) ∧
    (s.radio.locked = false → exec .lockLoss s = .next s) ∧
    (s.radio.locked = true → s.radio.state ≠ 4 → s.radio.state ≠ 5 → exec .lockLoss s = .next { s with radio := { s.radio with locked := false } }) ∧
    (s.radio.state = 5 → s.radio.locked = true → ∃ u, exec .lockLoss s = .next u ∧ u.radio.locked = false ∧ u.radio.paOn = false ∧
      u.radio.lostSlot = some (toneSlot s) ∧ u.radio.unlocks = s.radio.unlocks + 1 ∧ u.radio.state = 5 ∧ { u with radio := s.radio } = s) ∧
    exec .coexGrantRise s = .next { s with radio := { s.radio with grant := true } } ∧
    (s.radio.grant = false ∨ coexOn s = false ∨ s.radio.state = 3 ∨ s.radio.state = 1 →
      exec .coexGrantFall s = .next { s with radio := { s.radio with grant := false } }) ∧
    (∀ q : TxReq, s.radio.state = 4 → s.radio.queue = [q] → q.kind = 2 ∨ q.kind = 3 → EnginesUnawaited s →
      (s.radio.locked = true → ∃ u, exec .lockLoss s = .next u ∧ u.radio.queue = [] ∧ u.radio.paOn = false ∧ u.radio.coexReq = false ∧
        u.radio.state = restState s ∧ u.radio.unlocks = s.radio.unlocks + 1 ∧
        { u with radio := s.radio, prox := { u.prox with duty := s.prox.duty } } = s) ∧
      (coexOn s = true → s.radio.grant = true → s.radio.paOn = true → s.radio.airClk = s.clk → (getKeyNv s q.slot).state ≠ 3 →
        exec .coexGrantFall s = .next { s with
          keys := modNth s.keys q.slot fun k => { k with dlCtr := k.dlCtr - 1 }
          radio := { s.radio with grant := false, sent := s.radio.sent.drop 1, state := 2, paOn := false, cwEnd := none } }) ∧
      (coexOn s = true → s.radio.grant = true → ¬(s.radio.paOn = true ∧ s.radio.airClk = s.clk) →
        ∃ u, exec .coexGrantFall s = .next u ∧ u.radio.queue = [] ∧ u.radio.paOn = false ∧
        u.radio.coexReq = false ∧ u.radio.state = restState s ∧ u.radio.coexDenied = s.radio.coexDenied + 1 ∧ u.radio.grant = false ∧
        { u with radio := s.radio, prox := { u.prox with duty := s.prox.duty } } = s)) ∧
    (hears s = true → prepareEnded s = false → exec .preambleDetected s = .next { s with radio := { s.radio with
      preamble := true
      calSlice := if s.radio.calRunning then 0 else s.radio.calSlice
      calRunning := if s.radio.calRunning then s.radio.calRound != 0 else s.radio.calRunning } }) ∧
    (hears s = true → s.dev.mode = .commit → ∃ u, exec .preambleDetected s = .next u ∧ u.pwr = { s.pwr with preambleSeen := true } ∧
      u.radio.preamble = true ∧ { u with radio := s.radio, pwr := s.pwr } = s) ∧
    (s.dev.mode = .run → radioSet s = true → s.radio.calRunning = false → s.radio.state ≠ 0 → ∃ u, exec .bgCalInterval s = .next u ∧
      u.clk = (if tempMoved s then s.clk else max s.clk (s.radio.bgClk + clkMs (radioPar s 10))) ∧
      u.radio = { s.radio with calRunning := true, calSlice := 0, bgClk := u.clk } ∧
      { u with radio := s.radio, clk := s.clk, tb := s.tb, fresh := s.fresh } = s) ∧
    (s.radio.calRunning = true → sliceMayRun s = true → s.radio.calSlice + 1 < calSlices s.radio.calItem →
      exec .bgCalSliceEnd s = .next { s with radio := { s.radio with calSlice := s.radio.calSlice + 1 } }) ∧
    (s.radio.calRunning = true → sliceMayRun s = true → calSlices s.radio.calItem ≤ s.radio.calSlice + 1 →
      ∃ u, exec .bgCalSliceEnd s = .next u ∧
        u.radio = { s.radio with bgCals := s.radio.bgCals + 1, calItem := (s.radio.calItem + 1) % 4, calSlice := 0,
                                 calRound := s.radio.calRound - 1, calRunning := 1 < s.radio.calRound,
                                 bgTemp := if s.radio.calItem = 3 then s.dev.sensors else s.radio.bgTemp } ∧
        ApartPort { u with radio := s.radio } s ∧
        (s.radio.calRound = 1 → ∀ h ∈ u.port.held, h.kind ≠ .radioCal) ∧ (s.radio.calRound ≠ 1 → u.port = s.port ∧ u.win = s.win))

/-- RADIO_TX_REQUEST completes. With the oldest request waiting and the radio in RUN, a carrier that a sleep entry sent back to wait is
taken as it stands, its deadline the moment it is taken; of the others: without region or data channel a request other than a poll is
withdrawn; with a counter the mark does not cover, a mark is set to be written and the request waits; with a counter the mark covers and a
key derived from K_M, the request leaves those waiting and joins the radio's queue, an idle radio taking it in hand in SYNTH with the items
of its class in force and the wires as they ask. Beside the radio, or the flash work, nothing changes. -/
def Obligations.TransmitRequests : Prop :=
  ∀ (s : State) (q : TxReq) (rest : List TxReq), s.radio.wants = q :: rest → radioStarts s = true →
    (q.kind = 4 → ∃ u, exec .radioTxRequest s = .next u ∧ { u with radio := s.radio } = s ∧ u.radio.wants = rest ∧
      (s.radio.queue ≠ [] → u.radio.queue = s.radio.queue ++ [q]) ∧
      (s.radio.queue = [] → u.radio.queue = [{ q with taken := s.clk, deadline := s.clk }] ∧ u.radio.state = 2)) ∧
    (radioSet s = false → q.kind ≠ 0 → q.kind ≠ 4 → EnginesUnawaited s → exec .radioTxRequest s = .next { s with radio := { s.radio with wants := rest } }) ∧
    (radioSet s = true → q.kind ≠ 4 → (getKey s q.slot).dlCtr ≠ 0xFFFFFFFF → (getKeyNv s q.slot).dlMark.toNat < (getKey s q.slot).dlCtr.toNat + 1 →
      hasDlWork s q.slot = false →
      exec .radioTxRequest s = .next { s with sec := { s.sec with flash := s.sec.flash ++ [.dlMark q.slot] } }) ∧
    (∀ kf : List Byte, radioSet s = true → q.kind ≠ 4 → (getKey s q.slot).dlCtr.toNat + 1 ≤ (getKeyNv s q.slot).dlMark.toNat →
      (getKey s q.slot).dlCtr ≠ 0xFFFFFFFF → accessKey s (s.clk + 1) "ILK-FOB" (getKeyNv s q.slot).uid = .ok kf →
      ∃ u, exec .radioTxRequest s = .next u ∧ { u with radio := s.radio } = s ∧ u.radio.wants = rest ∧
        (s.radio.queue ≠ [] → u.radio.queue = s.radio.queue ++ [q] ∧ u.radio.state = s.radio.state) ∧
        (s.radio.queue = [] → u.radio.queue = [{ q with taken := s.clk }] ∧ u.radio.state = 2 ∧
          u.radio.conf = (s.par.filter fun e => e.1 / 2048 == 15) ∧ u.radio.coexReq = coexOn u ∧
          u.radio.coexPrio = (coexOn u && prioOf u q.kind) ∧ u.radio.calSlice = 0 ∧ u.radio.paOn = false))

/-- PA_RAMP_START, TX_END, TX_DEADLINE_EXPIRY, COEX_WAIT_EXPIRY and RADIO_CW_END complete. With lock, grant and lead time met and the
deadline not passed, the amplifier ramps: a packet takes the next downlink counter of its slot and goes out under it, after the sync word,
on the port of the key's last packet and within the region's cap; a carrier gets its end. At the end of a poll, at its due moment, the radio
stays to receive its report, the poll done. At its deadline, or past the coexistence wait, a FOB_ACK or RESYNC in SYNTH leaves the queue,
counted, late where both come together. A carrier ends at its time, completing the RADIO_CW it served. -/
def Obligations.Transmissions : Prop :=
  ∀ (s : State) (q : TxReq) (rest : List TxReq), radioWorks s = true → s.radio.queue = q :: rest → EnginesUnawaited s →
    (s.radio.state = 2 → s.radio.locked = true → granted s = true → leadEnd s ≤ s.clk → tooLate s q = false → heldOff s q = false →
      (q.kind = 4 → exec .paRampStart s = .next { s with
        radio := { s.radio with state := 4, paOn := true, port := cwPort s, dbm := powerOf s q, cwEnd := some (s.clk + clkMs q.arg.toNat),
                                airClk := s.clk } }) ∧
      (∀ p : AirPacket, q.kind ≠ 1 → q.kind ≠ 4 → (getKey s q.slot).dlCtr.toNat < (getKeyNv s q.slot).dlMark.toNat →
        (getKey s q.slot).dlCtr.toNat < 0xFFFFFFFE → devicePacket s q ((getKey s q.slot).dlCtr + 1) = .ok p →
        exec .paRampStart s = .next { s with
          keys := modNth s.keys q.slot fun k => { k with dlCtr := (getKey s q.slot).dlCtr + 1 }
          radio := { s.radio with state := 4, paOn := true, port := p.port, dbm := p.dbm, airClk := s.clk,
                                  sent := p :: s.radio.sent } } ∧
        p.port = (getKey s q.slot).port ∧ p.dbm ≤ capDbm s ∧ p.sync = 0xC6A9 ∧ p.khz = s.radio.chan)) ∧
    (q.kind = 0 → s.radio.state = 4 → s.radio.paOn = true → ∃ u, exec .txEnd s = .next u ∧
      u.radio = { s.radio with state := 3, paOn := false, coexReq := false, coexPrio := false } ∧
      (∀ x ∈ u.prox.seqs, x.id = q.seq → x.polled = true) ∧ u.prox.seqs.length = s.prox.seqs.length ∧
      u.clk = max s.clk (s.radio.airClk + packetClocks q.kind) ∧
      { u with radio := s.radio, prox := s.prox, clk := s.clk, tb := s.tb, fresh := s.fresh } = s) ∧
    (q.kind = 2 ∨ q.kind = 3 → rest = [] →
      (s.radio.state = 4 → s.radio.paOn = true → ∃ u, exec .txEnd s = .next u ∧ u.radio.queue = [] ∧
        u.radio.state = restState (advanceTo (s.radio.airClk + packetClocks q.kind) s) ∧
        u.radio.paOn = false ∧ u.radio.txLate = s.radio.txLate ∧ u.clk = max s.clk (s.radio.airClk + packetClocks q.kind) ∧
        { u with radio := s.radio, prox := { u.prox with duty := s.prox.duty }, clk := s.clk, tb := s.tb, fresh := s.fresh } = s) ∧
      (s.radio.state = 2 → heldOff s q = false → ∃ u, exec .txDeadlineExpiry s = .next u ∧ u.clk = max s.clk q.deadline ∧ u.radio.queue = [] ∧
        u.radio.state = restState (advanceTo q.deadline s) ∧ u.radio.txLate = s.radio.txLate + 1 ∧
        { u with radio := s.radio, clk := s.clk, tb := s.tb, fresh := s.fresh } = s) ∧
      (s.radio.state = 2 → heldOff s q = false → granted s = false →
        ∃ u, exec .coexWaitExpiry s = .next u ∧ u.clk = max s.clk (min (waitEnd s q) q.deadline) ∧ u.radio.queue = [] ∧
          u.radio.state = restState (advanceTo (min (waitEnd s q) q.deadline) s) ∧
          (u.clk < q.deadline → u.radio.coexDenied = s.radio.coexDenied + 1 ∧ u.radio.txLate = s.radio.txLate) ∧
          (q.deadline ≤ u.clk → u.radio.txLate = s.radio.txLate + 1 ∧ u.radio.coexDenied = s.radio.coexDenied) ∧
          { u with radio := s.radio, clk := s.clk, tb := s.tb, fresh := s.fresh } = s)) ∧
    (∀ t : Nat, q.kind = 4 → s.radio.cwEnd = some t → s.radio.paOn = true → s.dev.mode = .run ∨ rest = [] → ∃ u, exec .radioCwEnd s = .next u ∧ u.clk = max s.clk t ∧
      u.radio.cwEnd = none ∧ u.radio.queue.length = rest.length ∧ u.radio.paOn = false ∧
      (∀ h, (s.port.held.find? fun x => x.kind == .radioCw) = some h → findHeld u h.ring h.idx = none) ∧
      ApartPort { u with radio := s.radio, clk := s.clk, tb := s.tb, prox := s.prox } s ∧ u.prox.seqs = s.prox.seqs)

/-- KP_ANSWER and FOB_DATA complete. On a receiver that hears the data channel, for a packet of the form of R274 and R276: a MIC that does
not match is counted and nothing else happens but the port noted. A KP_ANSWER or FOB_DATA that matches for an ACTIVE slot, with a counter
above every one taken, within ctr_window and at or below the mark, while no mark of that key awaits the twin, makes the slot's counter this
one and the key heard on this port, AWAY becoming PRESENT, and the data of a FOB_DATA posts event 0x8021 and asks for FOB_ACK, and a
KP_ANSWER heard in a KEY_POLL's window adds its record to that block's results; a counter above the mark waits, counted by nothing yet, for
a mark to be written; a counter not above those taken is refused and counted, in a slot of any state, and asks for RESYNC at most once in
100 ms. No other slot changes. A ZT_REPORT whose MIC does not match is counted. -/
def Obligations.PacketsFromKeys : Prop :=
  (∀ (s : State) (p : FobPacket) (uid : Dword) (ctr : Word) (kf plain : List Byte) (k : Nat), hearsAny (beginWindows s) = true →
    uid = BitVec.ofNat 64 (beNat (p.clear.take 8)) → ctr = BitVec.ofNat 32 (beNat ((p.clear.drop 8).take 4)) →
    accessKey s (s.clk + 1) "ILK-FOB" uid = .ok kf →
    ∀ (i : Instr) (kp : Bool), (kp = true → i = .kpAnswer p ∧ p.payload.length = 1 ∧ wellFormed p 1 12 = true) →
      (kp = false → i = .fobData p ∧ p.payload.length ≤ 24 ∧ wellFormed p 4 13 = true ∧ (p.clear.getD 12 0).toNat = p.payload.length) →
    (openFob kf p uid ctr = none → exec i s = .next { s with
      radio := { (beginWindows s).radio with preamble := false, lastPort := packetPort (beginWindows s) p.corr, rxBadMic := s.radio.rxBadMic + 1 } }) ∧
    (openFob kf p uid ctr = some plain → plain.length = p.payload.length → slotOfUid s uid = some k → WellShaped s →
      (getKeyNv s k).state = 1 → ctr ≠ 0xFFFFFFFF → highestCtr s k < ctr.toNat →
      ctr.toNat ≤ (getKey s k).ctrLast.toNat + par s (lockId 4 2) → (∀ a ∈ s.sec.awaiting, marksKey k a.2 = false) →
      ((getKeyNv s k).ctrMark.toNat < ctr.toNat → ∃ u, exec i s = .next u ∧
        u.sec.flash = s.sec.flash ++ [.fobMark k ctr (if kp then 1 else 4) plain s.clk (if kp then windowNow (beginWindows s) else [])] ∧
        u.keys = (modNth s.keys k fun x => { x with port := packetPort (beginWindows s) p.corr }) ∧
        { u with keys := s.keys, radio := s.radio, sec := { u.sec with flash := s.sec.flash } } = s) ∧
      (ctr.toNat ≤ (getKeyNv s k).ctrMark.toNat → ∃ u, exec i s = .next u ∧
        getKey u k = { getKey s k with ctrLast := ctr, port := packetPort (beginWindows s) p.corr, heardClk := some s.clk
                                       status := if (getKey s k).status = 0 then 1 else (getKey s k).status } ∧
        (∀ j, j ≠ k → getKey u j = getKey s j) ∧ u.radio.rxPackets = s.radio.rxPackets + 1 ∧
        (kp = false → plain ≠ [] → Posts s 0x8021 (payload [k, plain.length, 0, 0] ++ leBytes 4 ctr.toNat ++ plain) u ∧
          u.radio.wants = s.radio.wants ++
            [{ kind := 2, slot := k, seq := 0, arg := ctr, deadline := s.clk + clkMs 5, taken := s.clk, khz := 0, dbm := 0 }]) ∧
        u.sched.results = (if kp then (windowNow (beginWindows s)).foldl (fun l x => l.map fun y => if y.svc == x.1 && y.startClk == x.2 then
          { y with words := y.words ++ [BitVec.ofNat 32 (2 ^ 31 + k * 2 ^ 25 + (plain.headD 0).toNat)] } else y) s.sched.results else s.sched.results) ∧
        ApartPort { u with keys := s.keys, radio := s.radio, sched := s.sched } s)) ∧
    (openFob kf p uid ctr = some plain → slotOfUid s uid = some k → WellShaped s → ctr.toNat ≤ highestCtr s k →
      ∃ u, exec i s = .next u ∧ (getKey u k).refused = (getKey s k).refused + 1 ∧ (getKey u k).ctrLast = (getKey s k).ctrLast ∧
        (getKey u k).status = (getKey s k).status ∧ (∀ j, j ≠ k → getKey u j = getKey s j) ∧
        ((getKey s k).resyncClk = none → u.radio.wants = s.radio.wants ++
          [{ kind := 3, slot := k, seq := 0, arg := (getKey s k).ctrLast, deadline := s.clk + clkMs 5, taken := s.clk, khz := 0, dbm := 0 }]) ∧
        { u with keys := s.keys, radio := s.radio } = s)) ∧
  ∀ (s : State) (p : FobPacket) (q : ZtSeq) (kf : List Byte), hears s = true → wellFormed p 3 6 = true →
    p.payload.length = 3 + ceilDiv (30 * reportCount p.clear) 8 → seqInHand s = some q → q.polled = true → q.reported = false →
    accessKey s q.startClk "ILK-FOB" (getKeyNv s q.slot).uid = .ok kf → EnginesUnawaited s →
    openFob kf p (getKeyNv s q.slot).uid (BitVec.ofNat 32 (beNat (p.clear.take 4))) = none → exec (.ztReport p) s = .next { s with
      radio := { s.radio with preamble := false, lastPort := packetPort s p.corr, rxBadMic := s.radio.rxBadMic + 1 } }

/-- ZT_REPORT, RANGING_EXCHANGE, REPORT_AGE_EXPIRY and KEY_POLL_LISTEN_END complete. A ZT_REPORT of the key polled that the slot's counter
accepts while no mark of that key awaits the twin, and that belongs to the sequence's block, with no range to use again, in band 0 of its
region, makes the key heard and puts the exchange at the head of the radio's queue with its deadline 800 µs on, the sequence reported with
its bursts, delay and port. RANGING_EXCHANGE with lock, grant and lead time before its deadline stands at the deadline in RANGE with the
device's own delay as given. A sequence with no report in time, not in the radio, ends, counted late, its block's results written and gone
where it was the block's last, those of other blocks as they were; and the listen window of a KEY_POLL that ends first ends, the radio's
queue and every other window as they were, and its block's results are written and gone where no answer heard in it waits. -/
def Obligations.RangingAndPolls : Prop :=
  (∀ (s : State) (p : FobPacket) (q : ZtSeq) (kf plain : List Byte) (ctr : Word), hears s = true → wellFormed p 3 6 = true →
    p.payload.length = 3 + ceilDiv (30 * reportCount p.clear) 8 → seqInHand s = some q → q.polled = true → q.reported = false →
    ctr = BitVec.ofNat 32 (beNat (p.clear.take 4)) → accessKey s q.startClk "ILK-FOB" (getKeyNv s q.slot).uid = .ok kf → EnginesUnawaited s →
    openFob kf p (getKeyNv s q.slot).uid ctr = some plain → plain.length = p.payload.length → WellShaped s → q.slot < 32 →
    (getKeyNv s q.slot).state = 1 → ctr ≠ 0xFFFFFFFF → highestCtr s q.slot < ctr.toNat →
    ctr.toNat ≤ (getKey s q.slot).ctrLast.toNat + par s (lockId 4 2) → ctr.toNat ≤ (getKeyNv s q.slot).ctrMark.toNat →
    (∀ a ∈ s.sec.awaiting, marksKey q.slot a.2 = false) → reportMatches s q (reportCount p.clear) (reportAge p.clear) s.clk = true →
    ((getKey s q.slot).range.filter fun h => geomNat q.geom (proxId 9) != 0 && within s h.clk (geomNat q.geom (proxId 9))) = none →
    radioSet s = true → bandPermitted s q = true → geomNat q.geom (proxId 0) ≠ 1 →
    ∃ u r, exec (.ztReport p) s = .next u ∧ u.radio.queue = r :: s.radio.queue.drop 1 ∧ r.kind = 1 ∧ r.slot = q.slot ∧ r.seq = q.id ∧
      r.arg = q.seed ∧ r.deadline = s.clk + clkUs 800 ∧ u.radio.state = 2 ∧ u.radio.locked = false ∧ u.radio.rxPackets = s.radio.rxPackets + 1 ∧
      (∀ x ∈ u.prox.seqs, x.id = q.id → x.reported = true ∧ x.bursts = reportBursts (reportCount p.clear) plain ∧
        x.tauKeyPs = beNat (plain.take 3) ∧ x.port = packetPort s p.corr) ∧
      getKey u q.slot = { getKey s q.slot with ctrLast := ctr, port := packetPort s p.corr, heardClk := some s.clk
                                               status := if (getKey s q.slot).status = 0 then 1 else (getKey s q.slot).status } ∧
      (∀ j, j ≠ q.slot → getKey u j = getKey s j) ∧ { u with keys := s.keys, radio := s.radio, prox := s.prox, sched := s.sched } = s) ∧
  (∀ (s : State) (r : TxReq) (d : Nat), s.radio.queue.head? = some r → r.kind = 1 → radioWorks s = true → s.radio.state = 2 →
    s.radio.locked = true → granted s = true → heldOff s r = false → leadEnd s ≤ r.deadline → tooLate s r = false → EnginesUnawaited s →
    ∃ u, exec (.rangingExchange d) s = .next u ∧ u.clk = r.deadline ∧
      u.radio = { s.radio with state := 5, paOn := true, fgCals := s.radio.fgCals + 1, dbm := powerOf s r,
                               port := ((seqInHand s).map fun q => q.port).getD s.radio.port,
                               airClk := r.deadline } ∧
      u.prox = { s.prox with devDelayPs := d } ∧
      { u with radio := s.radio, prox := s.prox, clk := s.clk, tb := s.tb, fresh := s.fresh } = s) ∧
  (∀ (s : State) (slot : Nat) (q : ZtSeq), (s.prox.seqs.find? fun x => x.slot == slot) = some q → q.reported = false → isRunning s = true →
    seqInHand s = none → EnginesUnawaited s →
    ∃ u, exec (.reportAgeExpiry slot) s = .next u ∧ u.clk = max s.clk (q.endClk + clkMs (geomNat q.geom (proxId 12))) ∧
      (∀ x ∈ u.prox.seqs, x.id ≠ q.id) ∧ (∀ x ∈ u.radio.queue ++ u.radio.wants, ¬(x.kind = 0 ∧ x.seq = q.id)) ∧
      u.radio.txLate = s.radio.txLate + 1 ∧
      u.sched.results = (s.sched.results.filter fun y => (u.prox.seqs.any fun x => x.svc == q.svc && x.startClk == q.startClk) ||
        !(y.svc == q.svc && y.startClk == q.startClk)) ∧
      { u.sched with results := s.sched.results, svcs := s.sched.svcs } = s.sched ∧
      ApartPort { u with clk := s.clk, tb := s.tb, prox := s.prox, radio := s.radio, sched := s.sched } s) ∧
  ∀ (s : State) (x : Listen), firstWindow s = some x → ∃ u, exec .keyPollListenEnd s = .next u ∧ u.clk = max s.clk x.closes ∧
    u.radio.listen = s.radio.listen.erase x ∧ u.radio.queue = s.radio.queue ∧
    u.sched.results = (s.sched.results.filter fun y => windowWaits { s with radio := u.radio } (x.svc, x.startClk) ||
      !(y.svc == x.svc && y.startClk == x.startClk)) ∧
    { u.sched with results := s.sched.results, svcs := s.sched.svcs } = s.sched ∧
    ApartPort { u with clk := s.clk, tb := s.tb, radio := s.radio, sched := s.sched } s

/-- RANGING_END completes. When an exchange ends in RANGE, its sequence leaves the radio, the tones are kept for RANGE_DETAIL, one fix more
is counted, and the slot holds a fix dated then, 10.4 ms after slot 0. -/
def Obligations.RangingEndMakesFix : Prop :=
  ∀ (s : State) (q : ZtSeq) (tones : List Tone), WellShaped s → radioWorks s = true → s.radio.state = 5 → seqInHand s = some q → q.slot < 32 →
    EnginesUnawaited s →
    ∃ u, exec (.rangingEnd tones) s = .next u ∧ u.prox.fixes = s.prox.fixes + 1 ∧
      (∀ x ∈ u.prox.seqs, x.id ≠ q.id) ∧ (getKey u q.slot).fix.any (fun f => f.clk == u.clk) = true ∧
      (getKey u q.slot).exch.isSome = true ∧ u.clk = max s.clk (s.radio.airClk + clkUs 10400) ∧
      (s.dev.mode = .run → u.radio.queue.length = s.radio.queue.length - 1) ∧
      u.dev = s.dev ∧ u.par = s.par ∧ u.lines = s.lines ∧ u.roster = s.roster ∧ u.isl = s.isl ∧ u.pwr = s.pwr ∧ u.bus = s.bus ∧ u.upd = s.upd

/-- SESSION_LAPSE, CONFIRM_DEMAND, CONFIRM_HOLD_LAPSE, NOTIFY_TIMEOUT, LOCK_REQUEST_TIMEOUT and KEY_ENROL_PROOF_TIMEOUT complete. In a
running device, each expiry stands no earlier than its due moment, and then: a key heard or authenticated becomes AWAY; a confirmed hold
raises ZONE_TRACK for its holder at half its confirm_ms, and, as its holder no longer qualifies for want of a fix or of an authentication,
passes to another key that qualifies or drops with cause 4; a notice without answer for 5 ms is withdrawn with its requests; the requests of
an output all complete; the oldest KEY_ENROL completes. Other keys are unchanged, and beside what each names, the outputs, the twin link
with the nonces of its frames, the port and time, nothing else is. -/
def Obligations.SessionsHoldsRequests : Prop :=
  (∀ (s : State) (k : Nat), isRunning s = true → WellShaped s → k < 32 → keyActive s k = true → (getKey s k).status = 1 ∨ (getKey s k).status = 2 →
    ∃ u, exec (.sessionLapse k) s = .next u ∧ getKey u k = { getKey s k with status := 0, entryPosted := false } ∧
      (∀ j, j ≠ k → getKey u j = getKey s j) ∧
      (∀ t, laterOf (getKey s k).heardClk (getKey s k).authClk = some t → u.clk = max s.clk (t + clkMs (par s (lockId 4 1)))) ∧
      ApartLink { u with clk := s.clk, tb := s.tb, keys := s.keys, locks := s.locks, ilkEvents := s.ilkEvents } s) ∧
  (∀ (s : State) (o : Nat), isRunning s = true → WellShaped s → heldConfirmed s o = true →
    (∃ u, exec (.confirmDemand o) s = .next u ∧ u.clk = max s.clk (holdClk s o + clkMs (getLock s o).items.confirmMs / 2) ∧
      (underWay s 2 (getLock s o).holder = false → ∀ v ∈ u.sched.svcs, v.defined = true → svcPar s v.n 0 = 2 →
        svcPar s v.n 11 &&& (getLock s o).items.zones.toNat ≠ 0 → v.demands.any (fun d => d.slot == (getLock s o).holder) = true) ∧
      { u with clk := s.clk, tb := s.tb, sched := s.sched, fresh := s.fresh } = s) ∧
    (∃ u, exec (.confirmHoldLapse o) s = .next u ∧ u.clk = max s.clk (lapseClk s o) ∧
      (∀ j, qualifier (advanceTo (lapseClk s o) s) o (getLock s o).items = some j →
        getLock u o = { getLock s o with holder := j }) ∧
      (qualifier (advanceTo (lapseClk s o) s) o (getLock s o).items = none →
        (getLock u o).state = 0 ∧ u.ilkEvents.getLsbD (4 + o) = true ∧ (o ≠ 0 → Posts s 0x8011 (payload [o, 4]) u)) ∧
      ApartLink { u with clk := s.clk, tb := s.tb, locks := s.locks, ilkEvents := s.ilkEvents } s)) ∧
  (∀ (s : State) (o : Nat), isRunning s = true → WellShaped s → o < 4 → (getLock s o).state = 1 →
    ∃ u, exec (.notifyTimeout o) s = .next u ∧ u.clk = max s.clk ((getLock s o).notifyClk + clkMs 5) ∧
      getLock u o = { getLock s o with state := 0 } ∧ (∀ p, p ≠ o → getLock u p = getLock s p) ∧ requestsOf u o = [] ∧
      ApartLink { u with clk := s.clk, tb := s.tb, locks := s.locks } s) ∧
  (∀ (s : State) (o : Nat) (h : Held) (rest : List Held), isRunning s = true → o < 4 → requestsOf s o = h :: rest →
    ∃ u, exec (.lockRequestTimeout o) s = .next u ∧ u.clk = max s.clk (h.taken + clkMs (itemsInForce s o).requestMs) ∧ requestsOf u o = [] ∧
      ApartLink { u with clk := s.clk, tb := s.tb, locks := s.locks } s) ∧
  ∀ (s : State) (h : Held) (k : Nat) (rights : BitVec 5) (uid : Dword), isRunning s = true → h.kind = .enrol k rights uid →
    (s.port.held.find? fun x => match x.kind with
      | .enrol .. => true
      | _ => false) = some h →
    ∃ u, exec .keyEnrolProofTimeout s = .next u ∧ u.clk = max s.clk (h.taken + clkS 10) ∧ findHeld u h.ring h.idx = none ∧
      ApartPort { u with clk := s.clk, tb := s.tb, sched := s.sched } s

/-- ILK_CHARGED, ILK_ECHO_MISSING, ILK_ECHO_WHILE_LOCKED and FORCE_LOCK_RELEASE complete. In a running device: two good periods release a
charging output to the key chosen, counted, with ILK_EVENTS.release, its requests complete, and event 0x8010 where no confirmed hold ends
then; an output in confirmed hold whose key has stopped qualifying meanwhile goes over to another that qualifies, or drops; a charging
output without its echo after ten periods, and a released one that loses it, become FAULT with code 1, their requests complete,
ILK_EVENTS.fault set, and event 0x8012 for the released one; an echo on a supervised locked output makes it FAULT with code 2, pulls
ILK_KILL_N and sets force_lock, with events 0x8012 and 0x8204; static low echoes let ILK_KILL_N go. -/
def Obligations.EchoSupervision : Prop :=
  (∀ (s : State) (o t : Nat), isRunning s = true → WellShaped s → o < 4 → (getLock s o).pulseClk = some t →
    ((getLock s o).state = 2 →
      (∃ u, exec (.ilkCharged o) s = .next u ∧ u.clk = max s.clk (t + 2 * pulsePeriod) ∧
        (let w := advanceTo (t + 2 * pulsePeriod) s
         let l := { getLock s o with state := 3, holder := (getLock s o).chosen, releases := (getLock s o).releases + 1 }
         let others : Prop := ∀ p, p < 4 → p ≠ o → (getLock s p).state = 3 → (getLock s p).items.hold = true →
           qualifies w p (getLock s p).items (getLock s p).holder = true
         ((getLock s o).items.hold = false ∨ qualifies w o l.items l.holder = true →
          (o = 0 ∨ others → getLock u o = l) ∧
          (others → u.ilkEvents = s.ilkEvents ||| (1 <<< o) ∧ Posts s 0x8010 (payload [o, (getLock s o).chosen]) u)) ∧
         ((getLock s o).items.hold = true → qualifies w o l.items l.holder = false →
          (o = 0 ∨ others → ∀ k, qualifier w o l.items = some k → getLock u o = { l with holder := k }) ∧
          (qualifier w o l.items = none → (getLock u o).state = 0 ∧ u.ilkEvents.getLsbD (4 + o) = true))) ∧
        u.ilkEvents.getLsbD o = true ∧ requestsOf u o = [] ∧
        ApartLink { u with clk := s.clk, tb := s.tb, locks := s.locks, ilkEvents := s.ilkEvents } s) ∧
      (∃ u, exec (.ilkEchoMissing o) s = .next u ∧ u.clk = max s.clk (t + 10 * pulsePeriod) ∧ (getLock u o).state = 4 ∧ (getLock u o).fault = 1 ∧
        u.ilkEvents.getLsbD (8 + o) = true ∧ requestsOf u o = [] ∧ (o ≠ 0 → u.port.evtQ = s.port.evtQ ∧ ∀ p, p ≠ o → getLock u p = getLock s p) ∧
        ApartLink { u with clk := s.clk, tb := s.tb, locks := s.locks, ilkEvents := s.ilkEvents } s)) ∧
    ((getLock s o).state = 3 → ∃ u, exec (.ilkEchoMissing o) s = .next u ∧ (getLock u o).state = 4 ∧ (getLock u o).fault = 1 ∧
      u.ilkEvents.getLsbD (8 + o) = true ∧ requestsOf u o = [] ∧
      (o ≠ 0 → Posts s 0x8012 (payload [o, 1]) u ∧ ∀ p, p ≠ o → getLock u p = getLock s p) ∧
      ApartLink { u with clk := s.clk, tb := s.tb, locks := s.locks, ilkEvents := s.ilkEvents } s)) ∧
  (∀ (s : State) (o : Nat), isRunning s = true → WellShaped s → o < 4 → (getLock s o).state = 0 → supervises s o = true →
    ∃ u, exec (.ilkEchoWhileLocked o) s = .next u ∧ (getLock u o).state = 4 ∧ (getLock u o).fault = 2 ∧
      (∀ p, p ≠ o → getLock u p = getLock s p) ∧ u.dev = { s.dev with echo := s.dev.echo ||| (1 <<< o), kill := true } ∧
      u.ilkEvents = s.ilkEvents ||| (1 <<< (8 + o)) ∧ u.twin.flags = s.twin.flags ||| 4 ∧ u.twin.forceLocks = s.twin.forceLocks + 1 ∧
      (firstPost s 3 = none → s.port.evtQ.length < 255 → u.port.evtQ.map (fun e => e.code) = s.port.evtQ.map (fun e => e.code) ++ [0x8012, 0x8204]) ∧
      ApartLink { u with dev := s.dev, locks := s.locks, ilkEvents := s.ilkEvents } s) ∧
  ∀ s : State, s.dev.kill = true → boxRuns s = true → s.twin.notices = 0 →
    exec .forceLockRelease s = .next { s with dev := { s.dev with kill := false, echo := 0 } }

/-- INV_WALK, INV_ASSIGN, QUIET and RESET_ALL complete. On a device that is not FAILED, with its tag hearing a frame outside AUTH_WAIT whose
CRC passes: the first walk step answers the whole UID, without a CRC and at the rate named, from any state but QUIET where the class mask
takes it, and clears the mark where it does not; a later step answers the rest of the UID where its prefix is the UID's; an INV_ASSIGN
naming the UID, direct or after a walk, gives the handle and rate, with the ACK at that rate; QUIET by its handle is acknowledged, by 0xFFFF
silent; RESET_ALL makes it READY. A frame that is invalid or fails its CRC leaves but that no reply stands, as does any that comes while a
commit runs; one with a long gap closes the session. Nothing outside the island changes in the first five. -/
def Obligations.IslandInventory : Prop :=
  ∀ (s : State) (f : AirFrame), TagAwake s →
    (∀ (m : BitVec 4) (slow : Bool), s.isl.tag ≠ .quiet → Carries f (bitsOf 8 0x01 ++ bitsOf 4 m.toNat ++ [slow] ++ bitsOf 7 0) →
      (m.getLsbD 0 = true → exec (.invWalk f) s = .next { s with
        isl := { toReady s.isl with mark := true, reply := replyFrame true (uidBits s), replySlow := slow } }) ∧
      (m.getLsbD 0 = false → exec (.invWalk f) s = .next (tagSilent { s with isl := { s.isl with mark := false } }))) ∧
    (∀ (m : BitVec 4) (slow : Bool) (p : BitVec 7), s.isl.tag = .ready → m.getLsbD 0 = true → p ≠ 0 → p.toNat < 64 →
      Carries f (bitsOf 8 0x01 ++ bitsOf 4 m.toNat ++ [slow] ++ bitsOf 7 p.toNat ++ (uidBits s).take p.toNat) →
      exec (.invWalk f) s = .next { s with
        isl := { s.isl with mark := true, reply := replyFrame true ((uidBits s).drop p.toNat), replySlow := slow } }) ∧
    (∀ (direct slow : Bool) (h : Half), (if direct then isActiveTag s.isl.tag = true else s.isl.tag = .ready ∧ s.isl.mark = true) →
      h ≠ 0 → h.toNat ≤ 0xFFFD →
      Carries f (bitsOf 8 0x02 ++ [direct, slow] ++ bitsOf 16 (uidchk (deviceUid s)).toNat ++ bitsOf 16 h.toNat) →
      exec (.invAssign f) s = .next { s with isl := { toReady s.isl with
        tag := .inventoried, handle := h.toNat, slow := slow, hasRate := true, reply := replyFrame false (ackBits s), replySlow := slow } }) ∧
    (∀ h : Half, hasHandle s.isl.tag = true → Carries f (bitsOf 8 0x03 ++ bitsOf 16 h.toNat) →
      (h = 0xFFFF → exec (.quiet f) s = .next (tagSilent { s with isl := { s.isl with tag := .quiet } })) ∧
      (h ≠ 0 → h ≠ 0xFFFF → s.isl.handle = h.toNat →
        exec (.quiet f) s = .next (tagSays (statusBits TAG_OK) { s with isl := { s.isl with tag := .quiet } }))) ∧
    (Carries f (bitsOf 8 0x04) → exec (.resetAll f) s = .next (tagSilent { s with isl := toReady s.isl })) ∧
    (Discarded f → ∀ i ∈ [Instr.invWalk f, .invAssign f, .quiet f, .resetAll f, .read f, .auth1 f, .auth1u f, .auth2 f, .hStatus f, .hChain f],
      exec i s = .next (tagSilent s)) ∧
    (airLost f = true → ∀ i ∈ [Instr.invWalk f, .invAssign f, .quiet f, .resetAll f, .read f, .auth1 f, .auth1u f, .auth2 f, .hStatus f, .hChain f],
      ∃ u, exec i s = .next u ∧ u.isl.tag = .off ∧ u.isl.session = false ∧ u.isl.ks = [] ∧ u.isl.reply = []) ∧
    (airLost f = false → ∀ i ∈ [Instr.invWalk f, .invAssign f, .quiet f, .resetAll f, .read f, .auth1 f, .auth1u f, .auth2 f, .hStatus f, .hChain f],
      let t := { s with isl := { s.isl with rolling := true } }
      exec i t = .next (tagSilent t))

/-- READ, WRITE, H_STATUS and H_CHAIN complete, on a device that is not FAILED, whose tag hears a frame with this handle and a CRC that
passes. READ of no block is OK and of more than there are BAD_ARG; of unprotected blocks it answers their committed values, of protected
ones NO_AUTH or, AUTHENTICATED, the values with a mac, the counter moving on. A plain WRITE is BAD_ARG past the memory, NO_AUTH in a
protected page, LOCKED below 64, MEM_FAIL and counted with a low reservoir, and else commits the block, readable at once, every other block
as before. A WRITE with a mac is NO_AUTH outside a session key, runs with the mac the counter gives, is repeated or BAD_CTR with the mac
before it, and is BAD_MAC else. H_STATUS answers the island word. A chain operation with a right mac has its effect and its reply with a
mac, the counter moving on. -/
def Obligations.IslandMemoryCommands : Prop :=
  ∀ (s : State) (h : Half) (f : AirFrame), TagAwake s → hasHandle s.isl.tag = true → h ≠ 0 → s.isl.handle = h.toNat →
    (∀ (a : Half) (n : Byte), let x := bitsOf 8 0x10 ++ bitsOf 16 h.toNat ++ bitsOf 16 a.toNat ++ bitsOf 8 n.toNat
      let data := ((List.range n.toNat).map fun k => islBlock s (a.toNat + k)).flatMap fun x => beBytes 4 x.toNat
      Carries f x →
      (n = 0 → exec (.read f) s = .next (tagSays (statusBits TAG_OK) s)) ∧
      (8 < n.toNat ∨ (n ≠ 0 ∧ 512 < a.toNat + n.toNat) → exec (.read f) s = .next (tagSays (statusBits TAG_BAD_ARG) s)) ∧
      (1 ≤ n.toNat → n.toNat ≤ 8 → a.toNat + n.toNat ≤ 512 →
        (isProtected s (a.toNat + n.toNat - 1) = false → exec (.read f) s = .next (tagSays (statusBits TAG_OK ++ bitsOfBytes data) s)) ∧
        (isProtected s (a.toNat + n.toNat - 1) = true → secureReady s = false → exec (.read f) s = .next (tagSays (statusBits TAG_NO_AUTH) s)) ∧
        (isProtected s (a.toNat + n.toNat - 1) = true → secureReady s = true → x ≠ s.isl.lastFrame →
          let reply := bitsOfBytes (0 :: data) ++ wordBits (macAt s s.isl.ctr (bytesOfBits x ++ 0 :: data))
          exec (.read f) s = .next (tagSays reply (acceptSecure x reply s))))) ∧
    (∀ (a : Half) (d : Word) (mv : Nat), hasVbat s = true ∨ 2200 ≤ mv →
      let plain := bitsOf 8 0x11 ++ bitsOf 16 h.toNat ++ bitsOf 16 a.toNat ++ wordBits d
      let s1 := { s with isl := setReservoir mv s.isl }
      (Carries f plain →
        (512 ≤ a.toNat → exec (.write f mv) s = .next (tagSays (statusBits TAG_BAD_ARG) s1)) ∧
        (a.toNat < 512 → isProtected s a.toNat = true → exec (.write f mv) s = .next (tagSays (statusBits TAG_NO_AUTH) s1)) ∧
        (isProtected s a.toNat = false → a.toNat < 64 → exec (.write f mv) s = .next (tagSays (statusBits TAG_LOCKED) s1)) ∧
        (a.toNat < 512 → isProtected s a.toNat = false → 64 ≤ a.toNat → min 8000 mv < par s (hitchId 3) →
          exec (.write f mv) s = .next (tagSays (statusBits TAG_MEM_FAIL) { s1 with isl := { s1.isl with refused := s.isl.refused + 1 } })) ∧
        (a.toNat < 512 → isProtected s a.toNat = false → 64 ≤ a.toNat → par s (hitchId 3) ≤ min 8000 mv → ∃ u, exec (.write f mv) s = .next u ∧
          islBlock u a.toNat = d ∧ (∀ b, b ≠ a.toNat → islBlock u b = islBlock s b) ∧ u.isl.reply = replyFrame false (statusBits TAG_OK) ∧
          u.isl.wrote = true ∧ committing u = true ∧ u.isl.tag = s.isl.tag ∧ u.isl.reservoirMv = min 8000 mv ∧ { u with isl := s.isl } = s)) ∧
      ∀ m : Word, Carries f (plain ++ wordBits m) →
        (secureReady s = false → exec (.write f mv) s = .next (tagSays (statusBits TAG_NO_AUTH) s1)) ∧
        (secureReady s = true → m = macAt s s.isl.ctr (bytesOfBits plain) →
          (64 ≤ a.toNat → a.toNat < 512 → par s (hitchId 3) ≤ min 8000 mv → ∃ u, exec (.write f mv) s = .next u ∧ islBlock u a.toNat = d ∧
            (∀ b, b ≠ a.toNat → islBlock u b = islBlock s b) ∧ u.isl.ctr = (s.isl.ctr + 1) % 65536 ∧
            u.isl.reply = replyFrame false (statusBits TAG_OK ++ wordBits (macAt s s.isl.ctr (bytesOfBits plain ++ [0]))) ∧
            { u with isl := s.isl } = s) ∧
          (512 ≤ a.toNat → exec (.write f mv) s = .next (tagSays (statusBits TAG_BAD_ARG)
            (acceptSecure (plain ++ wordBits m) (statusBits TAG_BAD_ARG) s1)))) ∧
        (secureReady s = true → m ≠ macAt s s.isl.ctr (bytesOfBits plain) →
          (s.isl.ctr ≠ 0 → m = macAt s (s.isl.ctr - 1) (bytesOfBits plain) → exec (.write f mv) s =
            .next (tagSays (if plain ++ wordBits m = s.isl.lastFrame then s.isl.lastReply else statusBits TAG_BAD_CTR) s1)) ∧
          (s.isl.ctr = 0 ∨ m ≠ macAt s (s.isl.ctr - 1) (bytesOfBits plain) → exec (.write f mv) s = .next (tagSays (statusBits TAG_BAD_MAC) s1)))) ∧
    (Carries f (bitsOf 8 0x30 ++ bitsOf 16 h.toNat) → exec (.hStatus f) s = .next (tagSays (statusBits TAG_OK ++ wordBits (islandWord s)) s)) ∧
    ∀ (op : Byte) (pl : List Byte) (m : Word), pl.length ≤ 32 → secureReady s = true → isRunning s = true →
      let req := bitsOf 8 0x31 ++ bitsOf 16 h.toNat ++ bitsOf 8 op.toNat ++ bitsOf 8 pl.length ++ bitsOfBytes pl
      m = macAt s s.isl.ctr (bytesOfBits req) → Carries f (req ++ wordBits m) →
      ∀ r, chainOp .hitch op.toNat pl (tagSilent s) = some r →
        let bytes := (0 : Byte) :: BitVec.ofNat 8 r.2.length :: r.2
        let reply := bitsOfBytes bytes ++ wordBits (macAt s s.isl.ctr (bytesOfBits req ++ bytes))
        ∃ u, exec (.hChain f) s = .next u ∧ u.isl.ctr = (r.1.isl.ctr + 1) % 65536 ∧ u.isl.lastReply = reply ∧
          (r.1.dev.failed = false → u.isl.reply = replyFrame false reply) ∧ { u with isl := r.1.isl } = r.1

/-- AUTH_1, AUTH_1U and AUTH_2 complete, on a device that is not FAILED whose tag hears a frame with a CRC that passes. A tag that takes
challenges answers AUTH_1 by its handle, and AUTH_1U by its UID from an active state, with its challenge and proof, waiting in AUTH_WAIT
with both challenges and its former state kept; one that takes none says nothing, and AUTH_1U of another tag makes one with a handle given
by AUTH_1U READY. AUTH_2 with the base's right proof makes it AUTHENTICATED under the session key with the counter at 0, answered where it
asks to be; with a wrong one it falls back to the state it had, without a session key, one rejection more. Nothing outside the island
changes but the free value drawn. -/
def Obligations.IslandAuthentication : Prop :=
  ∀ (s : State) (rb : Word) (f : AirFrame), tagHears s = true → s.dev.failed = false →
    (s.isl.tag ≠ .authWait →
      (∀ h : Half, hasHandle s.isl.tag = true → h ≠ 0 → s.isl.handle = h.toNat → Carries f (bitsOf 8 0x20 ++ bitsOf 16 h.toNat ++ wordBits rb) →
        (takesChallenge s = false → exec (.auth1 f) s = .next (tagSilent s)) ∧
        (takesChallenge s = true → exec (.auth1 f) s = .next (tagSays
          (wordBits (Config.islandRt s.free) ++ wordBits (proofTp s.isl.keyCell rb (Config.islandRt s.free) (deviceUid s))) { s with
            free := s.free + 1
            isl := { s.isl with
              prevTag := s.isl.tag, prevHandle := s.isl.handle, tag := .authWait, rb := rb, rt := Config.islandRt s.free } }))) ∧
      (takesChallenge s = true → isActiveTag s.isl.tag = true →
        Carries f (bitsOf 8 0x21 ++ bitsOf 16 (uidchk (deviceUid s)).toNat ++ wordBits rb) →
        exec (.auth1u f) s = .next (tagSays
          (wordBits (Config.islandRt s.free) ++ wordBits (proofTp s.isl.keyCell rb (Config.islandRt s.free) (deviceUid s))) { s with
            free := s.free + 1
            isl := { s.isl with
              prevTag := s.isl.tag, prevHandle := s.isl.handle, tag := .authWait, handle := 0xFFFE, rb := rb, rt := Config.islandRt s.free } })) ∧
      (∀ c : Half, takesChallenge s = true → isActiveTag s.isl.tag = true → c ≠ uidchk (deviceUid s) →
        Carries f (bitsOf 8 0x21 ++ bitsOf 16 c.toNat ++ wordBits rb) →
        exec (.auth1u f) s = .next (tagSilent (if s.isl.handle = 0xFFFE then { s with isl := toReady s.isl } else s)))) ∧
    ∀ (c : Bool) (bp : Word), s.isl.tag = .authWait → Carries f (bitsOf 8 0x22 ++ [c] ++ wordBits bp) →
      (bp = proofBp s.isl.keyCell s.isl.rb s.isl.rt (deviceUid s) →
        ∃ u, exec (.auth2 f) s = .next u ∧ u.isl.tag = .authenticated ∧ u.isl.ks = sessionKey s.isl.keyCell s.isl.rb s.isl.rt (deviceUid s) ∧
          u.isl.ctr = 0 ∧ u.isl.lastFrame = [] ∧ u.isl.reachedAuth = true ∧ u.isl.coupled = true ∧ u.isl.handle = s.isl.handle ∧
          u.isl.reply = (if c then replyFrame false (statusBits TAG_OK) else []) ∧ u.isl.mem = s.isl.mem ∧ { u with isl := s.isl } = s) ∧
      (bp ≠ proofBp s.isl.keyCell s.isl.rb s.isl.rt (deviceUid s) → ∃ u, exec (.auth2 f) s = .next u ∧
        u.isl.rejects = s.isl.rejects + 1 ∧ u.isl.ks = [] ∧ u.isl.reply = (if c then replyFrame false (statusBits TAG_BAD_MAC) else []) ∧
        u.isl.tag = (if s.isl.prevHandle = 0 then .ready else s.isl.prevTag) ∧ u.isl.handle = s.isl.prevHandle ∧
        u.isl.mem = s.isl.mem ∧ { u with isl := s.isl } = s)

/-- HITCH_FIELD_RISE, HITCH_LEAD, HITCH_FIELD_LOSS, ISLAND_BROWNOUT, ISLAND_COMMIT_COMPLETE, XPM_APPLIED and WAKE_PATTERN complete. A field
charges the reservoir, at most to 8.0 V, captures the timers triggered by it, and from 2.4 V starts an island without power, a commit flag
found set being rolled forward. A lead of 32 cyc or more opens a session where the island is OFF and rolls nothing forward, and staged
writing ends, each write's rest joining what is staged where it fits, and dropped where it does not; loss of the field closes it, with event
0x8032 after an authentication, and a waiting enrolment takes effect; without VBAT a reservoir below 2.2 V takes the island down, its flag
kept. A commit's end leaves every block's value as it read, the flag cleared, a rolled one counted torn, and the next waiting block's commit
begun; the last staged block of a host write is then in force, with event 0x8030. A matching wake pattern wakes a sleeping device; a wake
pattern gets no reply, and one with a long gap closes the session. -/
def Obligations.IslandFieldAndSupply : Prop :=
  ∀ s : State,
    (∀ mv : Nat,
      let i := { setReservoir mv s.isl with field := true }
      let t := { s with isl := if 2400 ≤ mv ∧ s.isl.powered = false then { i with powered := true, rolling := s.isl.flag.isSome } else i }
      exec (.hitchFieldRise mv) s = .next (if timebaseRuns s then captureTrig 7 t else t)) ∧
    (∀ c : Nat, s.isl.powered = true → s.isl.field = true → par s (hitchId 0) = 1 → 32 ≤ c → s.isl.rolling = false → s.isl.tag = .off →
      sleepItem s 8 = 0 → ∃ u, exec (.hitchLead c) s = .next u ∧ u.isl.tag = .ready ∧ u.isl.session = true ∧
        u.isl.sessions = s.isl.sessions + 1 ∧ u.isl.handle = 0 ∧ u.isl.writing = [] ∧ u.isl.applying = false ∧ u.isl.mem = s.isl.mem ∧
        u.isl.flag = s.isl.flag ∧
        (hostStaged s + (s.isl.writing.filter fun b => b.ring ≠ 64).length ≤ 128 → u.isl.staged.Perm (s.isl.staged ++ s.isl.writing)) ∧
        (∀ r x, s.isl.writing ≠ [] → (∀ b ∈ s.isl.writing, b.ring = r ∧ b.idx = x) →
          u.isl.staged = (if r = 64 ∨ hostStaged s + s.isl.writing.length ≤ 128 then s.isl.staged ++ s.isl.writing else s.isl.staged)) ∧
        ApartPort { u with isl := s.isl } s) ∧
    (s.isl.field = true → ∃ u, exec .hitchFieldLoss s = .next u ∧ u.isl.field = false ∧ u.isl.tag = .off ∧ u.isl.session = false ∧ u.isl.ks = [] ∧
      u.isl.authFrom = par s (hitchId 2) ∧ u.isl.mem = s.isl.mem ∧ (s.isl.staged.length ≤ 1 → u.isl.staged = s.isl.staged ∧ u.isl.flag = s.isl.flag) ∧
      (isRunning s = false ∨ s.isl.enrolWait = none → u.isl.keyCell = s.isl.keyCell ∧ ApartPort { u with isl := s.isl } s) ∧
      (∀ us ow key, isRunning s = true → s.isl.enrolWait = some (us, ow, key) → u.isl.keyCell = key ∧ u.isl.enrolWait = none ∧
        (5, keyWrap (slotKek u 5) (leBytes 8 (slotAttr 5 KEY_AES128 us ow (slotGen u 5)).toNat ++ key)) ∈ u.nv.slots ∧
        ApartLink { u with isl := s.isl, nv := s.nv } s) ∧
      (s.isl.session = true → s.isl.reachedAuth = true → isRunning s = true → s.isl.sessionsDue = [] →
        Posts s 0x8032 (leBytes 2 s.isl.fieldLevel ++ [BitVec.ofNat 8 s.isl.wrote.toNat]) u)) ∧
    (∀ mv : Nat, (s.dev.mode ≠ .off ∨ 2200 ≤ mv → exec (.islandBrownout mv) s = .next { s with isl := setReservoir mv s.isl }) ∧
      (s.dev.mode = .off → mv < 2200 → ∃ u, exec (.islandBrownout mv) s = .next u ∧ u.isl.powered = false ∧ u.isl.tag = .off ∧ u.isl.rolling = false ∧
        u.isl.session = false ∧ u.isl.flag = s.isl.flag ∧ u.isl.mem = s.isl.mem ∧ u.isl.staged = s.isl.staged ∧ { u with isl := s.isl } = s)) ∧
    (∀ e : Shadow, s.isl.powered = true → s.isl.flag = some e → 3 ≤ e.blk → s.isl.staged = [] →
      (s.isl.writing = [] → ∃ u, exec .islandCommitComplete s = .next u ∧ u.isl.flag = none ∧ u.isl.rolling = false ∧
        (∀ b, islBlock u b = islBlock s b) ∧ u.isl.torn = (if s.isl.rolling then s.isl.torn + 1 else s.isl.torn) ∧ { u with isl := s.isl } = s) ∧
      (∀ (b : StagedBlk) (rest : List StagedBlk), isRunning s = true → s.isl.session = false → s.isl.applying = false → s.isl.writing = b :: rest →
        3 ≤ b.blk → ∃ u, exec .islandCommitComplete s = .next u ∧ u.isl.writing = rest ∧ committing u = true ∧ islBlock u b.blk = b.data ∧
          (∀ x, x ≠ b.blk → islBlock u x = islBlock s x) ∧ ApartPort { u with isl := s.isl } s ∧
          ((rest.any fun x => x.ring == b.ring && x.idx == b.idx) = true → u.port = s.port ∧ u.win = s.win) ∧
          ((rest.any fun x => x.ring == b.ring && x.idx == b.idx) = false →
            ∀ h, HeldAt s h → h.ring = b.ring → h.idx = b.idx → Completed s h ST_OK 0 0 u))) ∧
    (∀ b : StagedBlk, isRunning s = true → s.isl.applying = true → s.isl.session = false → s.isl.rolling = false → s.isl.staged = [b] → 3 ≤ b.blk →
      ∃ u, exec .xpmApplied s = .next u ∧ islBlock u b.blk = b.data ∧ u.isl.staged = [] ∧ u.isl.applying = false ∧
        (∀ x, x ≠ b.blk → islBlock u x = islBlock s x) ∧
        (b.ring < 64 → Posts s 0x8030 (payload [b.seq, b.ring]) u) ∧ ApartPort { u with isl := s.isl } s) ∧
    (∀ f : AirFrame, s.isl.powered = true → s.isl.field = true →
      (airLost f = true → ∃ u, exec (.wakePattern f) s = .next u ∧ u.isl.tag = .off ∧ u.isl.session = false ∧ u.isl.ks = [] ∧ u.isl.reply = []) ∧
      (airLost f = false → airBits f = none → exec (.wakePattern f) s = .next (tagSilent s))) ∧
    ∀ (f : AirFrame) (code : Byte), airBits f = some (bitsOf 8 code.toNat) → s.isl.powered = true → s.isl.field = true → committing s = false →
      par s (hitchId 0) = 1 → sleepItem s 8 = 0 → par s (hitchId 1) = 0xFF ∨ par s (hitchId 1) = code.toNat →
      s.pwr.wakeEn.getLsbD 2 = true → s.dev.mode = .halt ∨ s.dev.mode = .stabled →
      ∃ u, exec (.wakePattern f) s = .next u ∧ u.dev.mode = .waking ∧ u.pwr.latched = 4 ∧
        u.isl = { s.isl with reply := [] } ∧
        { u with dev := { u.dev with mode := s.dev.mode }, pwr := s.pwr, isl := s.isl } = s

/-- CHAIN_OFFER, CHAIN_DATA, CHAIN_STATUS, CHAIN_WITHDRAW, CHAIN_OFFER_TIMER and AUTO_CONFIRM complete. A device that takes chain
operations: an OFFER it accepts makes it a target with the transfer open, one it refuses changes no transfer, and either posts event 0x8304
with the decision; DATA at the next offset joins the unit in progress while it is not whole, and elsewhere changes no transfer; STATUS
changes nothing but what goes out on the bus; WITHDRAW closes the transfer, with its event, and an image in hand stays one that the chain
gave. The offer timer dates itself, and offers where the parameters and the image allow it. A trial image that has run its time in this boot
is confirmed: stage IDLE, no longer on trial, with event 0x8303 and the security thermometer burnt, its boot record under the next nonce;
with none left it stays on trial, and the loss is counted. -/
def Obligations.ChainTargetAndTimers : Prop :=
  (∀ (s : State) (via : Via) (pl : List Byte), chainListens via s = true →
    (∃ u, exec (.chainOffer via pl) s = .next u ∧ ApartPort { u with upd := s.upd, nv := s.nv, bus := s.bus } s ∧
      (offerDecision s pl = 0 → u.upd.chainRole = 2 ∧
        u.nv = { s.nv with chainOpen := true, chainTarget := s.nv.chainTarget || offeredInHand s pl }) ∧
      (offerDecision s pl ≠ 0 → u.upd = s.upd ∧ u.nv = s.nv) ∧
      Posts s 0x8304 (payload (match via with
        | .hitch => [1, offerDecision s pl, 1, 254]
        | .bus a => [1, offerDecision s pl, 2, a])) u ∧ (via = .hitch → u.bus = s.bus)) ∧
    (wantsData s = false ∨ leNat (pl.take 4) ≠ nextOffset s →
      ∃ u, exec (.chainData via pl) s = .next u ∧ { u with bus := s.bus } = s ∧ (via = .hitch → u = s)) ∧
    (wantsData s = true → leNat (pl.take 4) = nextOffset s → pl.drop 4 ≠ [] →
      ((if s.upd.gatherAt = unitStart s then s.upd.gather else []) ++ pl.drop 4).length <
        unitLength s ((if s.upd.gatherAt = unitStart s then s.upd.gather else []) ++ pl.drop 4) →
      ∃ u, exec (.chainData via pl) s = .next u ∧ u.upd.gather = (if s.upd.gatherAt = unitStart s then s.upd.gather else []) ++ pl.drop 4 ∧
        u.upd.gatherAt = unitStart s ∧ u.upd.chainBytes = s.upd.chainBytes + BitVec.ofNat 32 (pl.length - 4) ∧
        { u with upd := s.upd, bus := s.bus } = s) ∧
    (∃ u, exec (.chainStatus via) s = .next u ∧ { u with bus := s.bus } = s ∧ (via = .hitch → u = s)) ∧
    (∃ u, exec (.chainWithdraw via) s = .next u ∧ u.nv = { s.nv with chainOpen := false } ∧ u.upd.gather = [] ∧
      u.upd.chainRole = (if s.upd.chainRole = 2 then 0 else s.upd.chainRole) ∧ ApartPort { u with upd := s.upd, nv := s.nv, bus := s.bus } s ∧
      Posts s 0x8304 (payload (match via with
        | .hitch => [4, 0, 1, 254]
        | .bus a => [4, 0, 2, a])) u)) ∧
  (∀ s : State, isRunning s = true → ∃ u, exec .chainOfferTimer s = .next u ∧ u.clk = max s.clk (s.upd.offerClk + clkS (par s (updId 4))) ∧
    u.upd.offerClk = u.clk ∧ (par s (updId 2) = 1 → par s (updId 3) < 254 → mayOffer s = true → u.upd.chainRole = 1) ∧
    (par s (updId 2) ≠ 1 → u.bus = s.bus ∧ u.upd.chainRole = s.upd.chainRole) ∧
    { u with clk := s.clk, tb := s.tb, fresh := s.fresh, upd := s.upd, bus := s.bus } = s) ∧
  ∀ s : State, isRunning s = true → s.nv.updStage = 5 → par s (updId 0) ≠ 0 →
   (nonceLeft s = false → exec .autoConfirm s = .next (let t := advanceTo (s.upd.confirmClk + clkS (par s (updId 0))) s
      { t with sec := { s.sec with retired := s.sec.retired + 1 } })) ∧
   (nonceLeft s = true → ∃ u, exec .autoConfirm s = .next u ∧
    u.clk = max s.clk (s.upd.confirmClk + clkS (par s (updId 0))) ∧ u.nv.updStage = 0 ∧ u.upd.unconfirmed = false ∧
    (bootRecord u).bank = s.upd.bank ∧ (bootRecord u).trial = false ∧
    (bootRecord u).nonce = nonceHead s ++ [0x30] ∧ u.sec.nonceCtr = s.sec.nonceCtr + 1 ∧
    Posts s 0x8303 (payload [hdrRelease (runBank s).blob % 256, hdrRelease (runBank s).blob / 256, 0, 0] ++ leBytes 4 (hdrSecver (runBank s).blob)) u ∧
    ApartPort { u with clk := s.clk, tb := s.tb, nv := s.nv, upd := s.upd, isl := s.isl, sec := { u.sec with nonceCtr := s.sec.nonceCtr, engineJobs := s.sec.engineJobs } } s)

/-- HEARTBEAT, NOTICE_TABLE, DROP, NOTIFY, FORCE_LOCK_NOTICE, SLEEP and NOTICE_END complete. A device that accepts a frame takes its
counters and the time it came, and: HEARTBEAT changes nothing more; a DROP dates the end of a notice that stands, and NOTICE_END, 200 µs
after it, ends that notice alone; NOTICE_TABLE adds its notices on a SIDING, and on a device that a ceremony makes one; NOTIFY on a SIDING
whose output is LOCKED makes the notice stand and is acknowledged; FORCE_LOCK_NOTICE sets force_lock and is posted; SLEEP makes the notice
stand and is acknowledged. A frame that fails CCM is dropped, counted, zeroised, and sets mirror_auth; one whose counters are not newer is
dropped and counted; with the pair key corrupt every frame fails so, and the corrupt slot is posted. -/
def Obligations.TwinFrames : Prop :=
  (∀ (s : State) (h : FrameHdr), EnginesUnawaited s →
    (TakesFrame s 0x02 h → exec (.heartbeat h) s = .next (frameTaken h s)) ∧
    (∀ outs : BitVec 4, TakesFrame s 0x06 h → s.twin.role = 2 ∨ s.twin.pairing = some 2 → exec (.noticeTable h outs) s =
      .next { frameTaken h s with twin := { (frameTaken h s).twin with notices := s.twin.notices ||| outs, tableSeen := true } }) ∧
    (TakesFrame s 0x05 h →
      (∀ out : Nat, out < 4 → s.twin.notices.getLsbD out = true → ∃ u, exec (.drop h out) s = .next u ∧ (out, s.clk) ∈ u.twin.dropClk ∧
        (∀ d ∈ u.twin.dropClk, d.1 = out → d.2 = s.clk) ∧ { u with twin := { u.twin with dropClk := s.twin.dropClk } } = frameTaken h s) ∧
      (∀ out : Nat, s.twin.role = 2 → out < 4 → (getLock s out).state = LOCKED → ∃ u, exec (.notify h out) s = .next u ∧
        u.twin.notices = (s.twin.notices ||| (1 <<< out)) ∧ (∀ d ∈ u.twin.dropClk, d.1 ≠ out) ∧ Sends s (.notifyAck out) u ∧
        u.pwr.noticeSeen = (s.pwr.noticeSeen || prepareEnded s) ∧ ApartLink { u with pwr := { u.pwr with noticeSeen := s.pwr.noticeSeen } } s) ∧
      (∀ out : Nat, ∃ u, exec (.forceLockNotice h out) s = .next u ∧ u.twin.flags = (s.twin.flags ||| 4) ∧
        Posts s 0x8204 (payload [out, 0]) u ∧ ApartPort { u with twin := { u.twin with flags := s.twin.flags } } (frameTaken h s))) ∧
    (∀ target : Nat, TakesFrame s 0x07 h → NothingAwaited s → ∃ u, exec (.sleep h target) s = .next (settle u) ∧
      u.twin.sleepStands = true ∧ u.twin.notices = 0 ∧ u.twin.dropClk = [] ∧ Sends s (.sleepAck target) u ∧ ApartLink u s)) ∧
  (∀ (s : State) (out t : Nat), (s.twin.dropClk.find? fun d => d.1 == out) = some (out, t) → out < 4 → boxRuns s = true →
    ∃ u, exec (.noticeEnd out) s = .next u ∧ u.clk = max s.clk (t + 6400) ∧ u.twin.notices.getLsbD out = false ∧
      (∀ j, j < 4 → j ≠ out → u.twin.notices.getLsbD j = s.twin.notices.getLsbD j) ∧ (∀ d ∈ u.twin.dropClk, d.1 ≠ out) ∧
      { u with clk := s.clk, tb := s.tb, fresh := s.fresh
               twin := { u.twin with notices := s.twin.notices, dropClk := s.twin.dropClk } } = s) ∧
  ∀ (s : State) (h : FrameHdr) (x : Instr × Nat), twinWorks s = true → exchanges s = true →
    x ∈ [(Instr.heartbeat h, 0x02), (.mirror h 1 [], 0x03), (.mirrorAck h 0, 0x04), (.notify h 0, 0x05), (.notifyAck h 0, 0x05), (.drop h 0, 0x05),
      (.forceLockNotice h 0, 0x05), (.noticeTable h 0, 0x06), (.sleep h 1, 0x07), (.sleepAck h 1, 0x07), (.failedFrame h 9 1, 0x08),
      (.resetReq h, 0x09), (.unpair h, 0x0A)] →
    (readSlot s 3 = .corrupt → ∃ u, exec x.1 s = .next u ∧ Posts s 0x8040 (payload [3]) u ∧ ApartPort { u with sec := s.sec, twin := s.twin } s ∧
      u.sec = { s.sec with zeroised := s.sec.zeroised + 1 } ∧
      u.twin = { s.twin with linkErr := satSucc 0xFFFF s.twin.linkErr, framesBad := s.twin.framesBad + 1, flags := s.twin.flags ||| 8 }) ∧
    (readSlot s 3 ≠ .corrupt → authentic s x.2 h = false → ∃ fr, exec x.1 s = .next { s with
      fresh := fr
      sec := { s.sec with zeroised := s.sec.zeroised + 1 }
      twin := { s.twin with linkErr := satSucc 0xFFFF s.twin.linkErr, framesBad := s.twin.framesBad + 1, flags := s.twin.flags ||| 8 } }) ∧
    (authentic s x.2 h = true → frameNewer s h = false → ∃ fr, exec x.1 s = .next { s with
      fresh := fr
      twin := { s.twin with linkErr := satSucc 0xFFFF s.twin.linkErr, framesBad := s.twin.framesBad + 1 } })

/-- MIRROR, MIRROR_ACK and NOTIFY_ACK complete. A SIDING in RUN takes the next MIRROR frame, the first of a session, or a snapshot: its
records are applied, the sequence is the last applied, it acknowledges, and it is mirrored after a snapshot, or where it was and the frame
is the next; one applied before is acknowledged again and changes nothing; one that leaves a gap is not applied and mirrored falls.
MIRROR_ACK on an ACTIVE drops what it covers from the backlog, or asks for the resynchronisation that a SIDING passes on. NOTIFY_ACK on an
ACTIVE in NOTIFY whose conditions of release still hold starts the output's pulses at the next 1 MHz boundary, by the items that the notice
was given under; where they would not hold any more just before it, or one is missing, the output is LOCKED again and DROP sent, its
requests complete in the second case. Nothing else changes. -/
def Obligations.TwinMirroring : Prop :=
  ∀ (s : State) (h : FrameHdr), s.dev.mode = .run → EnginesUnawaited s →
    (∀ (seq : Nat) (recs : List MirrorRec), TakesFrame s 0x03 h → s.twin.role = 2 → s.twin.pairStep = 0 →
      (let t := applyRecs recs (frameTaken h s)
       s.twin.mirrorOpen = true ∨ seq = s.twin.appliedSeq + 1 ∨ isSnapshot recs = true →
        ∃ u, exec (.mirror h seq recs) s = .next (settle u) ∧ u.twin.appliedSeq = seq ∧
          u.twin.mirrored = (isSnapshot recs || (t.twin.mirrored && seq == s.twin.appliedSeq + 1)) ∧ u.twin.mirrorOpen = false ∧
          Sends t (.mirrorAck seq) u ∧ ApartLink u t) ∧
      (s.twin.mirrorOpen = false → isSnapshot recs = false → seq ≤ s.twin.appliedSeq → ∃ u, exec (.mirror h seq recs) s = .next (settle u) ∧
        Sends s (.mirrorAck s.twin.appliedSeq) u ∧ u.twin.appliedSeq = s.twin.appliedSeq ∧ u.twin.mirrored = s.twin.mirrored ∧ ApartLink u s) ∧
      (s.twin.mirrorOpen = false → isSnapshot recs = false → s.twin.appliedSeq + 1 < seq →
        exec (.mirror h seq recs) s = .next (settle { frameTaken h s with twin := { (frameTaken h s).twin with mirrored := false } }))) ∧
    (TakesFrame s 0x04 h → s.twin.role = 1 → exec (.mirrorAck h resyncMark) s = .next (settle (deviceMaint RESYNC_ALL
      { frameTaken h s with twin := { (frameTaken h s).twin with askedResync := true } }))) ∧
    (∀ seq : Nat, TakesFrame s 0x04 h → s.twin.role = 1 → seq ≠ resyncMark → NothingAwaited s → ∃ u, exec (.mirrorAck h seq) s = .next (settle u) ∧
      u.twin.ackedSeq = max s.twin.ackedSeq seq ∧ u.twin.backlog = s.twin.backlog.filter (fun b => seq < b.1) ∧
      { u with twin := { u.twin with ackedSeq := s.twin.ackedSeq, backlog := s.twin.backlog } } = frameTaken h s) ∧
    (∀ out : Nat, TakesFrame s 0x05 h → out < 4 → s.locks.length = 4 → s.twin.role = 1 → (getLock s out).state = NOTIFY →
      (let it := (getLock s out).items
       let at0 := max (ceilDiv (s.clk + 1) 32 * 32) (getLock s out).stopClk
       (releaseConditions (frameTaken h s) out it = true →
        (releaseConditions { frameTaken h s with clk := max s.clk (at0 - 32) } out it = true → ∃ u, exec (.notifyAck h out) s = .next u ∧
          (getLock u out).state = CHARGING ∧ (getLock u out).pulseClk = some at0 ∧
          (getLock u out).items = it ∧ some (getLock u out).chosen = qualifier (frameTaken h s) out it ∧
          (∀ j, j ≠ out → getLock u j = getLock s j) ∧ { u with locks := s.locks } = frameTaken h s) ∧
        (releaseConditions { frameTaken h s with clk := max s.clk (at0 - 32) } out it = false →
          ∃ u, exec (.notifyAck h out) s = .next u ∧ (getLock u out).state = LOCKED ∧ (∀ j, j ≠ out → getLock u j = getLock s j) ∧
            Sends s (.drop out) u ∧ ApartLink { u with locks := s.locks } s)) ∧
       (releaseConditions (frameTaken h s) out it = false → ∃ u, exec (.notifyAck h out) s = .next u ∧
        (getLock u out).state = LOCKED ∧ (∀ j, j ≠ out → getLock u j = getLock s j) ∧ requestsOf u out = [] ∧ Sends s (.drop out) u ∧
        ApartLink { u with locks := s.locks } s)))

/-- HELLO, HEARTBEAT_TIMER, TWIN_LINK_DOWN, ROLE_DECISION and HEARTBEAT_RESUMED complete. A device that takes a HELLO keeps its nonce and
counters and answers with its own where the twin has not echoed it; an echo of the device's own nonce brings the link up, with event 0x8202,
and a fresh nonce that echoes nothing takes it down; a HELLO that fails CCM is dropped and counted. Of two ACTIVE devices the one with the
higher UID becomes SIDING, its outputs static, its candidates and radio stopped. HEARTBEAT_TIMER sends a HEARTBEAT every 1 ms, or FAILED
from a FAILED device. A link that goes down sets link_lost and is tried again with a fresh nonce, where one is left; a corrupt pair key is
posted, and gives none. In a FAILED device an echo of its nonce brings the link up, with no event. ROLE_DECISION takes SIDING from an ACTIVE
twin, decides with a deciding one by the stored last roles and the UIDs, waits while the twin only shows its heartbeat, and takes ACTIVE
without one. An edge after a timeout makes the twin stand, and a backlog then goes out where an engine is free. -/
def Obligations.TwinLinkAndRoles : Prop :=
  (∀ (s : State) (h : FrameHdr) (role last : Nat), twinWorks s = true → exchanges s = true → readSlot s 3 ≠ .corrupt →
    (frameOpen s 0x01 16 (h.payload.take 16) h = none → ∃ fr, exec (.hello h role last) s = .next { s with
      fresh := fr
      sec := { s.sec with zeroised := s.sec.zeroised + 1 }
      twin := { s.twin with linkErr := satSucc 0xFFFF s.twin.linkErr, framesBad := s.twin.framesBad + 1, flags := s.twin.flags ||| 8 } }) ∧
    (∀ rest : List Byte, frameOpen s 0x01 16 (h.payload.take 16) h = some rest → 16 ≤ rest.length →
      h.payload.take 16 ≠ s.twin.peerNonce ∨ frameNewer s h = true → s.dev.failed = true → rest.take 16 = s.twin.myNonce → s.twin.myNonce ≠ [] →
      s.twin.linkUp = false → ∃ u, exec (.hello h role last) s = .next (settle u) ∧ u.twin.linkUp = true ∧ u.twin.peerNonce = h.payload.take 16 ∧
        u.port = s.port ∧ ApartLink u s) ∧
    (∀ rest : List Byte, frameOpen s 0x01 16 (h.payload.take 16) h = some rest → 16 ≤ rest.length → s.dev.failed = false →
      h.payload.take 16 ≠ s.twin.peerNonce ∨ frameNewer s h = true → s.twin.pairing = none → s.twin.role ≠ 1 ∨ (role = 1 ∧ s.twin.linkUp = false) →
      let nonce := h.payload.take 16
      let echo := rest.take 16
      ∃ u, exec (.hello h role last) s = .next (settle u) ∧
        (s.twin.role ≠ 1 → u.twin.peerNonce = nonce ∧ u.twin.rxBoot = h.boot ∧ u.twin.rxCtr = h.ctr ∧ u.twin.sleepStands = false ∧
          u.twin.peerRole = role ∧ u.twin.peerLast = last ∧
          (nonce ≠ s.twin.peerNonce ∨ echo ≠ s.twin.myNonce → s.twin.myNonce ≠ [] → nonceLeft s = true →
            ∃ f, u.twin.out = f :: s.twin.out ∧ f.msg = .hello s.twin.myNonce nonce s.twin.role s.nv.lastActive.toNat) ∧
          (echo = s.twin.myNonce → s.twin.myNonce ≠ [] → s.twin.linkUp = false → u.twin.linkUp = true ∧ Posts s 0x8202 (payload [1]) u) ∧
          (echo ≠ s.twin.myNonce → nonce ≠ s.twin.peerNonce → s.twin.linkUp = true → u.twin.linkUp = false ∧ u.twin.flags = s.twin.flags ||| 2 ∧
            Posts s 0x8202 (payload [0]) u) ∧ ApartLink u s) ∧
        (s.twin.role = 1 → role = 1 → echo = s.twin.myNonce → s.twin.myNonce ≠ [] → s.twin.linkUp = false → u.twin.linkUp = true ∧
          u.twin.role = (if peerUid s < deviceUid s then 2 else 1) ∧
          (peerUid s < deviceUid s → u.radio.on = false ∧ u.radio.paOn = false ∧ u.sched.cands = [] ∧ u.nv.lastActive = false ∧
            ∀ o, o < 4 → pumping u o = false)))) ∧
  (∀ s : State, twinWorks s = true → exchanges s = true →
    (∃ u, exec .heartbeatTimer s = .next u ∧ u.clk = max s.clk (s.twin.hbTimerClk + 32000) ∧ u.twin.hbTimerClk = u.clk ∧
      Sends s (if s.dev.failed then .failed s.dev.faultCode s.dev.faultArg else .heartbeat) u ∧ ApartLink { u with clk := s.clk, tb := s.tb } s) ∧
    (s.twin.linkUp = true → readSlot s 3 = .corrupt → s.dev.failed = false → ∃ u, exec .twinLinkDown s = .next u ∧ u.twin.linkUp = false ∧
      (firstPost s 3 = none → s.port.evtQ.length < 255 → u.port.evtQ.map (fun e => e.code) = s.port.evtQ.map (fun e => e.code) ++ [0x8202, 0x8040]) ∧
      u.twin.out = s.twin.out ∧ ApartLink { u with clk := s.clk, tb := s.tb } s) ∧
    (s.twin.linkUp = true → readSlot s 3 ≠ .corrupt → ∃ u, exec .twinLinkDown s = .next u ∧ u.clk = max s.clk (s.twin.frameClk + hbTimeout s) ∧
      u.twin.linkUp = false ∧ u.twin.flags = s.twin.flags ||| 2 ∧ Posts s 0x8202 (payload [0]) u ∧
      (s.dev.failed = true → u.twin.out = s.twin.out ∧ u.free = s.free) ∧
      (s.dev.failed = false → nonceLeft s = false → u.sec.retired = s.sec.retired + 1 ∧ u.twin.out = s.twin.out ∧ u.free = s.free) ∧
      (s.dev.failed = false → nonceLeft s = true → u.twin.myNonce = sessionNonce s ∧ u.free = s.free + 4 ∧ (s.sec.nonceCtr + 1 < 2 ^ 64 - 1 →
        ∃ f, u.twin.out = f :: s.twin.out ∧ f.msg = .hello (sessionNonce s) s.twin.peerNonce s.twin.role s.nv.lastActive.toNat)) ∧
      ApartLink { u with clk := s.clk, tb := s.tb, free := s.free } s)) ∧
  (∀ s : State, s.twin.deciding = true → isRunning s = true →
    let taken := s.twin.linkUp = true ∧ s.twin.peerRole = 1 ∧ twinStands s = true
    let both := s.twin.linkUp = true ∧ s.twin.peerRole = 2
    (¬taken → ¬both → twinStands s = true → exec .roleDecision s = .next s) ∧
    (taken ∨ both ∨ twinStands s = false → ∃ u, exec .roleDecision s = .next (settle u) ∧ u.twin.deciding = false ∧
      (taken → u.twin.role = 2) ∧ (both → u.twin.role = (if winsRole s then 1 else 2)) ∧ (¬taken → ¬both → u.twin.role = 1 ∧
        u.clk = max s.clk (s.twin.decideClk + clkMs (par s (twinId 2)))) ∧ u.nv.lastActive = (u.twin.role == 1) ∧
      (u.twin.role = 2 → u.bus.state = 7) ∧ (u.twin.role = 1 → u.radio.on = true) ∧
      u.keys = s.keys ∧ u.locks = s.locks ∧ u.par = s.par ∧ u.roster = s.roster ∧ u.isl = s.isl ∧ u.upd = s.upd ∧ u.dev = s.dev)) ∧
  ∀ s : State, boxRuns s = true → ∃ u, exec .heartbeatResumed s = .next u ∧ u.twin.hbSeen = true ∧ u.twin.hbClk = s.clk ∧
    (twinStands s = true ∨ s.twin.role ≠ 1 → { u with twin := { u.twin with hbSeen := s.twin.hbSeen, hbClk := s.twin.hbClk } } = s) ∧
    (s.twin.role = 1 → s.twin.hbSeen = false → s.twin.sleepStands = false → s.twin.linkUp = true → s.twin.overflowed = false → s.twin.resyncDue = false →
      s.sec.nonceCtr + s.twin.backlog.length < 2 ^ 64 - 1 → (s.sec.jobs.countP fun j => !j.pk && j.running) < 3 →
      (∀ b ∈ s.twin.backlog, ∃ f ∈ u.twin.out, f.msg = .mirror b.1 b.2) ∧ ApartLink u s)

/-- FAILED_FRAME, RESET_REQ, TWIN_HB_TIMEOUT, TWIN_LINK_FAIL and TAKEOVER_ECHO_SETTLED complete. A mirrored SIDING that accepts a FAILED
frame, or sees no heartbeat and no frame for hb_timeout_ms, begins a takeover with cause 1 or 2; one that is not mirrored, or still hears
frames without heartbeat, or heartbeat without frames, becomes FAILED with code 0x0009. An ACTIVE posts the first FAILED frame, and goes on
solo without heartbeat. A takeover whose echoes have been low for ten periods makes it ACTIVE with its keys as at boot but for their counts
of messages refused, counted, TWIN_FLAGS.takeover set, RESET_REQ sent where the link is up; echoes not low after three periods pull
ILK_KILL_N, set force_lock, are noticed to the twin and posted, and the takeover waits on. RESET_REQ resets a paired device with RESET_CAUSE
bit 6, also in FAILED. -/
def Obligations.TakeoverAndTwinFaults : Prop :=
  (∀ (s : State) (h : FrameHdr) (code arg : Half), TakesFrame s 0x08 h →
    (s.twin.role = 2 → s.twin.deciding = false → s.twin.takeoverCause = none → s.twin.mirrored = true →
      ∃ u, exec (.failedFrame h code arg) s = .next u ∧ u.twin.takeoverCause = some 1 ∧ u.twin.takeoverClk = s.clk ∧ u.twin.twinFailed = true ∧
        u.twin.notices = 0 ∧ { u with twin := s.twin } = aesJob s) ∧
    (s.twin.role = 2 → s.twin.deciding = false → s.twin.takeoverCause = none → s.twin.mirrored = false →
      ∃ u a, exec (.failedFrame h code arg) s = .next u ∧ (a = 1 ∨ a = 2) ∧ EntersFailed s 9 a u) ∧
    (s.twin.role = 1 → s.twin.twinFailed = false → ¬(code = 9 ∧ arg = 1) → ∃ u, exec (.failedFrame h code arg) s = .next u ∧
      u.twin.twinFailed = true ∧ Posts s 0x8203 (leBytes 2 code.toNat ++ leBytes 2 arg.toNat) u ∧ ApartPort { u with twin := s.twin } (aesJob s)) ∧
    (s.twin.role = 1 → s.twin.twinFailed = false → ∃ u, exec (.failedFrame h 9 1) s = .next u ∧ (firstPost s 3 = none → s.port.evtQ.length < 255 →
      u.port.evtQ.map (fun e => e.code) = s.port.evtQ.map (fun e => e.code) ++ [0x8203, 0x8207]) ∧ ApartPort { u with twin := s.twin } (aesJob s))) ∧
  (∀ (s : State) (h : FrameHdr), twinWorks s = true → s.twin.role ≠ 0 → authentic s 0x09 h = true → frameNewer s h = true →
    ∃ t, exec (.resetReq h) s = .next t ∧ Restarted s 64 t) ∧
  (∀ s : State, boxRuns s = true → s.twin.hbSeen = true → s.twin.sleepStands = false → s.dev.failed = false →
    (s.twin.role = 1 → NothingAwaited s → EnginesUnawaited s → ∃ u, exec .twinHbTimeout s = .next (settle u) ∧ twinStands u = false ∧
      u.twin.notices = 0 ∧ u.clk = max s.clk (s.twin.hbClk + hbTimeout s) ∧ u.twin.role = 1 ∧
      { u with clk := s.clk, tb := s.tb, fresh := s.fresh, twin := s.twin } = s) ∧
    (s.twin.role = 2 → s.twin.deciding = false →
      (max s.clk (s.twin.hbClk + hbTimeout s) < s.twin.frameClk + hbTimeout s → ∃ u, exec .twinHbTimeout s = .next u ∧ EntersFailed s 9 1 u) ∧
      (s.twin.frameClk + hbTimeout s ≤ max s.clk (s.twin.hbClk + hbTimeout s) → s.twin.takeoverCause = none → s.twin.mirrored = true →
        ∃ u, exec .twinHbTimeout s = .next u ∧ u.twin.takeoverCause = some 2 ∧ u.twin.takeoverClk = u.clk ∧ u.twin.hbSeen = false ∧
          { u with clk := s.clk, tb := s.tb, fresh := s.fresh, twin := s.twin } = s) ∧
      (∃ u, exec .twinLinkFail s = .next u ∧ EntersFailed s 9 2 u))) ∧
  ∀ (s : State) (c : Nat), s.twin.takeoverCause = some c → isRunning s = true →
    (∃ u, exec (.takeoverEchoSettled 0) s = .next (settle u) ∧ u.twin.role = 1 ∧ u.twin.takeoverCause = none ∧ u.nv.lastActive = true ∧
      u.twin.takeovers = satSucc 0xFFFF s.twin.takeovers ∧ u.twin.flags = s.twin.flags ||| 1 ∧
      u.clk = max s.clk (s.twin.echoClk + 10 * pulsePeriod) ∧ u.twin.takeoverUs = (u.clk - s.twin.takeoverClk) / 32 ∧
      u.keys = (s.nv.keyTab.zipIdx.map fun x => { Key.reset x.1 with refused := (getKey s x.2).refused }) ∧
      u.dev.kill = s.dev.kill ∧ u.dev.echo = 0 ∧
      (s.twin.linkUp = true → nonceLeft s = true → ∃ f ∈ u.twin.out, f.msg = .resetReq) ∧
      u.locks = s.locks ∧ u.roster = s.roster ∧ u.par = s.par ∧ u.isl = s.isl ∧ u.upd = s.upd) ∧
    ∀ high : BitVec 4, high ≠ 0 → ∃ u, exec (.takeoverEchoSettled high) s = .next u ∧
      u.dev = { s.dev with kill := true, echo := s.dev.echo ||| high } ∧ u.twin.flags = s.twin.flags ||| 4 ∧
      u.twin.takeoverCause = some c ∧ u.twin.echoClk = u.clk ∧ u.clk = max s.clk (s.twin.echoClk + 3 * pulsePeriod) ∧
      (∀ o, o < 4 → high = 1 <<< o → Sends s (.forceLock o) u ∧ Posts s 0x8204 (payload [o, 1]) u) ∧
      ApartLink { u with clk := s.clk, tb := s.tb, dev := s.dev } s

/-- PAIR_HELLO, TWIN_PEER_TIMEOUT, PAIR_KEY, PAIR_CONFIRM, PAIR_DONE, MIRROR with the snapshot and UNPAIR complete. In step, a running
device in its ceremony takes PAIR_HELLO to step 2, sending its own fresh ephemeral key with report and signature, PAIR_KEY with a good
report to step 3 with the pair key in slot 3, sending the CMAC of PAIR_CONFIRM, and PAIR_CONFIRM with that CMAC to step 4, with a HELLO
under a fresh nonce. A hello that does not match, a bad report or CMAC, a spent MCTR2 and ten seconds without PAIR_HELLO end the ceremony
and its command, slot 3 destroyed from step 3 on, and tell the twin the status (the model's two-byte PAIR_CONFIRM, assumption log 37), which
ends the ceremony there. A PAIR_HELLO that comes before the device is asked to pair is kept. PAIR_DONE makes the ACTIVE paired, and the
snapshot the SIDING, unless it would overwrite a slot. UNPAIR leaves a device unpaired, with event 0x8206; an ACTIVE keeps its keys. -/
def Obligations.TwinPairingFrames : Prop :=
  (∀ (s : State) (role : Nat), isRunning s = true → s.twin.pairing = some role →
    (s.twin.pairStep = 1 →
      (∀ (m : PairHelloMsg) (a : Dword) (key : List Byte), helloRefused m s = none → readSlot s 0 = .key a key → counterLive s 1 ≠ 0xFFFFFFFF →
        ∃ u report sig f, exec (.pairHello m) s = .next (settle u) ∧ u.twin.pairStep = 2 ∧ u.twin.peerUid = m.uid ∧
          u.twin.peerChallenge = m.challenge ∧ u.twin.peerKey = m.devId ∧ u.twin.ephemeral = ecScalar (drawBytes 48 s) ∧
          u.twin.out = f :: s.twin.out ∧ f.msg = .pairKey (ecPublic u.twin.ephemeral ++ report ++ sig) ∧
          u.twin.said = s.twin.said ++ [ecPublic u.twin.ephemeral ++ report ++ sig] ∧ u.twin.heard = [helloMsgBytes m] ∧
          { u with twin := s.twin, free := s.free, nv := s.nv, sec := s.sec } = s) ∧
      (∀ (m : PairHelloMsg) (st : Nat), helloRefused m s = some st → ∃ u, exec (.pairHello m) s = .next (settle u) ∧ u.twin.pairing = none ∧
        u.twin.role = 0 ∧ (u.twin.out.head?.map fun f => f.msg) = some (.pairConfirm (leBytes 2 st)) ∧
        (∀ x ∈ u.port.held, x.kind ≠ .pairing) ∧ ApartPort { u with twin := s.twin } s) ∧
      (∃ u, exec .twinPeerTimeout s = .next (settle u) ∧ u.twin.pairing = none ∧ u.clk = max s.clk (s.twin.pairClk + clkS 10) ∧
        (u.twin.out.head?.map fun f => f.msg) = some (.pairConfirm (leBytes 2 ST_TWIN_NO_PEER)) ∧ (∀ x ∈ u.port.held, x.kind ≠ .pairing) ∧ ApartPort { u with clk := s.clk, tb := s.tb, twin := s.twin } s)) ∧
    (∀ st : Nat, st < 65536 → ∃ u, exec (.pairConfirm (leBytes 2 st)) s = .next (settle u) ∧ u.twin.pairing = none ∧ u.twin.out = s.twin.out ∧
      (∀ x ∈ u.port.held, x.kind ≠ .pairing) ∧ (s.twin.pairStep < 3 → ApartPort { u with twin := s.twin } s)) ∧
    (s.twin.pairStep = 2 → counterLive s 2 = 0xFFFFFFFF → ∀ m : PairKeyMsg, ∃ u, exec (.pairKey m) s = .next (settle u) ∧ u.twin.pairing = none ∧
      (u.twin.out.head?.map fun f => f.msg) = some (.pairConfirm (leBytes 2 ST_CTR_EXHAUSTED)) ∧ u.sec = { s.sec with retired := s.sec.retired + 1 } ∧
      (∀ x ∈ u.port.held, x.kind ≠ .pairing) ∧ ApartPort { u with twin := s.twin, sec := s.sec } s) ∧
    (s.twin.pairStep = 2 → counterLive s 2 ≠ 0xFFFFFFFF → ∀ m : PairKeyMsg,
      (∀ z : List Byte, keyRefused m s = none → ecdh s.twin.ephemeral m.ephemeral = some z → ∃ u f, exec (.pairKey m) s = .next u ∧
        u.twin.pairStep = 3 ∧ u.twin.out = f :: s.twin.out ∧ f.msg = .pairConfirm (confirmMac u) ∧ u.nv.slots.any (fun r => r.1 == 3) = true ∧
        (∀ r, r.1 ≠ 3 → (r ∈ u.nv.slots ↔ r ∈ s.nv.slots)) ∧ { u with twin := s.twin, nv := s.nv, sec := s.sec } = s) ∧
      (keyRefused m s ≠ none ∨ ecdh s.twin.ephemeral m.ephemeral = none → ∃ u, exec (.pairKey m) s = .next (settle u) ∧ u.twin.pairing = none ∧
        (∀ x ∈ u.port.held, x.kind ≠ .pairing) ∧ ApartPort { u with twin := s.twin } s)) ∧
    (s.twin.pairStep = 3 → ∀ mac : List Byte,
      (mac = confirmMac s → readSlot s 3 ≠ .corrupt → nonceLeft s = true →
        ∃ u, exec (.pairConfirm mac) s = .next u ∧ u.twin.pairStep = 4 ∧ u.twin.myNonce = sessionNonce s ∧
        u.twin.frameClk = s.clk ∧ u.free = s.free + 4 ∧ (s.sec.nonceCtr + 1 < 2 ^ 64 - 1 →
          ∃ f, u.twin.out = f :: s.twin.out ∧ f.msg = .hello (sessionNonce s) s.twin.peerNonce s.twin.role s.nv.lastActive.toNat) ∧
        ApartLink { u with free := s.free } s) ∧
      (mac ≠ confirmMac s → mac.length ≠ 2 → ∃ u, exec (.pairConfirm mac) s = .next (settle u) ∧ u.twin.pairing = none ∧ u.nv.slots.all (fun r => r.1 != 3) = true ∧
        (∀ x ∈ u.port.held, x.kind ≠ .pairing) ∧ ApartLink { u with nv := s.nv } s))) ∧
  (∀ s : State, isRunning s = true → s.twin.pairing = some 1 → s.twin.pairStep = 5 → s.twin.resyncDue = false → s.twin.overflowed = false →
    ∃ u, exec .pairDone s = .next (settle u) ∧ u.twin.role = 1 ∧ u.twin.pairing = none ∧ u.twin.mirrored = true ∧ u.nv.lastActive = true ∧
      u.nv.pair = some { peerUid := s.twin.peerUid, epoch := counterLive s 2, twinHash := sha384 s.twin.peerKey } ∧
      (∀ x ∈ u.port.held, x.kind ≠ .pairing) ∧ ApartLink { u with nv := s.nv } s) ∧
  (∀ (s : State) (h : FrameHdr),
    (∀ (seq : Nat) (recs : List MirrorRec), TakesFrame s 0x03 h → s.dev.mode = .run → s.twin.pairing = some 2 → s.twin.pairStep = 4 →
      (slotConflict s recs = false → ∃ u, exec (.mirror h seq recs) s = .next (settle u) ∧ u.twin.role = 2 ∧ u.twin.appliedSeq = seq ∧
        u.nv.pair.isSome = true ∧ u.twin.pairing = none ∧ (u.twin.out.head?.map fun f => f.msg) = some .pairDone) ∧
      (slotConflict s recs = true → ∃ u, exec (.mirror h seq recs) s = .next (settle u) ∧ u.twin.role = 0 ∧ u.twin.pairing = none ∧
        u.nv.pair = s.nv.pair ∧ (u.twin.out.head?.map fun f => f.msg) = some (.pairConfirm (leBytes 2 ST_TWIN_SLOT_CONFLICT)))) ∧
    (TakesFrame s 0x0A h →
      (s.twin.role = 1 → NothingAwaited s → EnginesUnawaited s → ∃ u, exec (.unpair h) s = .next (settle u) ∧ u.twin.role = 0 ∧ u.nv.pair = none ∧
        u.nv.slots.all (fun r => r.1 != 3) = true ∧ u.nv.keyTab = s.nv.keyTab ∧ u.keys = s.keys ∧ u.par = s.par ∧ u.roster = s.roster ∧
        (∀ o, o < 4 → pumping u o = false)) ∧
      (s.twin.role = 2 → ∃ u, exec (.unpair h) s = .next (settle u) ∧ u.twin.role = 0 ∧ u.nv.pair = none ∧
        u.nv.slots.all (fun r => r.1 != 3) = true ∧ u.par = [] ∧ u.nv.keyTab = List.replicate 32 KeyNv.empty ∧ u.sched.svcs = [] ∧
        (∀ e ∈ u.roster.entries, e.pinned = false)))) ∧
  ∀ (s : State) (m : PairHelloMsg), isRunning s = true → s.twin.pairing = none → exec (.pairHello m) s =
    .next (if s.nv.pair.isSome then s else { s with twin := { s.twin with early := some (s.clk, m) } })

/-- SLEEP_PREPARE_TIMEOUT, SLEEP_COMMIT and SLEEP_ACK_TIMEOUT complete where they refuse. A participant that refuses in prepare, when
pwr.prepare_ms runs out, or in commit, the vehicle bus (10), the twin supervisor (9) or the radio (4), and the missing SLEEP_ACK: the held
PWR_SLEEP completes with ST_SLEEP_ABORTED and the ID and phase in word 4, sleep_aborted is set, sleep_aborts rises by one, last_refuser has
the same value, and the device is in RUN. -/
def Obligations.SleepRefused : Prop :=
  ∀ (s : State) (h : Held), (s.port.held.filter fun x => x.kind == .sleepEntry) = [h] → (getRing s h.ring).base + 32 * h.idx + 32 ≤ windowBytes →
    Mem.wf s.win = true → firstPost s 3 = none → (∀ r, r < 64 → ringWaits (getRing s r) = false) → EnginesUnawaited s →
    let refused := fun (id phase : Nat) (u : State) =>
      winWord u ((getRing s h.ring).base + 32 * h.idx + 16) = BitVec.ofNat 32 (id + 256 * phase) ∧
      winWord u ((getRing s h.ring).base + 32 * h.idx + 28) = BitVec.ofNat 32 ST_SLEEP_ABORTED ∧ findHeld u h.ring h.idx = none ∧
      u.pwr.sleepAborted = true ∧ u.pwr.sleepAborts = s.pwr.sleepAborts + 1 ∧ u.pwr.lastRefuser = BitVec.ofNat 32 (id + 256 * phase) ∧
      u.dev = { s.dev with mode := .run } ∧
      ApartLink { u with clk := s.clk, tb := s.tb, dev := s.dev, pwr := s.pwr, mnt := s.mnt, free := s.free } s
    (∀ id : Nat, s.dev.mode = .prepare → prepareRefuser s = some id → ∃ u, exec .sleepPrepareTimeout s = .next (settle u) ∧ refused id 0 u ∧
      u.clk = max s.clk (s.pwr.prepareClk + clkMs (sleepItem s 6))) ∧
    (s.dev.mode = .prepare → prepareRefuser s = none →
      (s.pwr.busFrameSeen = true → ∃ u, exec .sleepCommit s = .next (settle u) ∧ refused 10 1 u) ∧
      (s.pwr.busFrameSeen = false → s.pwr.noticeSeen = true → ∃ u, exec .sleepCommit s = .next (settle u) ∧ refused 9 1 u) ∧
      (s.pwr.busFrameSeen = false → s.pwr.noticeSeen = false → twinStands s = false → s.pwr.preambleSeen = true →
        ∃ u, exec .sleepCommit s = .next (settle u) ∧ refused 4 1 u)) ∧
    ∀ t : Nat, awaitsSleepAck s = true → s.twin.sleepSentClk = some t →
      ∃ u, exec .sleepAckTimeout s = .next (settle u) ∧ refused 9 1 u ∧ u.clk = max s.clk (t + 32000)

/-- SLEEP_COMMIT, SLEEP_ACK, WAKE_SOURCE_EVENT, WAKE_TIMER_EXPIRY, WAKE_STEP_READY and WAKE_STEP_TIMEOUT complete. With every participant
agreed, commit enters the state asked for, counted and dated, the radio off, its requests kept, and no candidate left; where the twin stands
it first sends SLEEP and waits, and SLEEP_ACK then lets it enter. An event of an enabled source is latched during entry, starts the wake
order from HALT or STABLED, from the short logic step in HALT, and joins WAKE_SRC while it runs. The wake timer dates itself WAKE_TMR ms
after the state was reached; in the wake order it joins the event of its own clock, or sets its bit. A step that reports ready within 10 ms
starts the next; the last brings RUN, the sources shown, the entries passed in the sleep state skipped, and event 0x8101; one that does not
resets the device as the watchdog does. -/
def Obligations.SleepEntryAndWake : Prop :=
  (∀ s : State, s.dev.mode = .prepare → prepareRefuser s = none → s.pwr.busFrameSeen = false → s.pwr.noticeSeen = false →
    (twinStands s = false → s.pwr.preambleSeen = false → s.pwr.latched = 0 → ∃ u, exec .sleepCommit s = .next u ∧
      u.dev = { s.dev with mode := if s.pwr.target = 2 then .stabled else .halt, ready := s.dev.ready && decide (s.pwr.target ≠ 2) } ∧
      u.pwr = { s.pwr with sleepEntries := s.pwr.sleepEntries + 1, asleepClk := s.clk, wakeStep := 0 } ∧ u.radio.on = false ∧
      u.sched.cands = [] ∧ (∀ v ∈ u.sched.svcs, v.demands.all (fun d => !d.own) = true) ∧ (s.pwr.target ≠ 2 → u.tb = s.tb) ∧
      u.radio.wants = s.radio.queue ++ s.radio.wants ∧ u.radio.queue = [] ∧ u.sched.blocks = s.sched.blocks ∧
      ApartPort { u with dev := s.dev, pwr := s.pwr, radio := s.radio, sched := s.sched, tb := s.tb } s) ∧
    (twinStands s = true → ∃ u, exec .sleepCommit s = .next u ∧ u.dev = { s.dev with mode := .commit } ∧ u.twin.sleepSentClk = some s.clk ∧
      u.twin.sleepAcked = false ∧ Sends s (.sleep s.pwr.target) u ∧ ApartLink { u with dev := s.dev } s)) ∧
  (∀ (s : State) (h : FrameHdr), TakesFrame s 0x07 h → awaitsSleepAck s = true → s.pwr.noticeSeen = false → s.pwr.preambleSeen = false →
    s.pwr.latched = 0 → ∃ u, exec (.sleepAck h s.pwr.target) s = .next u ∧ u.dev.mode = (if s.pwr.target = 2 then .stabled else .halt) ∧
      u.twin.sleepAcked = true ∧ u.pwr.sleepEntries = s.pwr.sleepEntries + 1 ∧ u.pwr.asleepClk = s.clk ∧ u.port = s.port ∧ u.win = s.win) ∧
  (∀ (s : State) (c : WakeCause),
    (wakeSource s c = none → exec (.wakeSourceEvent c) s = .next s) ∧
    (∀ src : Nat, wakeSource s c = some src → wakeEnabled s src = true →
      (s.dev.mode = .prepare ∨ s.dev.mode = .commit → exec (.wakeSourceEvent c) s =
        .next { s with pwr := { s.pwr with latched := s.pwr.latched ||| (1 <<< src) } }) ∧
      (s.dev.mode = .halt ∨ s.dev.mode = .stabled → s.clk ≠ s.pwr.asleepClk → exec (.wakeSourceEvent c) s = .next { s with
        dev := { s.dev with mode := .waking }
        pwr := { s.pwr with latched := 1 <<< src, wakeStep := if s.pwr.target = 2 then 1 else 4, wokeClk := s.clk, replayed := false } }) ∧
      (s.dev.mode = .waking → s.pwr.wokeClk ≠ s.clk → ∃ fr, exec (.wakeSourceEvent c) s =
        .next { s with fresh := fr, pwr := { s.pwr with wakeSrc := s.pwr.wakeSrc ||| (1 <<< src) } }))) ∧
  (∀ s : State, s.dev.mode = .halt ∨ s.dev.mode = .stabled → s.pwr.wakeTmr ≠ 0 → s.pwr.wakeEn.getLsbD 4 = true →
    ∃ u, exec .wakeTimerExpiry s = .next u ∧ u.clk = max s.clk (s.pwr.asleepClk + clkMs s.pwr.wakeTmr.toNat) ∧ u.dev = { s.dev with mode := .waking } ∧
      u.pwr.latched = 16 ∧ u.pwr.wakeStep = (if s.pwr.target = 2 then 1 else 4) ∧ 
        { u with clk := s.clk, tb := s.tb, fresh := s.fresh, dev := s.dev, pwr := s.pwr } = s) ∧
  (∀ s : State, s.dev.mode = .waking → s.pwr.wakeTmr ≠ 0 → s.pwr.wakeEn.getLsbD 4 = true →
    let due := s.pwr.asleepClk + clkMs s.pwr.wakeTmr.toNat
    s.clk ≤ due → ∃ u, exec .wakeTimerExpiry s = .next u ∧ u.clk = due ∧
      u.pwr = (if s.pwr.wokeClk = due then { s.pwr with latched := s.pwr.latched ||| 16 } else { s.pwr with wakeSrc := s.pwr.wakeSrc ||| 16 }) ∧
      { u with clk := s.clk, tb := s.tb, fresh := s.fresh, pwr := s.pwr } = s) ∧
  ∀ (s : State) (us : Nat), s.dev.mode = .waking →
    (us ≤ 10000 → s.pwr.wakeStep < 4 → ∃ u, exec (.wakeStepReady us) s = .next u ∧ u.clk = s.clk + 32 * us ∧
      u.pwr = { s.pwr with wakeStep := s.pwr.wakeStep + 1 } ∧ { u with clk := s.clk, tb := s.tb, fresh := s.fresh, pwr := s.pwr } = s) ∧
    (us ≤ 10000 → s.pwr.wakeStep = 4 → s.mnt.queue = [] → EnginesUnawaited s → ∃ u, exec (.wakeStepReady us) s = .next (settle u) ∧
      u.dev = { s.dev with mode := .run, ready := true } ∧ u.pwr.wakeSrc = s.pwr.wakeSrc ||| s.pwr.latched ∧ u.pwr.lastWake = lowestWake s.pwr.latched ∧
      u.pwr.latched = 0 ∧ (∀ x ∈ u.port.held, x.kind ≠ .sleepEntry) ∧
      (s.twin.role = 0 → s.isl.enrolWait = none → s.isl.sessionsDue = [] → s.isl.staged = [] → s.isl.writing = [] → u.nv = s.nv ∧ u.sec = s.sec ∧ u.isl = s.isl ∧
        (s.port.held = [] → s.port.evtQ.length < 256 → s.pwr.target = 1 →
          u.port.evtQ.map (fun e => e.code) = s.port.evtQ.map (fun e => e.code) ++ [0x8101])) ∧
      (∀ v ∈ u.sched.svcs, svcPar s v.n 3 < 5 → v.crossed = counts (getSrc u (svcPar s v.n 3))) ∧ (∀ c ∈ u.sched.cands, c ∈ s.sched.cands) ∧
      { u.sched with svcs := s.sched.svcs, cands := s.sched.cands } = s.sched ∧ u.keys = s.keys ∧ u.par = s.par ∧ u.roster = s.roster) ∧
    (10000 < us → ∃ t, exec (.wakeStepReady us) s = .next t ∧ Restarted s 8 t ∧ t.nv.wdResets = s.nv.wdResets + 1) ∧
    ∃ t, exec .wakeStepTimeout s = .next t ∧ Restarted s 8 t ∧ t.nv.wdResets = s.nv.wdResets + 1

/-- BUS_REQUEST_RX, TP_FRAME_RX, ADDRESS_CLAIM_RX, COMMANDED_ADDRESS_RX, PROPRIETARY_A_RX and BUS_FRAME_RX complete. A device that hears the
bus counts each frame, but for FD frames in modes 0 and 1, which change nothing. In modes 1 and 2 it posts every other one as 0x8210. In
mode 0 it answers a Request for Address Claim with its claim, posts a request for a PGN of bus.rx_pgn and NACKs any other; where bus.rx_pgn
lists requests or claims themselves it posts these too; it posts a message of bus.rx_pgn, and a Proprietary A message to its own address,
not of the chain, where bus.prop_a_rx is 1; a claim of its own address by a lower NAME takes the address from it (to Cannot Claim where its
NAME is fixed, and the sends in hand end), and a higher one is answered by its claim; a Commanded Address for its NAME moves it where
allowed. A request to send to it opens a session with a Clear to Send, and one too long is aborted with reason 2 and counted; End of Message
Acknowledgement completes its own send with ST_OK, an abort with ST_BUS_ABORTED. -/
def Obligations.BusReception : Prop :=
  ∀ (s : State) (f : CanFrame), busHears s = true → s.dev.mode = .run → f.ext = true →
    (f.fd = true → busMode s ≠ 2 → ∀ i ∈ [Instr.busRequestRx f, .tpFrameRx f, .addressClaimRx f, .proprietaryARx f, .busFrameRx f],
      exec i s = .next s) ∧
    (busMode s = 1 → f.fd = false → ∀ i ∈ [Instr.busRequestRx f, .tpFrameRx f, .addressClaimRx f, .proprietaryARx f, .busFrameRx f], ∃ u, exec i s = .next u ∧
      u.bus = { s.bus with rxFrames := s.bus.rxFrames + 1 } ∧ ApartPort { u with bus := s.bus } s ∧
      Posts s 0x8210 (leBytes 3 (framePgn f) ++ payload [frameSrc f, frameDest f, framePrio f] ++ leBytes 2 f.data.length ++ f.data) u) ∧
    (busMode s = 2 → ∀ i ∈ [Instr.busRequestRx f, .tpFrameRx f, .addressClaimRx f, .proprietaryARx f, .busFrameRx f], ∃ u, exec i s = .next u ∧
      u.bus = { s.bus with rxFrames := s.bus.rxFrames + 1 } ∧ ApartPort { u with bus := s.bus, free := s.free } s ∧
      (firstPost s 3 = none → s.port.evtQ.length < 256 → ∃ e, u.port.evtQ = s.port.evtQ ++ [e] ∧ e.code = 0x8210 ∧
        e.payload.take 3 = leBytes 3 f.id ∧ e.payload.drop 6 = leBytes 2 f.data.length ++ f.data)) ∧
    (busMode s = 0 → f.fd = false →
      let heard : Bus := { s.bus with rxFrames := s.bus.rxFrames + 1 }
      let message := leBytes 3 (framePgn f) ++ payload [frameSrc f, frameDest f, framePrio f] ++ leBytes 2 f.data.length ++ f.data
      (framePgn f = PGN_REQUEST → f.data.length = 3 → forMe f s = true →
        (leNat f.data = PGN_CLAIM → busTalks s = true → busName s ≠ 0 → rxPgn s PGN_REQUEST = false →
          exec (.busRequestRx f) s = .next (claimFrame { s with bus := heard })) ∧
        (leNat f.data = PGN_CLAIM → busTalks s = true → busName s ≠ 0 → rxPgn s PGN_REQUEST = true → ∃ u, exec (.busRequestRx f) s = .next u ∧
          u.bus.tx.length = s.bus.tx.length + 1 ∧ Posts s 0x8210 message u ∧ ApartPort { u with bus := s.bus } s) ∧
        (leNat f.data ≠ PGN_CLAIM → rxPgn s (leNat f.data) = true → ∃ u, exec (.busRequestRx f) s = .next u ∧ u.bus = heard ∧
          Posts s 0x8210 message u ∧ ApartPort { u with bus := s.bus } s) ∧
        (leNat f.data ≠ PGN_CLAIM → rxPgn s (leNat f.data) = false → rxPgn s PGN_REQUEST = true → busTalks s = true → s.bus.addr ≠ 254 →
          ∃ u, exec (.busRequestRx f) s = .next u ∧ u.bus.tx.length = s.bus.tx.length + 1 ∧ Posts s 0x8210 message u ∧
            ApartPort { u with bus := s.bus } s) ∧
        (leNat f.data ≠ PGN_CLAIM → rxPgn s (leNat f.data) = false → rxPgn s PGN_REQUEST = false → busTalks s = true → s.bus.addr ≠ 254 →
          ∃ u t, exec (.busRequestRx f) s = .next u ∧ u.bus = { heard with tx := s.bus.tx ++ [t] } ∧
            t.frame.id = canId 6 PGN_ACK 255 s.bus.addr ∧ t.frame.data.head? = some 1 ∧ { u with bus := s.bus } = s)) ∧
      (knownPgn (framePgn f) = false → framePgn f ≠ PGN_COMMANDED → forMe f s = true →
        (rxPgn s (framePgn f) = true → ∃ u, exec (.busFrameRx f) s = .next u ∧ u.bus = heard ∧ Posts s 0x8210 message u ∧
          ApartPort { u with bus := s.bus } s) ∧
        (rxPgn s (framePgn f) = false → exec (.busFrameRx f) s = .next { s with bus := heard })) ∧
      (framePgn f = PGN_PROP_A → toMe f s = true → f.data.take 2 ≠ [0xB1, 0x01] → rxPgn s PGN_PROP_A = false →
        (par s (busId 5) = 1 → ∃ u, exec (.proprietaryARx f) s = .next u ∧ u.bus = heard ∧ Posts s 0x8210 message u ∧
          ApartPort { u with bus := s.bus } s) ∧
        (par s (busId 5) = 0 → exec (.proprietaryARx f) s = .next { s with bus := heard })) ∧
      (framePgn f = PGN_CLAIM → f.data.length = 8 → frameSrc f = s.bus.addr → s.bus.addr < 254 → busTalks s = true →
        (rxPgn s PGN_CLAIM = true → (busName s).toNat ≤ leNat f.data → ∃ u, exec (.addressClaimRx f) s = .next u ∧ u.bus.addr = s.bus.addr ∧
          u.bus.tx.length = s.bus.tx.length + 1 ∧ Posts s 0x8210 message u ∧ ApartPort { u with bus := s.bus } s) ∧
        (leNat f.data < (busName s).toNat → (busName s).getLsbD 63 = false → rxPgn s PGN_CLAIM = false → ∃ u, exec (.addressClaimRx f) s = .next u ∧ u.bus.addr = 254 ∧
          u.bus.state = 3 ∧ u.bus.tx.length = (s.bus.tx.filter fun t => isClaimFrame t.frame).length + 1 ∧
          u.bus.sess = (s.bus.sess.filter fun x => !x.send && x.bam) ∧ (∀ t ∈ s.bus.tx, ∀ r, t.ref = some r → findHeld u r.1 r.2 = none) ∧
          (∀ x ∈ s.bus.sess, ∀ r, x.ref = some r → findHeld u r.1 r.2 = none) ∧ Posts s 0x8211 [254, 2] u ∧ ApartLink { u with bus := s.bus } s) ∧
        (leNat f.data < (busName s).toNat → (busName s).getLsbD 63 = true → (∃ k, k < 120 ∧ 128 + k ∉ s.bus.seen ∧ 128 + k ≠ s.bus.addr) →
          ∃ u, exec (.addressClaimRx f) s = .next u ∧ 128 ≤ u.bus.addr ∧ u.bus.addr ≤ 247 ∧ u.bus.addr ∉ s.bus.seen ∧ u.bus.addr ≠ s.bus.addr ∧
            u.bus.state = 1 ∧ u.bus.claimClk = some s.clk) ∧
        ((busName s).toNat ≤ leNat f.data → ∃ u, exec (.addressClaimRx f) s = .next u ∧ u.bus.addr = s.bus.addr ∧ u.bus.state = s.bus.state ∧
          u.bus.tx.length = s.bus.tx.length + 1 ∧ (rxPgn s PGN_CLAIM = false → { u with bus := s.bus } = s))) ∧
      (∀ (name : Dword) (addr : Nat), busTalks s = true → par s (busId 4) = 1 → name = busName s → name ≠ 0 → addr < 254 →
        ∃ u, exec (.commandedAddressRx name addr) s = .next u ∧ u.bus.addr = addr ∧ u.bus.state = 1 ∧ u.bus.claimClk = some s.clk ∧
          ApartLink { u with bus := s.bus } s) ∧
      (framePgn f = PGN_TP_CM → f.data.length = 8 → toMe f s = true →
        let total := byteAt f.data 1 + 256 * byteAt f.data 2
        let pgn := leNat (f.data.drop 5)
        (byteAt f.data 0 = 16 → byteAt f.data 3 = tpPackets total → 9 ≤ total → total ≤ 1785 → s.bus.sess = [] →
          (total ≤ rxLimit s pgn true → ∃ u, exec (.tpFrameRx f) s = .next u ∧ { u with bus := s.bus } = s ∧
            u.bus.sess.map (fun x => (x.peer, x.pgn, x.total, x.send)) = [(frameSrc f, pgn, total, false)] ∧
            u.bus.tx.map (fun t => t.frame.data.headD 0) = s.bus.tx.map (fun t => t.frame.data.headD 0) ++ [17]) ∧
          (rxLimit s pgn true < total → ∃ u, exec (.tpFrameRx f) s = .next u ∧ { u with bus := s.bus } = s ∧ u.bus.sess = [] ∧
            u.bus.rxDropped = s.bus.rxDropped + 1 ∧
            u.bus.tx.map (fun t => t.frame.data.take 2) = s.bus.tx.map (fun t => t.frame.data.take 2) ++ [[255, 2]])) ∧
        (∀ x : BusSess, txSess s false (frameSrc f) pgn = some x → s.bus.sess = [x] → ∀ r, x.ref = some r →
          (byteAt f.data 0 = 19 → ∃ u, exec (.tpFrameRx f) s = .next u ∧ u.bus.sess = [] ∧ findHeld u r.1 r.2 = none ∧ ApartPort { u with bus := s.bus } s) ∧
          (byteAt f.data 0 = 255 → ∃ u, exec (.tpFrameRx f) s = .next u ∧ u.bus.sess = [] ∧ u.bus.tpAborts = s.bus.tpAborts + 1 ∧
            findHeld u r.1 r.2 = none ∧ ApartPort { u with bus := s.bus } s))))

/-- BUS_OFF_ENTRY, BUS_OFF_RECOVERY, CLAIM_HOLDOFF_EXPIRY, CAN_FRAME_SENT, BAM_FRAME_TIMER and TP_TIMEOUT complete. Bus-off of a running
device ends every send with ST_BUS_OFF, is counted and posts BUS_OFF; recovery clears the error counters, posts BUS_OFF and starts the
controller anew. A claim not contested for 250 ms makes the address claimed. A frame sent leaves the queue and is counted, and completes the
send it is the last of. The next BAM data frame follows 50 ms later, the last one ending the session. A session timed out is aborted with
reason 3 where it is a connection, a send of the device completing with ST_BUS_ABORTED, counted. -/
def Obligations.BusTimersAndErrors : Prop :=
  (∀ s : State, isRunning s = true → s.bus.off = false → ∃ u, exec .busOffEntry s = .next u ∧
    u.bus = { s.bus with off := true, state := 6, busoffCount := s.bus.busoffCount + 1, txErr := 256, claimClk := none, tx := [], sess := [] } ∧
    (∀ t ∈ s.bus.tx, ∀ r, t.ref = some r → findHeld u r.1 r.2 = none) ∧ (∀ x ∈ s.bus.sess, ∀ r, x.ref = some r → findHeld u r.1 r.2 = none) ∧
    (firstPost s 3 = none → s.port.evtQ.length < 256 → u.port.evtQ.map (fun e => (e.code, e.payload)) =
      s.port.evtQ.map (fun e => (e.code, e.payload)) ++ [(0x8212, [1])]) ∧ ApartPort { u with bus := s.bus } s) ∧
  (∀ s : State, isRunning s = true → s.bus.off = true → ∃ u, exec .busOffRecovery s = .next u ∧ u.bus.off = false ∧ u.bus.txErr = 0 ∧ u.bus.rxErr = 0 ∧
    (s.twin.role ≠ 2 → s.twin.deciding = false → busMode s = 0 → busName s ≠ 0 → par s (busId 3) ≠ 254 → u.bus.state = 1 ∧ u.bus.addr = par s (busId 3) ∧
      u.bus.claimClk = some s.clk ∧ u.bus.tx.length = s.bus.tx.length + 1) ∧
    (busMode s = 1 → s.twin.role ≠ 2 → s.twin.deciding = false → u.bus.state = 4) ∧
    (s.bus.addr = par s (busId 3) → Posts s 0x8212 [0] u) ∧ ApartLink { u with bus := s.bus } s) ∧
  (∀ (s : State) (t : Nat), isRunning s = true → s.bus.state = 1 → s.bus.claimClk = some t → ∃ u, exec .claimHoldoffExpiry s = .next u ∧
    u.clk = max s.clk (t + clkMs 250) ∧ u.bus = { s.bus with state := 2, claimClk := none } ∧ { u with clk := s.clk, tb := s.tb, fresh := s.fresh, bus := s.bus } = s) ∧
  (∀ (s : State) (t : BusTx) (rest : List BusTx), s.bus.tx = t :: rest → sendable s t = true → ∃ u, exec .canFrameSent s = .next u ∧
    u.bus = { s.bus with tx := rest, txFrames := s.bus.txFrames + 1 } ∧ ApartPort { u with bus := s.bus } s ∧
    (∀ h : Held, t.last = true → t.ref = some (h.ring, h.idx) → findHeld s h.ring h.idx = some h →
      (getRing s h.ring).base + 32 * h.idx + 32 ≤ windowBytes → Mem.wf s.win = true → findHeld u h.ring h.idx = none ∧
      winWord u ((getRing s h.ring).base + 32 * h.idx + 28) = 0) ∧
    (t.ref = none ∨ t.last = false → u.port = s.port ∧ u.win = s.win)) ∧
  (∀ (s : State) (x : BusSess), (s.bus.sess.find? fun y => y.stage == 4) = some x → busTalks s = true →
    (x.next < tpPackets x.total → s.bus.sess = [x] → ∃ u, exec .bamFrameTimer s = .next u ∧ u.clk = max s.clk x.deadline ∧
      u.bus.sess = [{ x with next := x.next + 1, deadline := u.clk + clkMs 50 }] ∧
      u.bus.tx.map (fun t => t.frame.data) = s.bus.tx.map (fun t => t.frame.data) ++ [dataFrame x x.next x.next] ∧
      { u with clk := s.clk, tb := s.tb, fresh := s.fresh, bus := s.bus } = s) ∧
    (tpPackets x.total ≤ x.next → s.bus.sess = [x] → ∃ u, exec .bamFrameTimer s = .next u ∧ u.bus.sess = [] ∧ u.clk = max s.clk x.deadline ∧
      (u.bus.tx.getLast?.any fun t => t.last && t.ref == x.ref) = true ∧ { u with clk := s.clk, tb := s.tb, fresh := s.fresh, bus := s.bus } = s)) ∧
  ∀ (s : State) (x : BusSess), s.bus.sess = [x] → x.stage ≠ 4 → x.stage ≠ 5 → isRunning s = true →
    ∃ u, exec (.tpTimeout x.id) s = .next u ∧ u.clk = max s.clk x.deadline ∧ u.bus.sess = [] ∧
      u.bus.tx.map (fun t => t.frame.data.take 2) = s.bus.tx.map (fun t => t.frame.data.take 2) ++ (if x.bam then [] else [[255, 3]]) ∧
      u.bus.tpAborts = s.bus.tpAborts + (if x.send then 1 else 0) ∧
      (∀ r, x.send = true → x.ref = some r → findHeld u r.1 r.2 = none) ∧ ApartPort { u with clk := s.clk, tb := s.tb, bus := s.bus } s

/-- PATROL_HOURLY_CHECK, ELAPSED_TIME_SAVE, MAINT_ACTIVITY_END, ENGINE_JOB_COMPLETE, FLASH_WRITE_COMPLETE and VENDOR_PROVISIONING complete.
In a running device the hourly check is dated and queues a patrol that is due, posted as 0x8401, which runs at once where nothing else does;
the daily save writes elapsed and operating seconds. A patrol, a compaction and a calibration sweep with no line left end with ST_OK and
event 0x8050, their counts up, the token free. A job with parts left saves its context, has one part fewer, and runs on from it, in the
prepare phase of a sleep entry too; a hash job's end writes the digest and completes its descriptor. A counter write that is done moves its
mark, gives the counter its value and completes its descriptor, and a patrol's or a key's frees the queue, the key's mark moved. A vendor
record that Brixqua signed takes a BLANK device to PROVISIONED through a reset with HUK, DEV_ID and image key installed; a FAILED device
draws nothing and stays as it is. -/
def Obligations.MaintenanceTimeAndJobs : Prop :=
  (∀ s : State, isRunning s = true → s.dev.bootClk ≤ s.clk →
    (patrolCause (advanceToElapsed (s.mnt.checkS + 3600) s) = none → ∃ u, exec .patrolHourlyCheck s = .next u ∧ u.mnt = { s.mnt with checkS := elapsedNow u } ∧
      s.mnt.checkS + 3600 ≤ elapsedNow u ∧ { u with clk := s.clk, tb := s.tb, fresh := s.fresh, mnt := s.mnt, pwr := s.pwr } = s) ∧
    (∀ c : Nat, patrolCause (advanceToElapsed (s.mnt.checkS + 3600) s) = some c → patrolOverdue (advanceToElapsed (s.mnt.checkS + 3600) s) = false →
      s.mnt.running = 0 → s.mnt.queue = [] → s.dev.mode = .run → ∃ u, exec .patrolHourlyCheck s = .next u ∧ u.mnt.running = 1 ∧
        u.mnt.deviceStarted = s.mnt.deviceStarted + 1 ∧ u.mnt.checkS = elapsedNow u ∧ Posts s 0x8401 (payload [c]) u ∧
        ApartPort { u with clk := s.clk, tb := s.tb, mnt := s.mnt, pwr := s.pwr } s) ∧
    (∃ u, exec .elapsedTimeSave s = .next u ∧ u.nv = { s.nv with elapsedS := elapsedNow u, opS := opNow u } ∧ u.mnt = { s.mnt with saveS := elapsedNow u } ∧
      s.mnt.saveS + 86400 ≤ elapsedNow u ∧ 
      { u with clk := s.clk, tb := s.tb, fresh := s.fresh, nv := s.nv, mnt := s.mnt, pwr := s.pwr } = s) ∧
    (∀ r : PatrolResult, s.mnt.queue = [] → s.twin.role = 0 →
      (s.mnt.running = 1 → r.sectors ≤ r.pagesRewritten → r.pagesRewritten - r.sectors ≤ s.nv.spareLeft → ∃ u, exec (.maintActivityEnd r) s = .next u ∧
        u.mnt.running = 0 ∧ u.mnt.lastActivity = 1 ∧ u.mnt.lastStatus = ST_OK ∧ u.nv.patrolRuns = s.nv.patrolRuns + 1 ∧ u.nv.patrolLastS = elapsedNow s ∧
        u.nv.spareLeft = s.nv.spareLeft - (r.pagesRewritten - r.sectors) ∧ (∀ x ∈ u.port.held, x.kind ≠ .maint 1) ∧
        ApartPort { u with nv := s.nv, mnt := s.mnt } s) ∧
      (s.mnt.running = 2 → s.mnt.sweepLeft = [] → s.sched.blocks = [] → ∃ u, exec (.maintActivityEnd r) s = .next u ∧ u.mnt.running = 0 ∧
        u.mnt.calRuns = s.mnt.calRuns + 1 ∧ u.mnt.lastActivity = 2 ∧ (∀ x ∈ u.port.held, x.kind ≠ .maint 2) ∧ ApartPort { u with mnt := s.mnt } s) ∧
      (s.mnt.running = 4 → ∃ u, exec (.maintActivityEnd r) s = .next u ∧ u.mnt.running = 0 ∧ u.mnt.compactRuns = s.mnt.compactRuns + 1 ∧
        u.mnt.lastActivity = 4 ∧ (∀ e ∈ u.roster.entries, e ∈ s.roster.entries) ∧ (∀ x ∈ u.port.held, x.kind ≠ .maint 4)))) ∧
  (∀ (s : State) (j : Job), s.sec.jobs = [j] → j.running = true → isRunning s = true →
    (∀ key : List Byte, 1 < j.parts → EnginesUnawaited s → s.dev.mode = .run ∨ s.dev.mode = .prepare → jobMayRun (savePart j s) j.pk = true →
      (((findJob (savePart j s) j.id).map fun x => restoreJob (savePart j s) x s.sec.saveSerial).bind Except.toOption) = some key →
      ∃ u, exec (.engineJobComplete j.id) s = .next u ∧ u.sec.saveSerial = s.sec.saveSerial + 1 ∧
        u.sec.jobs = [{ j with parts := j.parts - 1, past := j.past + 1, running := true, key := key, serial := none, ctx := [] }] ∧
        { u with sec := s.sec } = s) ∧
    (∀ h : Held, j.parts ≤ 1 → j.opcode = 0x0B0F → j.ring ≠ 255 → HeldAt s h → h.ring = j.ring → h.idx = j.idx →
      EnginesUnawaited s → h.a0.toNat + 48 ≤ windowBytes →
      h.a0.toNat + 48 ≤ (getRing s h.ring).base + 32 * h.idx ∨ (getRing s h.ring).base + 32 * h.idx + 32 ≤ h.a0.toNat →
      ∃ u, exec (.engineJobComplete j.id) s = .next u ∧ u.sec.jobs = [] ∧ Completed s h ST_OK 0 0 u ∧
        winRead u h.a0.toNat 48 = sha384 (bufBytes h s) ∧ ApartPort { u with sec := s.sec } s)) ∧
  (∀ (s : State) (f : FlashWork) (rest : List FlashWork), s.sec.flash = f :: rest →
    (∀ (n : Nat) (v : Word) (h : Held), f = .counter n v h.ring h.idx → HeldAt s h → ∃ u, exec .flashWriteComplete s = .next u ∧
      u.sec = { s.sec with flash := rest, live := Cells.putD s.sec.live n v 0 } ∧ Completed s h ST_OK v 0 u ∧ (counterMark s n ≤ v → markFor v.toNat ≠ 0 → counterMark u n = markFor v.toNat) ∧
      ApartPort { u with sec := s.sec, nv := s.nv } s) ∧
    (f = .patrol → exec .flashWriteComplete s = .next { s with sec := { s.sec with flash := rest } }) ∧
    (∀ k : Nat, f = .dlMark k → k < 32 → s.nv.keyTab.length = 32 → s.twin.role = 0 → s.twin.pairing = none → EnginesUnawaited s → ∃ u, exec .flashWriteComplete s = .next u ∧
      (getKeyNv u k).dlMark = BitVec.ofNat 32 (min ((getKey s k).dlCtr.toNat + 256) 0xFFFFFFFF) ∧ u.sec.flash = rest ∧
      (∀ i, i ≠ k → getKeyNv u i = getKeyNv s i) ∧ { u with sec := s.sec, nv := s.nv } = s)) ∧
  ∀ (s : State) (cert key sig : List Byte), (s.dev.failed = true → exec (.vendorProvisioning cert key sig) s = .next s) ∧
    (isRunning s = true → s.nv.lifecycle = lcBlank → key.length = 32 → cert.length ≤ 1696 →
    signedByRoot (brixquaHash s) (provisioningDigest cert key) sig = true → Mem.wf s.nv.otp = true →
    ∃ t, exec (.vendorProvisioning cert key sig) s = .next t ∧ Restarted s 16 t ∧ t.nv.lifecycle = lcProvisioned ∧
      t.nv.slots.any (fun r => r.1 == 0) = true ∧ t.nv.slots.any (fun r => r.1 == 1) = true ∧
      (otpRead s 0x160 cert.length = zeros cert.length → otpRead t 0x160 cert.length = cert) ∧
      (otpRead s 0x60 32 = zeros 32 → otpRead t 0x60 32 = drawBytes 32 s) ∧ t.nv.keyTab = s.nv.keyTab)

/-- Each of these descriptors, accepted, completes: SYS_XPM_READ, SYS_XPM_WRITE, SYS_BUS_SEND, SYS_BUS_CLAIM, PARAM_GET, PARAM_GET_MANY,
PARAM_SET, PARAM_SET_MANY and PARAM_SAVE. SYS_XPM_READ answers the committed blocks, SYS_XPM_WRITE stages its blocks in a field session
while there is room and else writes them, held until the last is through; SYS_BUS_SEND of up to 8 bytes queues one frame and longer ones
open a session, held, a frame of mode 2 goes out as it is given, and refuses a device that is bus-off or has no address; SYS_BUS_CLAIM in
mode 1 declares NAME and address. PARAM_GET and PARAM_GET_MANY answer live values, a radio in SLEEP being woken for its own; a PARAM_SET in
range becomes live, or staged where its line or route is in use, one out of range changes no parameter; PARAM_SET_MANY stops at its first
failure; PARAM_SAVE stores every read-write item under the next nonce, and with none left nothing. -/
def Obligations.SystemAndParameterCommands : Prop :=
  ∀ (s : State) (r : Nat),
    (AcceptedBuf s r 0x0002 → (headHeld s r).a1 ≠ 0 → 4 * (headHeld s r).a1.toNat ≤ (headHeld s r).len →
      (headHeld s r).a0.toNat + (headHeld s r).a1.toNat ≤ 512 → ∃ u, exec (.sysXpmRead r) s = .next (settle u) ∧ ApartPort u s ∧
        Answered s r ST_OK 0 0 0 (wordsBytes ((List.range (headHeld s r).a1.toNat).map fun k => islBlock s ((headHeld s r).a0.toNat + k))) u) ∧
    (AcceptedBuf s r 0x0003 → (headHeld s r).a1 ≠ 0 → 4 * (headHeld s r).a1.toNat ≤ (headHeld s r).len →
      (headHeld s r).a0.toNat + (headHeld s r).a1.toNat ≤ 512 →
      (∀ k, k < (headHeld s r).a1.toNat → hostMayWrite ((headHeld s r).a0.toNat + k) = true) →
      (s.isl.session = true → hostStaged s + (headHeld s r).a1.toNat ≤ 128 → ∃ u, exec (.sysXpmWrite r) s = .next (settle u) ∧
        Answered s r ST_QUEUED 0 0 0 [] u ∧ u.isl = { s.isl with staged := s.isl.staged ++ xpmBlocks (headHeld s r) s } ∧ ApartPort { u with isl := s.isl } s) ∧
      (s.isl.session = true → 128 < hostStaged s + (headHeld s r).a1.toNat → ∃ u, exec (.sysXpmWrite r) s = .next (settle u) ∧
        Answered s r ST_XPM_FULL 0 0 0 [] u ∧ ApartPort u s) ∧
      (s.isl.session = false → (committing s = true ∨ s.isl.applying = true) → ∃ u, exec (.sysXpmWrite r) s = .next (settle u) ∧ Holds s r .xpm u ∧
        u.isl = { s.isl with writing := s.isl.writing ++ xpmBlocks (headHeld s r) s } ∧ ApartPort { u with isl := s.isl } s) ∧
      (s.isl.session = false → s.isl.writing = [] → committing s = false → s.isl.applying = false → ∃ u, exec (.sysXpmWrite r) s = .next (settle u) ∧
        islBlock u (headHeld s r).a0.toNat = winWord s (headHeld s r).buf ∧ u.isl.writing = (xpmBlocks (headHeld s r) s).drop 1 ∧
        committing u = true ∧ (1 < (headHeld s r).a1.toNat → Holds s r .xpm u) ∧
        ((headHeld s r).a1 = 1 → Completed s (headHeld s r) ST_OK 0 0 u) ∧ ApartPort { u with isl := s.isl } s)) ∧
    (AcceptedBuf s r 0x0004 → busMode s = 0 → s.bus.off = false → busTalks s = true →
      ¬(busPgn (headHeld s r) / 256 = PGN_PROP_A / 256 ∧ (winRead s (headHeld s r).buf (headHeld s r).len).take 2 = [0xB1, 0x01]) →
      ((headHeld s r).len ≤ 8 → s.bus.addr ≠ 254 → ∃ u t, exec (.sysBusSend r) s = .next (settle u) ∧ Holds s r .busSend u ∧
        u.bus = { s.bus with tx := s.bus.tx ++ [t] } ∧ t.frame.data = winRead s (headHeld s r).buf (headHeld s r).len ∧ t.last = true ∧
        t.ref = some (r, (getRing s r).take) ∧ ApartPort { u with bus := s.bus } s ∧
        t.frame.id = canId (busPrio (headHeld s r)) (busPgn (headHeld s r)) (busDest (headHeld s r)) s.bus.addr) ∧
      (8 < (headHeld s r).len → (headHeld s r).len ≤ 1785 → s.bus.addr ≠ 254 → s.bus.sess = [] → ∃ u x, exec (.sysBusSend r) s = .next (settle u) ∧
        Holds s r .busSend u ∧ u.bus.sess = [x] ∧ x.total = (headHeld s r).len ∧ x.bam = (busDest (headHeld s r) == 255) ∧
        x.stage = (if busDest (headHeld s r) = 255 then 4 else 0) ∧ u.bus.tx.length = s.bus.tx.length + 1 ∧ ApartPort { u with bus := s.bus } s) ∧
      (s.bus.addr = 254 → (headHeld s r).len ≤ 1785 → ∃ u, exec (.sysBusSend r) s = .next (settle u) ∧ Answered s r ST_BUS_NO_ADDRESS 0 0 0 [] u ∧
        ApartPort u s)) ∧
    (AcceptedBuf s r 0x0004 → busMode s = 2 → s.bus.off = false → busTalks s = true → busLength 2 0 (headHeld s r).len = true →
      ∃ u t, exec (.sysBusSend r) s = .next (settle u) ∧ Holds s r .busSend u ∧ u.bus = { s.bus with tx := s.bus.tx ++ [t] } ∧
        t.frame = { id := (headHeld s r).a0.toNat % (if (headHeld s r).a0.getLsbD 31 then 2 ^ 29 else 2 ^ 11), ext := (headHeld s r).a0.getLsbD 31, fd := true
                    brs := (headHeld s r).a1.getLsbD 0, data := winRead s (headHeld s r).buf (headHeld s r).len } ∧
        t.last = true ∧ t.ref = some (r, (getRing s r).take) ∧ ApartPort { u with bus := s.bus } s) ∧
    (Accepted s r 0x0005 [] → busMode s = 1 → (headHeld s r).a2.toNat ≤ 253 → s.twin.role ≠ 1 → s.twin.pairing = none → ∃ u, exec (.sysBusClaim r) s = .next (settle u) ∧
      Completed s (headHeld s r) ST_OK (BitVec.ofNat 32 (headHeld s r).a2.toNat) 0 u ∧ u.bus.addr = (headHeld s r).a2.toNat ∧
      u.bus.sessionName = some (BitVec.ofNat 64 ((headHeld s r).a1.toNat * 2 ^ 32 + (headHeld s r).a0.toNat)) ∧ u.bus.tx = s.bus.tx ∧
      ApartPort { u with bus := s.bus } s) ∧
    (Accepted s r 0x0101 [] → let t := addressParam (headHeld s r).a0.toNat s
      ∃ u, exec (.paramGet r) s = .next (settle u) ∧ ApartPort u t ∧
      (∀ v, paramRead t (headHeld s r).a0.toNat = some v → Answered s r ST_OK v 0 0 [] u) ∧
      (paramRead t (headHeld s r).a0.toNat = none → Answered s r ST_PARAM_UNKNOWN 0 0 0 [] u)) ∧
    (AcceptedBuf s r 0x0103 → (headHeld s r).a1 ≠ 0 → (headHeld s r).a1.toNat ≤ 2048 → (headHeld s r).a0.toNat + (headHeld s r).a1.toNat ≤ 0x10000 →
      4 * (headHeld s r).a1.toNat ≤ (headHeld s r).len →
      let t := if (List.range (headHeld s r).a1.toNat).any (fun k => ((headHeld s r).a0.toNat + k) / 2048 == 15) then wakeRadio s else s
      ∃ u, exec (.paramGetMany r) s = .next (settle u) ∧ ApartPort u t ∧
        Answered s r ST_OK 0 0 0 (wordsBytes ((List.range (headHeld s r).a1.toNat).map fun k => (paramRead t ((headHeld s r).a0.toNat + k)).getD 0)) u) ∧
    (Accepted s r 0x0102 [] → s.twin.role ≠ 1 → s.twin.pairing = none → ∃ u, exec (.paramSet r) s = .next (settle u) ∧
      (∀ (lo hi : Int) (x : Word), paramKind (headHeld s r).a0.toNat = .rw lo hi x →
        (inRange lo hi (headHeld s r).a1 = true → itemAllowed s (headHeld s r).a0.toNat (headHeld s r).a1.toNat = true →
          (headHeld s r).a0.toNat < 0xA000 →
          (mustStage s (headHeld s r).a0.toNat = false → liveParam u (headHeld s r).a0.toNat = (headHeld s r).a1 ∧
            Completed s (headHeld s r) ST_OK (headHeld s r).a1 0 u ∧
            ∀ j, j ≠ (headHeld s r).a0.toNat → j ≠ radioId 1 → liveParam u j = liveParam s j) ∧
          (mustStage s (headHeld s r).a0.toNat = true → Cells.find? u.staged (headHeld s r).a0.toNat = some (headHeld s r).a1 ∧ u.par = s.par ∧
            Completed s (headHeld s r) ST_OK (liveParam s (headHeld s r).a0.toNat) 0 u)) ∧
        (inRange lo hi (headHeld s r).a1 = false → (headHeld s r).a0.toNat < 0xA000 → u.par = s.par ∧ u.staged = s.staged ∧
          Completed s (headHeld s r) ST_BAD_ARG (liveParam s (headHeld s r).a0.toNat) 0 u)) ∧
      (paramKind (headHeld s r).a0.toNat = .unassigned → u.par = s.par ∧ Completed s (headHeld s r) ST_PARAM_UNKNOWN 0 0 u) ∧
      u.nv = s.nv ∧ (s.radio.queue = [] → u.keys = s.keys) ∧ u.roster = s.roster) ∧
    (AcceptedBuf s r 0x0104 → (headHeld s r).a0 ≠ 0 → (headHeld s r).a0.toNat ≤ 512 → 8 * (headHeld s r).a0.toNat ≤ (headHeld s r).len →
      s.twin.role ≠ 1 → s.twin.pairing = none →
      let pairs := (List.range (headHeld s r).a0.toNat).map fun k =>
        ((winWord s ((headHeld s r).buf + 8 * k)).toNat % 65536, winWord s ((headHeld s r).buf + 8 * k + 4))
      let p := writePairs pairs 0 (takenState s r [headBuf s r])
      ∃ u, exec (.paramSetMany r) s = .next (settle u) ∧ u.par = p.1.par ∧ u.staged = p.1.staged ∧
        Completed s (headHeld s r) p.2.1 (BitVec.ofNat 32 p.2.2) 0 u) ∧
    (Accepted s r 0x0105 [] → nonceLeft s = false → ∃ u, exec (.paramSave r) s = .next (settle u) ∧ Answered s r ST_CTR_EXHAUSTED 0 0 0 [] u ∧
      u.sec = { s.sec with retired := s.sec.retired + 1 } ∧ ApartPort { u with sec := s.sec } s) ∧
    (Accepted s r 0x0105 [] → nonceLeft s = true → s.twin.role ≠ 1 → s.twin.pairing = none → ∃ u, exec (.paramSave r) s = .next (settle u) ∧
      Answered s r ST_OK (BitVec.ofNat 32 savedIds.length) 0 0 [] u ∧
      (∀ id ∈ savedIds, Cells.getD (getArea u s.upd.bank).items id (paramReset id) = savedValue s id) ∧
      getArea u (!s.upd.bank) = getArea s (!s.upd.bank) ∧
      (getArea u s.upd.bank).nonce = nonceHead s ++ [0x30] ∧ u.sec = { s.sec with nonceCtr := s.sec.nonceCtr + 1, engineJobs := s.sec.engineJobs + 1 } ∧
      ApartPort { u with nv := s.nv, sec := s.sec } s)

/-- Each of these descriptors, accepted, completes: RING_SETUP, RING_POST, RING_CANCEL, DIAG_TT_READ, DIAG_CAPTURE, DIAG_SELFTEST,
DIAG_FAULT_LOG, DIAG_ECHO, PWR_SLEEP and PWR_HEAT. RING_SETUP gives an idle ring its base and size, empty, and refuses a bad area, or a ring
that is not idle; RING_POST is held until results or an event come, on RING3 an event that waits is delivered at once, and another mode is
refused; RING_CANCEL completes a held RING_POST, LOCK_REQUEST, SVC_DEMAND, AUTH_KEY, ZONE_FIX or DIAG_CAPTURE of the named ring and leaves
every other, word 4 their count; DIAG_TT_READ, DIAG_FAULT_LOG and PWR_HEAT answer the Timetable, the fault log and the ledger, DIAG_ECHO its
arguments; DIAG_CAPTURE is held for its line; DIAG_SELFTEST waits while a test asked for has its resource busy, and else answers the tests
that failed, of those asked, and then the device enters FAILED with the first; PWR_SLEEP to HALT or STABLED begins an entry, under the items
of that moment. -/
def Obligations.RingAndDiagnosticCommands : Prop :=
  (∀ (s : State) (r : Nat), Accepted s r 0x0201 [] → (headHeld s r).a2 ≠ 0 → s.port.rings.length = 64 →
    let h := headHeld s r
    let g := h.a0.toNat
    (ringSetupBad s g h.a1.toNat h.a2.toNat = true → ∃ u, exec (.ringSetup r) s = .next (settle u) ∧ Answered s r ST_BAD_ARG 0 0 0 [] u ∧ ApartPort u s) ∧
    (ringSetupBad s g h.a1.toNat h.a2.toNat = false → g ≠ r →
      (((getRing s g).take ≠ (getRing s g).tail ∨ ∃ x ∈ s.port.held, x.ring = g) →
        ∃ u, exec (.ringSetup r) s = .next (settle u) ∧ Answered s r ST_RING_BUSY 0 0 0 [] u ∧ ApartPort u s) ∧
      ((getRing s g).take = (getRing s g).tail → (∀ x ∈ s.port.held, x.ring ≠ g) →
        ∃ u, exec (.ringSetup r) s = .next (settle u) ∧ AnsweredWindow s r ST_OK 0 0 0 [] u ∧ findHeld u r h.idx = none ∧ ApartPort u s ∧
          getRing u g = { base := h.a1.toNat, size := h.a2.toNat, tail := 0, take := 0, free := 0, stalled := false } ∧
          ∀ q, q ≠ g → q ≠ r → getRing u q = getRing s q)) ∧
    (ringSetupBad s g h.a1.toNat h.a2.toNat = false → g = r →
      ∃ u, exec (.ringSetup r) s = .next (settle u) ∧ Answered s r ST_RING_BUSY 0 0 0 [] u ∧ ApartPort u s)) ∧
  (∀ s : State, AcceptedBuf s 3 0x0202 ∨ (Accepted s 3 0x0202 [] ∧ (headHeld s 3).len = 0) →
    (s.port.evtQ = [] → ∃ u, exec (.ringPost 3) s = .next (settle u) ∧ Holds s 3 (.post 0) u ∧ ApartPort u s) ∧
    (∀ e q, s.port.evtQ = e :: q →
      let h := headHeld s 3
      let off := headOffset s 3
      let n := min (e.payload.drop 8).length h.len
      ∃ u, exec (.ringPost 3) s = .next (settle u) ∧ u.port.evtQ = q ∧ findHeld u 3 h.idx = none ∧ ApartPort u s ∧
        winWord u off = BitVec.ofNat 32 (h.seq * 65536 + e.code) ∧ winWord u (off + 16) = BitVec.ofNat 32 e.timeUs ∧
        winWord u (off + 20) = BitVec.ofNat 32 (leNat (e.payload.take 4)) ∧ winWord u (off + 24) = BitVec.ofNat 32 (leNat ((e.payload.drop 4).take 4)) ∧
        winWord u (off + 28) = BitVec.ofNat 32 (n * 65536 + if n < (e.payload.drop 8).length then ST_EVT_TRUNCATED else ST_OK) ∧
        winRead u h.buf n = (e.payload.drop 8).take n)) ∧
  (∀ (s : State) (r : Nat), r ≠ 3 → AcceptedBuf s r 0x0202 →
    ((headHeld s r).a0 = 1 ∨ (headHeld s r).a0 = 2 → ∃ u, exec (.ringPost r) s = .next (settle u) ∧ Holds s r (.post (headHeld s r).a0.toNat) u ∧ ApartPort u s) ∧
    (¬((headHeld s r).a0 = 1 ∨ (headHeld s r).a0 = 2) →
      ∃ u, exec (.ringPost r) s = .next (settle u) ∧ Answered s r ST_BAD_ARG 0 0 0 [] u ∧ ApartPort u s)) ∧
  (∀ (s : State) (r : Nat), Accepted s r 0x0203 [] →
    (63 < (headHeld s r).a0.toNat → ∃ u, exec (.ringCancel r) s = .next (settle u) ∧ Answered s r ST_BAD_ARG 0 0 0 [] u ∧ ApartPort u s) ∧
    ((headHeld s r).a0.toNat ≤ 63 → (∀ x ∈ s.port.held, x.ring ≠ (headHeld s r).a0.toNat) →
      ∃ u, exec (.ringCancel r) s = .next (settle u) ∧ Answered s r ST_OK 0 0 0 [] u ∧ ApartPort u s) ∧
    (∀ h : Held, (headHeld s r).a0.toNat ≤ 63 → s.port.held = [h] → h.ring = (headHeld s r).a0.toNat → ¬(h.ring = r ∧ h.idx = (headHeld s r).idx) →
      HeldAt s h → ((getRing s h.ring).base + 32 * h.idx + 32 ≤ headOffset s r ∨ headOffset s r + 32 ≤ (getRing s h.ring).base + 32 * h.idx) →
      ∃ u, exec (.ringCancel r) s = .next (settle u) ∧
        (∀ m, h.kind = .post m → Completed s h ST_CANCELLED 0 h.written u ∧ Completed s (headHeld s r) ST_OK 1 0 u ∧ ApartPort u s) ∧
        (∀ o e, h.kind = .lockRequest o e → Completed s h ST_LOCK_CANCELLED (lockWord s o) 0 u ∧ Completed s (headHeld s r) ST_OK 1 0 u) ∧
        (∀ m k, h.kind = .svcDemand m k → Completed s h ST_CANCELLED 0 0 u ∧ Completed s (headHeld s r) ST_OK 1 0 u ∧
          (∀ v ∈ u.sched.svcs, v.n = m → ∀ x ∈ v.demands, x.own = false → x.uid = none → x.slot ≠ k) ∧ ApartPort { u with sched := s.sched } s) ∧
        (∀ k, h.kind = .authKey k ∨ h.kind = .zoneFix k → Completed s h ST_CANCELLED 0 0 u ∧ Completed s (headHeld s r) ST_OK 1 0 u ∧
          ApartPort { u with sched := s.sched } s) ∧
        (∀ l q n, h.kind = .capture l q n → Completed s h ST_CANCELLED 0 0 u ∧ Completed s (headHeld s r) ST_OK 1 0 u ∧ ApartPort u s) ∧
        (h.kind = .plain ∨ h.kind = .xpm ∨ h.kind = .busSend ∨ h.kind = .sleepEntry ∨ (∃ j, h.kind = .job j) →
          Answered s r ST_OK 0 0 0 [] u ∧ ApartPort u s))) ∧
  (∀ (s : State) (r : Nat), AcceptedBuf s r 0x1001 → (headHeld s r).a2 ≠ 0 →
    let rows := (((timetable s (headHeld s r).a0.toNat).drop (headHeld s r).a1.toNat).take (headHeld s r).a2.toNat).flatMap (ttWords s)
    ((headHeld s r).a0.toNat ≤ 4 → 4 * rows.length ≤ (headHeld s r).len → ∃ u, exec (.diagTtRead r) s = .next (settle u) ∧ ApartPort u s ∧
      Answered s r ST_OK 0 0 0 (wordsBytes rows) u) ∧
    (4 < (headHeld s r).a0.toNat ∨ (headHeld s r).len < 4 * rows.length → ∃ u, exec (.diagTtRead r) s = .next (settle u) ∧ ApartPort u s ∧
      Answered s r ST_BAD_ARG 0 0 0 [] u)) ∧
  (∀ (s : State) (r : Nat), AcceptedBuf s r 0x1002 → (headHeld s r).a1 ≠ 0 →
    let h := headHeld s r
    let bad := 23 < h.a0.toNat % 32 ∨ 3 < h.a0.toNat / 256 % 8 ∨ 16383 < h.a1.toNat ∨ h.len < 4 * ceilDiv h.a1.toNat 3
    (s.dev.failed = true → ∃ u, exec (.diagCapture r) s = .next (settle u) ∧ Answered s r ST_FLT_UNAVAILABLE 0 0 0 [] u ∧ ApartPort u s) ∧
    (s.dev.failed = false → ¬bad → ∃ u, exec (.diagCapture r) s = .next (settle u) ∧
      Holds s r (.capture (h.a0.toNat % 32) (h.a0.toNat / 256 % 8) h.a1.toNat) u ∧ ApartPort u s) ∧
    (s.dev.failed = false → bad → ∃ u, exec (.diagCapture r) s = .next (settle u) ∧ Answered s r ST_BAD_ARG 0 0 0 [] u ∧ ApartPort u s)) ∧
  (∀ (s : State) (r : Nat) (fails : BitVec 12), Accepted s r 0x1003 [] →
    let bad := failedTests s fails &&& BitVec.ofNat 12 (headHeld s r).a0.toNat
    (4096 ≤ (headHeld s r).a0.toNat → ∃ u, exec (.diagSelftest r fails) s = .next (settle u) ∧ Answered s r ST_BAD_ARG 0 0 0 [] u ∧ ApartPort u s) ∧
    let waits := (List.range 12).any fun k => (headHeld s r).a0.getLsbD k && testWaits s k
    ((headHeld s r).a0.toNat < 4096 → waits = true →
      ∃ u, exec (.diagSelftest r fails) s = .next (settle u) ∧ Holds s r (.selftest fails) u ∧ ApartPort u s) ∧
    ((headHeld s r).a0.toNat < 4096 → waits = false → bad = 0 →
      ∃ u, exec (.diagSelftest r fails) s = .next (settle u) ∧ Answered s r ST_OK 0 0 0 [] u ∧ ApartPort u s) ∧
    (∀ k, (headHeld s r).a0.toNat < 4096 → waits = false → k < 12 → bad.getLsbD k = true → (∀ j, j < k → bad.getLsbD j = false) → HostAwake s → s.dev.failed = false →
      s.port.held = [] → ∃ u, exec (.diagSelftest r fails) s = .next (settle u) ∧ EntersFailed s (testFault s k).1 (testFault s k).2 u ∧
        AnsweredWindow s r ST_OK (bad.setWidth 32) 0 0 [] u)) ∧
  (∀ (s : State) (r : Nat), AcceptedBuf s r 0x1004 → 16 * s.nv.log.length ≤ (headHeld s r).len →
    ∃ u, exec (.diagFaultLog r) s = .next (settle u) ∧ ApartPort u s ∧ Answered s r ST_OK 0 0 0 (wordsBytes (s.nv.log.reverse.flatMap logWords)) u) ∧
  (∀ (s : State) (r : Nat), Accepted s r 0x1005 [] → ∃ u, exec (.diagEcho r) s = .next (settle u) ∧ ApartPort u s ∧
    Answered s r ST_OK (headHeld s r).a0 (headHeld s r).a1 (headHeld s r).a2 [] u) ∧
  (∀ (s : State) (r : Nat), Accepted s r 0x0F01 [] →
    ((headHeld s r).a0 = 1 ∨ (headHeld s r).a0 = 2 → ∃ u, exec (.pwrSleep r) s = .next (settle u) ∧ Holds s r .sleepEntry u ∧
      u.dev.mode = .prepare ∧ u.pwr.target = (headHeld s r).a0.toNat ∧ u.pwr.prepareClk = s.clk ∧ u.pwr.latched = 0 ∧
      u.pwr.sleepConf = ((List.range 4).map fun i => par s (pwrId (6 + i))) ∧
      ApartPort { u with dev := s.dev, pwr := s.pwr, twin := s.twin } s) ∧
    (¬((headHeld s r).a0 = 1 ∨ (headHeld s r).a0 = 2) →
      ∃ u, exec (.pwrSleep r) s = .next (settle u) ∧ Answered s r ST_BAD_ARG 0 0 0 [] u ∧ ApartPort u s)) ∧
  ∀ (s : State) (r : Nat), AcceptedBuf s r 0x0F02 → 4 * (heatWords s).length ≤ (headHeld s r).len →
    ∃ u, exec (.pwrHeat r) s = .next (settle u) ∧ ApartPort u s ∧ Answered s r ST_OK 0 0 0 (wordsBytes (heatWords s)) u

/-- Each of these descriptors, accepted, completes: ROUTE_LINE_CLEAR, ROUTE_STATUS, SVC_DEFINE, SVC_UNDEFINE, SVC_DEMAND, ROSTER_ADD,
ROSTER_FIND, ROSTER_GET, ROSTER_SET_OWNER and ROSTER_DELETE. On a device that mirrors to no twin: ROUTE_LINE_CLEAR clears the faults of the
lines asked and answers which had one; ROUTE_STATUS answers the routes' states and the faulted lines; SVC_DEFINE defines a service whose
checks pass, and otherwise answers the check's status; SVC_UNDEFINE ends a defined service, its candidates, demands and held SVC_DEMANDs;
SVC_DEMAND is held and raises its demand; ROSTER_ADD answers the handle of a pinned UID or declares a new pinned entry, and a full roster is
refused; ROSTER_FIND, ROSTER_GET answer what the roster holds; ROSTER_SET_OWNER writes word 7, ROSTER_DELETE frees an entry that no service
names. No other entry, line or service changes; words 0, 1, 3 and 7 of every pinned entry are saved where one changes. -/
def Obligations.RouteServiceAndRosterCommands : Prop :=
  (∀ (s : State) (r : Nat), Accepted s r 0x0301 [] → (headHeld s r).a0 ≠ 0 →
    let m : BitVec 24 := (headHeld s r).a0.truncate 24 &&& faultedLines s
    ∃ u, exec (.routeLineClear r) s = .next (settle u) ∧ Answered s r ST_OK (m.setWidth 32) 0 0 [] u ∧ ApartPort { u with lines := s.lines } s ∧
      ∀ l, (getLine u l).fault = (if m.getLsbD l then 0 else (getLine s l).fault) ∧ { getLine u l with fault := (getLine s l).fault } = getLine s l) ∧
  (∀ (s : State) (r : Nat), Accepted s r 0x0302 [] → ∃ u, exec (.routeStatus r) s = .next (settle u) ∧ ApartPort u s ∧
    Answered s r ST_OK (BitVec.ofNat 32 ((List.range 16).foldr (fun q n => routeState s q + 4 * n) 0)) ((faultedLines s).setWidth 32) 0 [] u) ∧
  (∀ (s : State) (r : Nat), Accepted s r 0x0401 [] → s.twin.role ≠ 1 → s.twin.pairing = none →
    let n := (headHeld s r).a0.toNat
    (255 < n → ∃ u, exec (.svcDefine r) s = .next (settle u) ∧ Answered s r ST_BAD_ARG 0 0 0 [] u ∧ ApartPort u s) ∧
    (n ≤ 255 → defineStatus s n ≠ ST_OK → ∃ u, exec (.svcDefine r) s = .next (settle u) ∧ Answered s r (defineStatus s n) 0 0 0 [] u ∧ ApartPort u s) ∧
    (n ≤ 255 → defineStatus s n = ST_OK → ∃ u v, exec (.svcDefine r) s = .next (settle u) ∧
      Answered s r ST_OK (BitVec.ofNat 32 (entryCount s n)) 0 0 [] u ∧ findSvc u n = some v ∧
      { v with deferrals := 0, drops := 0, crossed := 0 } = freshSvc n ∧
      v.crossed = counts (getSrc s (svcPar s n 3)) ∧ (∀ k, k ≠ n → findSvc u k = findSvc s k) ∧ ApartPort { u with sched := s.sched } s)) ∧
  (∀ (s : State) (r : Nat), Accepted s r 0x0402 [] → s.twin.role ≠ 1 → s.twin.pairing = none →
    let n := (headHeld s r).a0.toNat
    (svcDefined s n = false → ∃ u, exec (.svcUndefine r) s = .next (settle u) ∧ Answered s r ST_BAD_ARG 0 0 0 [] u ∧ ApartPort u s) ∧
    (svcDefined s n = true → (∀ x ∈ s.port.held, ∀ k, x.kind ≠ .svcDemand n k) → ∃ u, exec (.svcUndefine r) s = .next (settle u) ∧
      Answered s r ST_OK 0 0 0 [] u ∧ svcDefined u n = false ∧ (∀ c ∈ u.sched.cands, c.svc ≠ n) ∧ u.sched.blocks = s.sched.blocks ∧
      (∀ k, k ≠ n → findSvc u k = findSvc s k) ∧ ApartPort { u with sched := s.sched } s) ∧
    (∀ (h : Held) (k : Nat), svcDefined s n = true → s.port.held = [h] → h.kind = .svcDemand n k → HeldAt s h → ¬(h.ring = r ∧ h.idx = (headHeld s r).idx) →
      ((getRing s h.ring).base + 32 * h.idx + 32 ≤ headOffset s r ∨ headOffset s r + 32 ≤ (getRing s h.ring).base + 32 * h.idx) →
      ∃ u, exec (.svcUndefine r) s = .next (settle u) ∧ Completed s h ST_CANCELLED 0 0 u ∧ Completed s (headHeld s r) ST_OK 0 0 u ∧
        svcDefined u n = false ∧ ApartPort { u with sched := s.sched } s)) ∧
  (∀ (s : State) (r : Nat), Accepted s r 0x0403 [] →
    let n := (headHeld s r).a0.toNat
    (svcDefined s n = false ∨ demandSlot (svcPar s n 0) (headHeld s r).a1.toNat = none →
      ∃ u, exec (.svcDemand r) s = .next (settle u) ∧ Answered s r ST_BAD_ARG 0 0 0 [] u ∧ ApartPort u s) ∧
    (∀ k, svcDefined s n = true → demandSlot (svcPar s n 0) (headHeld s r).a1.toNat = some k →
      ∃ u v, exec (.svcDemand r) s = .next (settle u) ∧ Holds s r (.svcDemand n k) u ∧ findSvc u n = some v ∧
        (∃ d ∈ v.demands, d.slot = k ∧ d.uid = none ∧ d.own = false) ∧ (∀ j, j ≠ n → findSvc u j = findSvc s j) ∧
        ApartPort { u with sched := s.sched } s)) ∧
  (∀ (s : State) (r : Nat), Accepted s r 0x0501 [] → s.twin.role ≠ 1 → s.twin.pairing = none →
    let uid := uidOf (headHeld s r).a0 (headHeld s r).a1
    (∀ e, findUid s uid = some e → e.pinned = true → ∃ u, exec (.rosterAdd r) s = .next (settle u) ∧
      Answered s r ST_OK (BitVec.ofNat 32 e.handle) 0 0 [] u ∧ ApartPort u s) ∧
    (∀ e, findUid s uid = some e → e.pinned = false → findEntry s e.handle = some e → pinnedCount s < 512 → ∃ u, exec (.rosterAdd r) s = .next (settle u) ∧
      Answered s r ST_OK (BitVec.ofNat 32 e.handle) 0 0 [] u ∧ findEntry u e.handle = some { e with pinned := true } ∧
      u.nv.pinned = (u.roster.entries.filter fun x => x.pinned).map pinnedWords ∧
      (∀ k, k ≠ e.handle → findEntry u k = findEntry s k) ∧ ApartPort { u with roster := s.roster, nv := s.nv } s) ∧
    (findUid s uid = none → pinnedCount s < 512 → firstFree s.roster.entries < 0x1000 → ∃ u, exec (.rosterAdd r) s = .next (settle u) ∧
      Answered s r ST_OK (BitVec.ofNat 32 (firstFree s.roster.entries)) 0 0 [] u ∧
      findEntry u (firstFree s.roster.entries) = some (newEntry (firstFree s.roster.entries) uid DECLARED true) ∧
      u.nv.pinned = (u.roster.entries.filter fun x => x.pinned).map pinnedWords ∧
      (∀ k, k ≠ firstFree s.roster.entries → findEntry u k = findEntry s k) ∧ ApartPort { u with roster := s.roster, nv := s.nv } s) ∧
    (((findUid s uid = none ∧ firstFree s.roster.entries = 0x1000) ∨ (512 ≤ pinnedCount s ∧ ∀ e, findUid s uid = some e → e.pinned = false)) →
      ∃ u, exec (.rosterAdd r) s = .next (settle u) ∧ Answered s r ST_ROSTER_FULL 0 0 0 [] u ∧ ApartPort u s)) ∧
  (∀ (s : State) (r : Nat), Accepted s r 0x0502 [] →
    (∀ e, findUid s (uidOf (headHeld s r).a0 (headHeld s r).a1) = some e → ∃ u, exec (.rosterFind r) s = .next (settle u) ∧ ApartPort u s ∧
      Answered s r ST_OK (BitVec.ofNat 32 e.handle) 0 0 [] u) ∧
    (findUid s (uidOf (headHeld s r).a0 (headHeld s r).a1) = none → ∃ u, exec (.rosterFind r) s = .next (settle u) ∧ ApartPort u s ∧
      Answered s r ST_ROSTER_UNKNOWN 0 0 0 [] u)) ∧
  (∀ (s : State) (r : Nat), AcceptedBuf s r 0x0503 → (headHeld s r).a1 ≠ 0 →
    let first := (headHeld s r).a0.toNat
    let n := min (headHeld s r).a1.toNat (0x1000 - first)
    (first ≤ 0xFFF → 32 * n ≤ (headHeld s r).len → ∃ u, exec (.rosterGet r) s = .next (settle u) ∧ ApartPort u s ∧
      Answered s r ST_OK 0 0 0 (wordsBytes ((List.range n).flatMap fun k => handleWords s (first + k))) u) ∧
    (0xFFF < first ∨ (headHeld s r).len < 32 * n → ∃ u, exec (.rosterGet r) s = .next (settle u) ∧ ApartPort u s ∧
      Answered s r ST_BAD_ARG 0 0 0 [] u)) ∧
  (∀ (s : State) (r : Nat), Accepted s r 0x0504 [] → s.twin.role ≠ 1 → s.twin.pairing = none →
    (∀ e, findEntry s (headHeld s r).a0.toNat = some e → ∃ u, exec (.rosterSetOwner r) s = .next (settle u) ∧ Answered s r ST_OK 0 0 0 [] u ∧
      findEntry u e.handle = some { e with owner := (headHeld s r).a1 } ∧
      (e.pinned = true → u.nv.pinned = (u.roster.entries.filter fun x => x.pinned).map pinnedWords) ∧ (e.pinned = false → u.nv = s.nv) ∧ (∀ k, k ≠ e.handle → findEntry u k = findEntry s k) ∧
      ApartPort { u with roster := s.roster, nv := s.nv } s) ∧
    (findEntry s (headHeld s r).a0.toNat = none →
      ∃ u, exec (.rosterSetOwner r) s = .next (settle u) ∧ Answered s r ST_BAD_ARG 0 0 0 [] u ∧ ApartPort u s)) ∧
  ∀ (s : State) (r : Nat), Accepted s r 0x0505 [] → s.twin.role ≠ 1 → s.twin.pairing = none →
    (∀ e, findEntry s (headHeld s r).a0.toNat = some e → entryNamed s e.handle = false → ∃ u, exec (.rosterDelete r) s = .next (settle u) ∧
      Answered s r ST_OK 0 0 0 [] u ∧ findEntry u e.handle = none ∧
      (e.pinned = true → u.nv.pinned = (u.roster.entries.filter fun x => x.pinned).map pinnedWords) ∧ (e.pinned = false → u.nv = s.nv) ∧ (∀ k, k ≠ e.handle → findEntry u k = findEntry s k) ∧
      ApartPort { u with roster := s.roster, nv := s.nv } s) ∧
    (∀ e, findEntry s (headHeld s r).a0.toNat = some e → entryNamed s e.handle = true →
      ∃ u, exec (.rosterDelete r) s = .next (settle u) ∧ Answered s r ST_ROSTER_BOUND 0 0 0 [] u ∧ ApartPort u s) ∧
    (findEntry s (headHeld s r).a0.toNat = none →
      ∃ u, exec (.rosterDelete r) s = .next (settle u) ∧ Answered s r ST_BAD_ARG 0 0 0 [] u ∧ ApartPort u s)

/-- Each of these descriptors, accepted, completes: AUTH_KEY, AUTH_STATUS, LOCK_REQUEST, LOCK_ENGINE_STOPPED, LOCK_DROP, LOCK_CLEAR,
ZONE_FIX, ZONE_GET, RANGE_DETAIL, RADIO_CAL, RADIO_CW and RADIO_STOP. AUTH_KEY and ZONE_FIX of an ACTIVE key are held and demand IMMO_AUTH
or ZONE_TRACK of every service whose zones fit; AUTH_STATUS, ZONE_GET and RANGE_DETAIL answer what the slot holds. LOCK_REQUEST of an output
RELEASED, in FAULT or disabled is answered at once; otherwise it is held, and with a key that qualifies and no twin the output charges; in
NOTIFY it waits while the conditions hold, under the items of the decision that sent the notice, and is refused with the notice when they do
not. LOCK_ENGINE_STOPPED and LOCK_DROP make the outputs they name LOCKED, word 4 those that pumped, whose drop bits of ILK_EVENTS rise, and
no other. LOCK_CLEAR ends a FAULT where the echo is low. RADIO_CAL and RADIO_CW are held, wake the radio or queue, and start a round and a
carrier; RADIO_STOP ends the carrier in hand. A slot above 31, an output above 3 and a carrier outside its limits are refused. -/
def Obligations.LockZoneAndRadioCommands : Prop :=
  (∀ (s : State) (r : Nat) (zone : Bool), Accepted s r (if zone then 0x0801 else 0x0601) [] →
    let k := (headHeld s r).a0.toNat
    let i := if zone then Instr.zoneFix r else Instr.authKey r
    let type := if zone then ZONE_TRACK else IMMO_AUTH
    (31 < k → ∃ u, exec i s = .next (settle u) ∧ Answered s r ST_BAD_ARG 0 0 0 [] u ∧ ApartPort u s) ∧
    (k ≤ 31 → keyActive s k = false → ∃ u, exec i s = .next (settle u) ∧ Answered s r ST_AUTH_FAIL 0 0 0 [] u ∧ ApartPort u s) ∧
    (k ≤ 31 → keyActive s k = true → ∃ u, exec i s = .next (settle u) ∧ Holds s r (if zone then .zoneFix k else .authKey k) u ∧
      (∀ n ∈ svcsOfType s type, ((getKey s k).zone = 0 ∨ svcPar s n 11 &&& zoneBit (getKey s k).zone ≠ 0) →
        ∃ v, findSvc u n = some v ∧ ∃ d ∈ v.demands, d.slot = k ∧ d.uid = none ∧ d.own = false) ∧ ApartPort { u with sched := s.sched } s)) ∧
  (∀ (s : State) (r : Nat), Accepted s r 0x0602 [] →
    let k := (headHeld s r).a0.toNat
    let q := getKey s k
    (31 < k → ∃ u, exec (.authStatus r) s = .next (settle u) ∧ Answered s r ST_BAD_ARG 0 0 0 [] u ∧ ApartPort u s) ∧
    (k ≤ 31 → ∃ u, exec (.authStatus r) s = .next (settle u) ∧ ApartPort u s ∧
      Answered s r ST_OK (BitVec.ofNat 32 (q.status + 4 * q.zone + 16 * (getKeyNv s k).rights.toNat))
        (BitVec.ofNat 32 (ageMs s q.authClk + 65536 * ageMs s (q.fix.map fun f => f.clk))) q.refused [] u)) ∧
  (∀ (s : State) (r : Nat), Accepted s r 0x0701 [] →
    let o := (headHeld s r).a0.toNat
    (3 < o → ∃ u, exec (.lockRequest r) s = .next (settle u) ∧ Answered s r ST_BAD_ARG 0 0 0 [] u ∧ ApartPort u s) ∧
    (∀ st, o ≤ 3 → ((st = ST_OK ∧ (getLock s o).state = RELEASED) ∨ (st = ST_LOCK_FB_FAULT ∧ (getLock s o).state = FAULT) ∨
        (st = ST_LOCK_DISABLED ∧ (getLock s o).state ≠ RELEASED ∧ (getLock s o).state ≠ FAULT ∧ par s (lockId o 0) = 0)) →
      ∃ u, exec (.lockRequest r) s = .next (settle u) ∧ Answered s r st (lockWord s o) (getLock s o).releases 0 [] u ∧ ApartPort u s) ∧
    (o ≤ 3 → (getLock s o).state = LOCKED ∨ (getLock s o).state = CHARGING → par s (lockId o 0) ≠ 0 → s.port.held = [] →
      ∃ u seen, exec (.lockRequest r) s = .next (settle u) ∧ Holds s r (.lockRequest o seen) u ∧
        ((getLock s o).state = LOCKED → qualifier s o (liveItems s o) = none → seen = 0 ∧ getLock u o = getLock s o) ∧
        ((getLock s o).state = LOCKED → (qualifier s o (liveItems s o)).isSome = true → lockConditions s (liveItems s o) = false →
          seen = 4 ∧ getLock u o = getLock s o) ∧
        (∀ k, (getLock s o).state = LOCKED → qualifier s o (liveItems s o) = some k → lockConditions s (liveItems s o) = true → mayRelease s = true →
          par s (lockId o 0) = 1 → twinStands s = false → (getLock s o).stopClk ≤ s.clk + 32 →
          seen = 0 ∧ (getLock u o).state = CHARGING ∧ (getLock u o).chosen = k ∧ (getLock u o).items = liveItems s o ∧
            ∃ t, (getLock u o).pulseClk = some t ∧ (t % 32 = 0 ∨ t = (getLock s o).stopClk) ∧ s.clk < t ∧ t ≤ s.clk + 32) ∧
        ApartLink { u with locks := s.locks, sched := s.sched } s) ∧
    (o ≤ 3 → (getLock s o).state = NOTIFY → par s (lockId o 0) ≠ 0 → s.port.held = [] →
      let it := (getLock s o).items
      let stands := mayRelease s && par s (lockId o 0) == 1 && (qualifier s o it).isSome && lockConditions s it
      ∃ u, exec (.lockRequest r) s = .next (settle u) ∧ ApartLink { u with locks := s.locks, sched := s.sched } s ∧
        (stands = true → Holds s r (.lockRequest o 0) u ∧ getLock u o = getLock s o) ∧
        (stands = false → (getLock u o).state = LOCKED ∧ Completed s (headHeld s r)
          (if (qualifier s o it).isSome && !lockConditions s it then ST_LOCK_CONDITION else ST_LOCK_NO_KEY)
          (BitVec.ofNat 32 (getLock s o).holder) 0 u))) ∧
  (∀ (s : State) (r : Nat), Accepted s r 0x0702 [] → s.port.held = [] → ∃ u, exec (.lockEngineStopped r) s = .next (settle u) ∧
    Completed s (headHeld s r) ST_OK (BitVec.ofNat 32 (pumpingMask s (engineOutputs s))) 0 u ∧
    (∀ o, (getLock u o).state = if o ∈ engineOutputs s ∧ (pumping s o = true ∨ (getLock s o).state = NOTIFY) then LOCKED else (getLock s o).state) ∧
    (∀ n, u.ilkEvents.getLsbD n = (s.ilkEvents.getLsbD n || (4 ≤ n && (engineOutputs s).contains (n - 4) && pumping s (n - 4)))) ∧
    ApartLink { u with locks := s.locks, ilkEvents := s.ilkEvents } s) ∧
  (∀ (s : State) (r : Nat), Accepted s r 0x0703 [] →
    let os := [1, 2, 3].filter fun o => (headHeld s r).a0.getLsbD o
    ((headHeld s r).a0.getLsbD 0 = true → ∃ u, exec (.lockDrop r) s = .next (settle u) ∧ Answered s r ST_BAD_ARG 0 0 0 [] u ∧ ApartPort u s) ∧
    ((headHeld s r).a0.getLsbD 0 = false → s.port.held = [] → ∃ u, exec (.lockDrop r) s = .next (settle u) ∧
      Completed s (headHeld s r) ST_OK (BitVec.ofNat 32 (pumpingMask s os)) 0 u ∧
      (∀ o, (getLock u o).state = if o ∈ os ∧ (pumping s o = true ∨ (getLock s o).state = NOTIFY) then LOCKED else (getLock s o).state) ∧
      (∀ n, u.ilkEvents.getLsbD n = (s.ilkEvents.getLsbD n || (4 ≤ n && os.contains (n - 4) && pumping s (n - 4)))) ∧
      ApartLink { u with locks := s.locks, ilkEvents := s.ilkEvents } s)) ∧
  (∀ (s : State) (r : Nat) (echoLow : Bool), Accepted s r 0x0704 [] →
    let o := (headHeld s r).a0.toNat
    (3 < o → ∃ u, exec (.lockClear r echoLow) s = .next (settle u) ∧ Answered s r ST_BAD_ARG 0 0 0 [] u ∧ ApartPort u s) ∧
    (o ≤ 3 → (getLock s o).state ≠ FAULT → ∃ u, exec (.lockClear r echoLow) s = .next (settle u) ∧ Answered s r ST_OK 0 0 0 [] u ∧ ApartPort u s) ∧
    (o ≤ 3 → (getLock s o).state = FAULT → echoLow = false →
      ∃ u, exec (.lockClear r echoLow) s = .next (settle u) ∧ Answered s r ST_LOCK_FB_FAULT 0 0 0 [] u ∧ ApartPort u s) ∧
    (o ≤ 3 → (getLock s o).state = FAULT → echoLow = true → s.port.held = [] → ∃ u, exec (.lockClear r echoLow) s = .next (settle u) ∧
      Completed s (headHeld s r) ST_OK 0 0 u ∧ (getLock u o).state ≠ FAULT ∧ (getLock u o).fault = 0 ∧ u.dev.echo.getLsbD o = false ∧
      ApartLink { u with locks := s.locks, sched := s.sched, dev := { u.dev with echo := s.dev.echo } } s)) ∧
  (∀ (s : State) (r : Nat), AcceptedBuf s r 0x0802 →
    let k := (headHeld s r).a0.toNat
    let bs := wordsBytes (((getKey s k).fix.map fun f => f.words).getD [])
    (k ≤ 31 → bs.length ≤ (headHeld s r).len → ∃ u, exec (.zoneGet r) s = .next (settle u) ∧ Answered s r ST_OK 0 0 0 bs u ∧ ApartPort u s) ∧
    (31 < k ∨ (headHeld s r).len < bs.length → ∃ u, exec (.zoneGet r) s = .next (settle u) ∧ Answered s r ST_BAD_ARG 0 0 0 [] u ∧ ApartPort u s)) ∧
  (∀ (s : State) (r : Nat), AcceptedBuf s r 0x0901 →
    let k := (headHeld s r).a0.toNat
    let bs := ((getKey s k).exch.map fun x => wordsBytes (rangeWords k x.1 x.2)).getD []
    (k ≤ 31 → bs.length ≤ (headHeld s r).len → ∃ u, exec (.rangeDetail r) s = .next (settle u) ∧ Answered s r ST_OK 0 0 0 bs u ∧ ApartPort u s) ∧
    (31 < k ∨ (headHeld s r).len < bs.length → ∃ u, exec (.rangeDetail r) s = .next (settle u) ∧ Answered s r ST_BAD_ARG 0 0 0 [] u ∧ ApartPort u s)) ∧
  (∀ (s : State) (r : Nat), Accepted s r 0x0A01 [] →
    (radioSet s = false → ∃ u, exec (.radioCal r) s = .next (settle u) ∧ Answered s r ST_BAD_ARG 0 0 0 [] u ∧ ApartPort u s) ∧
    (radioSet s = true → ∃ u, exec (.radioCal r) s = .next (settle u) ∧ Holds s r .radioCal u ∧ ApartPort { u with radio := s.radio } s ∧
      (s.radio.state ≠ R_SLEEP → s.radio.calRound ≠ 0 → u.radio = s.radio) ∧
      (s.radio.on = true → s.radio.queue = [] → u.radio.state ≠ R_SLEEP) ∧ u.radio.queue = s.radio.queue ∧
      (s.radio.calRound = 0 → u.radio.calRound = 4 ∧ u.radio.calItem = 0 ∧ u.radio.calRunning = true ∧ u.radio.bgClk = s.clk))) ∧
  (∀ (s : State) (r : Nat), Accepted s r 0x0A02 [] →
    let h := headHeld s r
    let serves := s.nv.lifecycle = lcBlank ∨ s.nv.lifecycle = lcProvisioned ∨ debugOpen s = true
    let fits := inRegion s h.a0.toNat = true ∧ h.a2.toNat ≤ 60000
    (h.a2 = 0 → ∃ u, exec (.radioCw r) s = .next (settle u) ∧ Answered s r ST_OK 0 0 0 [] u ∧ ApartPort u s) ∧
    (h.a2 ≠ 0 → ¬serves → ∃ u, exec (.radioCw r) s = .next (settle u) ∧ Answered s r ST_LC_REFUSED 0 0 0 [] u ∧ ApartPort u s) ∧
    (h.a2 ≠ 0 → serves → ¬fits → ∃ u, exec (.radioCw r) s = .next (settle u) ∧ Answered s r ST_BAD_ARG 0 0 0 [] u ∧ ApartPort u s) ∧
    (h.a2 ≠ 0 → serves → fits → ∃ u q, exec (.radioCw r) s = .next (settle u) ∧ Holds s r .radioCw u ∧ ApartPort { u with radio := s.radio } s ∧
      u.radio.queue = s.radio.queue ++ [q] ∧ q.kind = RADIO_CW ∧ q.deadline = s.clk ∧ q.arg = h.a2 ∧ q.khz = h.a0.toNat ∧ q.dbm = h.a1.toInt ∧
      (s.radio.queue = [] → u.radio.state = R_SYNTH ∧ u.radio.paOn = false))) ∧
  ∀ (s : State) (r : Nat), Accepted s r 0x0A03 [] →
    (cwInHand s = false → ∃ u, exec (.radioStop r) s = .next (settle u) ∧ Answered s r ST_OK 0 0 0 [] u ∧ ApartPort u s) ∧
    (∀ h : Held, cwInHand s = true → s.port.held = [h] → h.kind = .radioCw → HeldAt s h → ¬(h.ring = r ∧ h.idx = (headHeld s r).idx) →
      ((getRing s h.ring).base + 32 * h.idx + 32 ≤ headOffset s r ∨ headOffset s r + 32 ≤ (getRing s h.ring).base + 32 * h.idx) →
      ∃ u, exec (.radioStop r) s = .next (settle u) ∧ Completed s h ST_OK 0 0 u ∧ Completed s (headHeld s r) ST_OK 0 0 u ∧
        u.radio.cwEnd = none ∧ u.radio.paOn = false ∧ u.radio.queue.length + 1 = s.radio.queue.length ∧
        ApartPort { u with radio := s.radio, prox := s.prox } s)

/-- Each of these descriptors, accepted, completes or is held: KEY_ENROL, KEY_REVOKE, KEY_LIST, KEY_OEM_ROOT, KEY_OTP_WRITE, KEY_OTP_READ,
KEY_HITCH_ENROL, KEY_DESTROY, KEY_CTR_ADVANCE, KEY_CERT_READ and KEY_LIFECYCLE. On a device that mirrors to no twin: KEY_ENROL that R208
allows, of a key that has just proved itself, makes the slot ACTIVE with its UID and rights or sets its rights, with no master in the way,
and otherwise waits for a proof; KEY_REVOKE makes an ACTIVE key REVOKED and a REVOKED one EMPTY; KEY_LIST, KEY_OTP_READ and KEY_CERT_READ
answer slots, OTP bytes (HUK as 0) and certificate; KEY_OEM_ROOT, once and in PROVISIONED, and KEY_OTP_WRITE of rows that are 0 burn;
KEY_HITCH_ENROL derives slot 5 and the key cell, in one step, or when an open field session closes; KEY_DESTROY empties its slot, in FIELD
with the OEM root's signature; KEY_CTR_ADVANCE moves its counter, which stands while a new mark that is due is written; KEY_LIFECYCLE resets
the device into FIELD or RETURNED. A signature waits for its turn on the public-key engine where that is in use. An enrolment decides the
outputs again, and releases none at once. What is refused changes nothing. -/
def Obligations.KeyTableAndOtpCommands : Prop :=
  (∀ (s : State) (r : Nat), Accepted s r 0x0B01 [] → s.twin.role ≠ 1 → s.twin.pairing = none → WellShaped s →
    let k := (headHeld s r).a0.toNat % 256
    let rights : BitVec 5 := BitVec.ofNat 5 ((headHeld s r).a0.toNat / 256)
    let uid := uidOf (headHeld s r).a1 (headHeld s r).a2
    (∀ st, enrolRefused s k uid = some st → ∃ u, exec (.keyEnrol r) s = .next (settle u) ∧ Answered s r st 0 0 0 [] u ∧ ApartPort u s) ∧
    (enrolRefused s k uid = none → proofFresh s uid = true → masterOk s = false →
      ∃ u, exec (.keyEnrol r) s = .next (settle u) ∧ Answered s r ST_KEY_NEEDS_MASTER 0 0 0 [] u ∧ ApartPort u s) ∧
    (enrolRefused s k uid = none → proofFresh s uid = true → masterOk s = true → s.port.held = [] → ∃ u, exec (.keyEnrol r) s = .next (settle u) ∧
      Completed s (headHeld s r) ST_OK 0 0 u ∧ (getKeyNv u k).state = 1 ∧ (getKeyNv u k).uid = uid ∧ (getKeyNv u k).rights = rights ∧
      (∀ j, j ≠ k → getKeyNv u j = getKeyNv s j ∧ getKey u j = getKey s j) ∧ { u.nv with keyTab := s.nv.keyTab } = s.nv ∧
      (∀ o, o < 4 → (getLock u o).state = RELEASED → (getLock s o).state = RELEASED) ∧
      ApartLink { u with nv := s.nv, keys := s.keys, locks := s.locks, ilkEvents := s.ilkEvents } s ∧
      ((∀ o, o < 4 → (getLock s o).state = LOCKED ∧ par s (lockId o 0) = 0) →
        Answered s r ST_OK 0 0 0 [] u ∧ ApartPort { u with nv := s.nv, keys := s.keys } s)) ∧
    (enrolRefused s k uid = none → proofFresh s uid = false → ∃ u, exec (.keyEnrol r) s = .next (settle u) ∧ Holds s r (.enrol k rights uid) u ∧
      ((getKeyNv s k).state = 0 → ∀ n ∈ svcsOfType s IMMO_AUTH, ∃ v, findSvc u n = some v ∧ ∃ d ∈ v.demands, d.uid = some uid) ∧
      ApartPort { u with sched := s.sched } s)) ∧
  (∀ (s : State) (r : Nat), Accepted s r 0x0B02 [] → s.twin.role ≠ 1 → s.twin.pairing = none → WellShaped s →
    let k := (headHeld s r).a0.toNat
    (32 ≤ k ∨ (getKeyNv s k).state = 0 → ∃ u, exec (.keyRevoke r) s = .next (settle u) ∧ Answered s r ST_BAD_ARG 0 0 0 [] u ∧ ApartPort u s) ∧
    (k < 32 → (getKeyNv s k).state ≠ 0 → mayRevoke s k = false →
      ∃ u, exec (.keyRevoke r) s = .next (settle u) ∧ Answered s r ST_KEY_NEEDS_MASTER 0 0 0 [] u ∧ ApartPort u s) ∧
    (k < 32 → (getKeyNv s k).state = 2 → mayRevoke s k = true → ∃ u, exec (.keyRevoke r) s = .next (settle u) ∧ Answered s r ST_OK 0 0 0 [] u ∧
      getKeyNv u k = KeyNv.empty ∧ (∀ j, j ≠ k → getKeyNv u j = getKeyNv s j) ∧ ApartPort { u with nv := s.nv, keys := s.keys } s) ∧
    (k < 32 → (getKeyNv s k).state ≠ 0 → (getKeyNv s k).state ≠ 2 → mayRevoke s k = true → s.port.held = [] →
      ∃ u, exec (.keyRevoke r) s = .next (settle u) ∧ Completed s (headHeld s r) ST_OK 0 0 u ∧ getKeyNv u k = { getKeyNv s k with state := 2 } ∧
        (∀ j, j ≠ k → getKeyNv u j = getKeyNv s j ∧ getKey u j = getKey s j) ∧ { u.nv with keyTab := s.nv.keyTab } = s.nv ∧ u.par = s.par)) ∧
  (∀ (s : State) (r : Nat), AcceptedBuf s r 0x0B03 →
    let first := (headHeld s r).a0.toNat
    let n := min (headHeld s r).a1.toNat (32 - first)
    ((headHeld s r).a1 = 0 → ∃ u, exec (.keyList r) s = .next (settle u) ∧ Answered s r ST_OK 0 0 0 [] u ∧ ApartPort u s) ∧
    ((headHeld s r).a1 ≠ 0 → first ≤ 31 → 16 * n ≤ (headHeld s r).len → ∃ u, exec (.keyList r) s = .next (settle u) ∧ ApartPort u s ∧
      Answered s r ST_OK 0 0 0 ((List.range n).flatMap fun k => keyListEntry s (first + k)) u) ∧
    ((headHeld s r).a1 ≠ 0 → 31 < first ∨ (headHeld s r).len < 16 * n → ∃ u, exec (.keyList r) s = .next (settle u) ∧ Answered s r ST_BAD_ARG 0 0 0 [] u ∧ ApartPort u s)) ∧
  (∀ (s : State) (r : Nat), AcceptedBuf s r 0x0B04 →
    ((headHeld s r).len < 96 → ∃ u, exec (.keyOemRoot r) s = .next (settle u) ∧ Answered s r ST_BAD_ARG 0 0 0 [] u ∧ ApartPort u s) ∧
    (96 ≤ (headHeld s r).len → s.nv.lifecycle ≠ lcProvisioned ∨ oemRootSet s = true →
      ∃ u, exec (.keyOemRoot r) s = .next (settle u) ∧ Answered s r ST_LC_REFUSED 0 0 0 [] u ∧ ApartPort u s) ∧
    (96 ≤ (headHeld s r).len → s.nv.lifecycle = lcProvisioned → oemRootSet s = false → Mem.wf s.nv.otp = true →
      ∃ u, exec (.keyOemRoot r) s = .next (settle u) ∧ Answered s r ST_OK 0 0 0 [] u ∧ oemHash u = sha384 (winRead s (headHeld s r).buf 96) ∧
        (∀ a, a < 0xB0 ∨ 0xE0 ≤ a → Mem.read u.nv.otp a = Mem.read s.nv.otp a) ∧ { u.nv with otp := s.nv.otp } = s.nv ∧ ApartPort { u with nv := s.nv } s)) ∧
  (∀ (s : State) (r : Nat), AcceptedBuf s r 0x0B05 →
    let h := headHeld s r
    let a := 0x800 + 32 * h.a0.toNat
    let n := 32 * h.a1.toNat
    (h.a1 = 0 → ∃ u, exec (.keyOtpWrite r) s = .next (settle u) ∧ Answered s r ST_OK 0 0 0 [] u ∧ ApartPort u s) ∧
    (h.a1 ≠ 0 → 448 < h.a0.toNat + h.a1.toNat ∨ h.len < n ∨ otpRead s a n ≠ zeros n →
      ∃ u, exec (.keyOtpWrite r) s = .next (settle u) ∧ Answered s r ST_BAD_ARG 0 0 0 [] u ∧ ApartPort u s) ∧
    (h.a1 ≠ 0 → h.a0.toNat + h.a1.toNat ≤ 448 → n ≤ h.len → otpRead s a n = zeros n → Mem.wf s.nv.otp = true →
      ∃ u, exec (.keyOtpWrite r) s = .next (settle u) ∧ Answered s r ST_OK 0 0 0 [] u ∧ otpRead u a n = winRead s h.buf n ∧
        (∀ b, b < a ∨ a + n ≤ b → Mem.read u.nv.otp b = Mem.read s.nv.otp b) ∧ { u.nv with otp := s.nv.otp } = s.nv ∧ ApartPort { u with nv := s.nv } s)) ∧
  (∀ (s : State) (r : Nat), AcceptedBuf s r 0x0B06 →
    let a := (headHeld s r).a0.toNat
    let n := (headHeld s r).len
    (a + n ≤ 0x4000 → (∀ i, i < n → otpReadable (a + i) = true) → ∃ u bs, exec (.keyOtpRead r) s = .next (settle u) ∧ ApartPort u s ∧
      Answered s r ST_OK 0 0 0 bs u ∧ bs.length = n ∧
      ∀ i, i < n → bs.getD i 0 = if 0x60 ≤ a + i ∧ a + i < 0x80 then 0 else Mem.read s.nv.otp (a + i)) ∧
    (0x4000 < a + n ∨ (∃ i, i < n ∧ otpReadable (a + i) = false) →
      ∃ u, exec (.keyOtpRead r) s = .next (settle u) ∧ Answered s r ST_BAD_ARG 0 0 0 [] u ∧ ApartPort u s)) ∧
  (∀ (s : State) (r : Nat), Accepted s r 0x0B0A [] → s.twin.role ≠ 1 → s.twin.pairing = none →
    (readSlot s 4 = .empty → ∃ u, exec (.keyHitchEnrol r) s = .next (settle u) ∧ Answered s r ST_KEY_EMPTY 0 0 0 [] u ∧ ApartPort u s) ∧
    (destroyWaits s 4 = true → ∃ u, exec (.keyHitchEnrol r) s = .next (settle u) ∧ Answered s r ST_KEY_EMPTY 0 0 0 [] u ∧ ApartPort u s) ∧
    (readSlot s 4 = .corrupt → s.port.held = [] → ∃ u, exec (.keyHitchEnrol r) s = .next (settle u) ∧ Completed s (headHeld s r) ST_KEY_CORRUPT 0 0 u ∧
      u.nv = s.nv ∧ u.isl = s.isl) ∧
    (∀ a km, readSlot s 4 = .key a km → destroyWaits s 4 = false → ∃ u, exec (.keyHitchEnrol r) s = .next (settle u) ∧ Answered s r ST_OK 0 0 0 [] u ∧
      (s.isl.session = true → u.nv = s.nv ∧ u.isl = { s.isl with enrolWait := some (0, 2, kdf128 km (ascii "ILK-TAG") (uidBytes s)) }) ∧
      (s.isl.session = false → (slotRecord u 5).isSome = true ∧ (∀ j, j ≠ 5 → slotRecord u j = slotRecord s j) ∧
        u.isl = { s.isl with keyCell := kdf128 km (ascii "ILK-TAG") (uidBytes s) }) ∧ ApartPort { u with nv := s.nv, isl := s.isl } s)) ∧
  (∀ (s : State) (r : Nat), s.twin.role ≠ 1 → s.twin.pairing = none →
    let h := headHeld s r
    let k := h.a0.toNat
    let signed := 96 ≤ h.len ∧ signedByRoot (oemHash s) (rootDigest s "ILK-DESTROY" [BitVec.ofNat 8 k]) (winRead s h.buf 96) = true
    let given := (s.nv.lifecycle ≠ lcField ∧ Accepted s r 0x0B0B []) ∨ (s.nv.lifecycle = lcField ∧ AcceptedBuf s r 0x0B0B)
    (given → importSlot k = false ∨ (s.nv.lifecycle = lcField ∧ h.len < 96) →
      ∃ u, exec (.keyDestroy r) s = .next (settle u) ∧ Answered s r ST_BAD_ARG 0 0 0 [] u ∧ ApartPort u s) ∧
    (given → importSlot k = true → s.nv.lifecycle = lcField → 96 ≤ h.len → pkFree s = false → JobsRun s →
      ∃ u, exec (.keyDestroy r) s = .next (settle u) ∧ Queues s r true 1 255 u ∧ ApartPort { u with sec := s.sec } s) ∧
    (given → importSlot k = true → s.nv.lifecycle = lcField → 96 ≤ h.len → pkFree s = true → ¬signed →
      ∃ u, exec (.keyDestroy r) s = .next (settle u) ∧ Answered s r ST_AUTH_FAIL 0 0 0 [] u ∧ ApartPort u s) ∧
    (given → importSlot k = true → s.nv.lifecycle ≠ lcField ∨ (pkFree s = true ∧ signed) → slotRecord s k = none → slotBusy s k h = false →
      ∃ u, exec (.keyDestroy r) s = .next (settle u) ∧ Answered s r ST_OK 0 0 0 [] u ∧ ApartPort u s) ∧
    (given → importSlot k = true → s.nv.lifecycle ≠ lcField ∨ (pkFree s = true ∧ signed) → slotBusy s k h = true →
      ∃ u, exec (.keyDestroy r) s = .next (settle u) ∧ Holds s r (.destroy k) u ∧ ApartPort u s) ∧
    (given → importSlot k = true → s.nv.lifecycle ≠ lcField ∨ (pkFree s = true ∧ signed) → (slotRecord s k).isSome = true → slotBusy s k h = false →
      ∃ u, exec (.keyDestroy r) s = .next (settle u) ∧ Answered s r ST_OK 0 0 0 [] u ∧ slotRecord u k = none ∧ slotGen u k = slotGen s k + 1 ∧
        (∀ j, j ≠ k → slotRecord u j = slotRecord s j) ∧ ApartPort { u with nv := s.nv } s)) ∧
  (∀ (s : State) (r : Nat), Accepted s r 0x0B12 [] →
    let n := (headHeld s r).a0.toNat
    let step := (headHeld s r).a1.toNat
    let v := (counterReached s n).toNat
    let x : Word := BitVec.ofNat 32 (min (v + step) 0xFFFFFFFF)
    (step = 0 → ∃ u, exec (.keyCtrAdvance r) s = .next (settle u) ∧ Answered s r ST_OK 0 0 0 [] u ∧ ApartPort u s) ∧
    (step ≠ 0 → n < 16 ∨ 63 < n ∨ 256 < step → ∃ u, exec (.keyCtrAdvance r) s = .next (settle u) ∧ Answered s r ST_BAD_ARG 0 0 0 [] u ∧ ApartPort u s) ∧
    (16 ≤ n → n ≤ 63 → step ≠ 0 → step ≤ 256 → v = 0xFFFFFFFF → ∃ u, exec (.keyCtrAdvance r) s = .next (settle u) ∧ Answered s r ST_CTR_EXHAUSTED 0 0 0 [] u ∧
      u.sec = { s.sec with retired := s.sec.retired + 1 } ∧ ApartPort { u with sec := s.sec } s) ∧
    (16 ≤ n → n ≤ 63 → step ≠ 0 → step ≤ 256 → v ≠ 0xFFFFFFFF → x < counterMark s n → ∃ u, exec (.keyCtrAdvance r) s = .next (settle u) ∧
      Answered s r ST_OK x 0 0 [] u ∧ counterLive u n = x ∧ (∀ j, j ≠ n → counterLive u j = counterLive s j) ∧ ApartPort { u with sec := s.sec } s) ∧
    (16 ≤ n → n ≤ 63 → step ≠ 0 → step ≤ 256 → v ≠ 0xFFFFFFFF → ¬x < counterMark s n → ∃ u, exec (.keyCtrAdvance r) s = .next (settle u) ∧ Holds s r .counter u ∧
      u.sec = { s.sec with flash := s.sec.flash ++ [.counter n x r (headHeld s r).idx] } ∧ ApartPort { u with sec := s.sec } s)) ∧
  (∀ (s : State) (r : Nat), AcceptedBuf s r 0x0B14 →
    ((certificate s).length ≤ (headHeld s r).len → ∃ u, exec (.keyCertRead r) s = .next (settle u) ∧ Answered s r ST_OK 0 0 0 (certificate s) u ∧ ApartPort u s) ∧
    ((headHeld s r).len < (certificate s).length → ∃ u, exec (.keyCertRead r) s = .next (settle u) ∧ Answered s r ST_BAD_ARG 0 0 0 [] u ∧ ApartPort u s)) ∧
  ∀ (s : State) (r : Nat), AcceptedBuf s r 0x0B15 →
    let k := (headHeld s r).a0.toNat
    let fits := (k = lcField ∨ k = lcReturned) ∧ 96 ≤ (headHeld s r).len
    (¬fits → ∃ u, exec (.keyLifecycle r) s = .next (settle u) ∧ Answered s r ST_BAD_ARG 0 0 0 [] u ∧ ApartPort u s) ∧
    (fits → pkFree s = false → JobsRun s → ∃ u, exec (.keyLifecycle r) s = .next (settle u) ∧ Queues s r true 1 255 u ∧ ApartPort { u with sec := s.sec } s) ∧
    (fits → pkFree s = true → lifecycleAllowed s k (winRead s (headHeld s r).buf 96) = false →
      ∃ u, exec (.keyLifecycle r) s = .next (settle u) ∧ Answered s r ST_LC_REFUSED 0 0 0 [] u ∧ ApartPort u s) ∧
    (fits → pkFree s = true → lifecycleAllowed s k (winRead s (headHeld s r).buf 96) = true →
      ∃ t, exec (.keyLifecycle r) s = .next t ∧ Restarted s 16 t ∧ t.nv.lifecycle = k ∧ t.nv.intent = none)

/-- Each of these completes: KEY_XPORT_OPEN, KEY_IMPORT, KEY_GENERATE, KEY_CMAC, KEY_CCM_ENC, KEY_CCM_DEC, KEY_SHA, KEY_SIGN, KEY_VERIFY and
KEY_ATTEST. While every earlier job runs, each, accepted and of a form R294 to R303 allow, is held and becomes a job behind the earlier
ones: KEY_XPORT_OPEN and KEY_ATTEST with slot 0's key, KEY_SIGN with its slot's, KEY_IMPORT, KEY_GENERATE, KEY_SHA and KEY_VERIFY on the
public-key and hash engine; KEY_CMAC, KEY_CCM_ENC and KEY_CCM_DEC in parts of 4 KiB on the AES engines, a decryption with its output
quarantined. A slot that is reserved, empty, corrupt or lacks the usage is refused with its status, unless an earlier descriptor of the ring
is yet to write it, and a form out of its limits with ST_BAD_ARG, a context that does not fit with its status when the job starts, an
exhausted nonce with ST_CTR_EXHAUSTED; a KEY_IMPORT that is refused destroys the transport key. -/
def Obligations.EngineCommandsQueueJobs : Prop :=
  (∀ (s : State) (r : Nat), AcceptedBuf s r 0x0B07 →
    ((headHeld s r).len < 192 → ∃ u, exec (.keyXportOpen r) s = .next (settle u) ∧ Answered s r ST_BAD_ARG 0 0 0 [] u ∧ ApartPort u s) ∧
    (∀ st, 192 ≤ (headHeld s r).len → JobsRun s → jobMayRun s true = true → slotAwaited s r 0 = false → findHeld s r (headHeld s r).idx = none →
      (readSlot s 0 = .empty ∧ st = ST_KEY_EMPTY) ∨ (∃ a key, readSlot s 0 = .key a key ∧ usageFits a 4 true = false ∧ st = ST_KEY_USAGE) →
      ∃ u, exec (.keyXportOpen r) s = .next (settle u) ∧ Answered s r st 0 0 0 [] u ∧ ApartPort { u with sec := s.sec } s) ∧
    (∀ a key, 192 ≤ (headHeld s r).len → JobsRun s → readSlot s 0 = .key a key → usageFits a 4 true = true →
      ∃ u, exec (.keyXportOpen r) s = .next (settle u) ∧ Queues s r true 1 0 u ∧ ApartPort { u with sec := s.sec } s)) ∧
  (∀ (s : State) (r : Nat), AcceptedBuf s r 0x0B08 →
    let h := headHeld s r
    let k := h.a0.toNat
    let fits := importSlot k = true ∧ slotStays s k = false ∧ (importRecord h.len (needsOemSignature s)).isSome = true
    (s.sec.xport = none → ∃ u, exec (.keyImport r) s = .next (settle u) ∧ Answered s r ST_BAD_ARG 0 0 0 [] u ∧ ApartPort u s) ∧
    (s.sec.xport.isSome = true → ¬fits →
      ∃ u, exec (.keyImport r) s = .next (settle u) ∧ Answered s r
        (if needsOemSignature s ∧ importSlot k ∧ slotStays s k = false ∧ (importRecord h.len false).isSome then ST_AUTH_FAIL else ST_BAD_ARG) 0 0 0 [] u ∧ u.sec = { s.sec with xport := none } ∧
        ApartPort { u with sec := s.sec } s) ∧
    (s.sec.xport.isSome = true → fits → needsOemSignature s = false → s.nv.lifecycle ≠ lcProvisioned →
      ∃ u, exec (.keyImport r) s = .next (settle u) ∧ Answered s r ST_AUTH_FAIL 0 0 0 [] u ∧ u.sec = { s.sec with xport := none } ∧
        ApartPort { u with sec := s.sec } s) ∧
    (s.sec.xport.isSome = true → fits → needsOemSignature s = true ∨ s.nv.lifecycle = lcProvisioned → JobsRun s →
      ∃ u, exec (.keyImport r) s = .next (settle u) ∧ Queues s r true 1 255 u ∧ ApartPort { u with sec := s.sec } s)) ∧
  (∀ (s : State) (r : Nat), AcceptedBuf s r 0x0B09 →
    let h := headHeld s r
    let k := h.a0.toNat
    let usage := h.a1.toNat % 256
    let fits := 16 ≤ k ∧ k < 128 ∧ slotStays s k = false ∧ 96 ≤ h.len
    let allowed := needsOemSignature s = true ∨ s.nv.lifecycle = lcProvisioned
    (∀ st, (st = ST_BAD_ARG ∧ ¬fits) ∨ (st = ST_KEY_USAGE ∧ fits ∧ usage.testBit 6 = false) ∨ (st = ST_AUTH_FAIL ∧ fits ∧ usage.testBit 6 = true ∧ ¬allowed) →
      ∃ u, exec (.keyGenerate r) s = .next (settle u) ∧ Answered s r st 0 0 0 [] u ∧ ApartPort u s) ∧
    (fits → usage.testBit 6 = true → allowed → JobsRun s →
      ∃ u, exec (.keyGenerate r) s = .next (settle u) ∧ Queues s r true 1 255 u ∧ ApartPort { u with sec := s.sec } s)) ∧
  (∀ (s : State) (r : Nat), (headHeld s r).len ≠ 0 → Accepted s r 0x0B0C (namedAreas (headHeld s r) true (cmacAreas (headHeld s r) s)) →
    let h := headHeld s r
    let k := cmacSlot h
    let ctx := restoreCtx s (cmacWrapped h) k (winRead s h.a1.toNat (ctxLen (cmacWrapped h)))
    (∀ st, st ≠ ST_KEY_CORRUPT → (st = ST_BAD_ARG ∧ jobMax < h.len) ∨
        (h.len ≤ jobMax ∧ slotRefuses s r k 1 false = some st ∧ (cmacFirst h = true ∨ st ≠ ST_KEY_EMPTY)) →
      ∃ u, exec (.keyCmac r) s = .next (settle u) ∧ Answered s r st 0 0 0 [] u ∧ ApartPort u s) ∧
    (h.len ≤ jobMax → slotRefuses s r k 1 false = some ST_KEY_EMPTY → cmacFirst h = false →
      ∃ u, exec (.keyCmac r) s = .next (settle u) ∧ Answered s r ST_KEY_EMPTY 0 0 0 [] u ∧
        u.sec = { s.sec with ctxRefused := s.sec.ctxRefused + 1 } ∧ ApartPort { u with sec := s.sec } s) ∧
    (h.len ≤ jobMax → slotRefuses s r k 1 false = some ST_KEY_CORRUPT → s.port.held = [] →
      ∃ u, exec (.keyCmac r) s = .next (settle u) ∧ Completed s h ST_KEY_CORRUPT 0 0 u ∧ ApartPort u s) ∧
    (∀ st, h.len ≤ jobMax → slotRefused s k 1 false = none → slotAwaited s r k = false → cmacFirst h = false → ctx = .error st →
      JobsRun s → jobMayRun s false = true → findHeld s r h.idx = none → ∃ u, exec (.keyCmac r) s = .next (settle u) ∧ Answered s r st 0 0 0 [] u ∧
        u.sec = { s.sec with ctxRefused := s.sec.ctxRefused + 1, nextJob := s.sec.nextJob + 1 } ∧
        ApartPort { u with sec := s.sec } s) ∧
    (h.len ≤ jobMax → slotRefuses s r k 1 false = none → (cmacFirst h = true ∨ (∃ c, ctx = .ok c) ∨ jobMayRun s false = false ∨ slotAwaited s r k = true) →
      JobsRun s →
      ∃ u, exec (.keyCmac r) s = .next (settle u) ∧ Queues s r false (jobParts h.len) k u ∧ ApartPort { u with sec := s.sec } s)) ∧
  (∀ (s : State) (r : Nat), (headHeld s r).len ≠ 0 →
    Accepted s r 0x0B0D (namedAreas (headHeld s r) true (encAreas (headHeld s r) s)) →
    let h := headHeld s r
    let refused := (ccmRefused h (decide (ccmPos h ≤ h.len)) (encLen h)).or (slotRefuses s r (ccmSlot h) 2 false)
    (ccmTagLen h = 0 → ∃ u, exec (.keyCcmEnc r) s = .next (settle u) ∧ Answered s r ST_OK 0 0 0 [] u ∧ ApartPort u s) ∧
    (ccmTagLen h ≠ 0 → refused = some ST_KEY_CORRUPT → s.port.held = [] →
      ∃ u, exec (.keyCcmEnc r) s = .next (settle u) ∧ Completed s h ST_KEY_CORRUPT 0 0 u ∧ ApartPort u s) ∧
    (∀ st, ccmTagLen h ≠ 0 → st ≠ ST_KEY_CORRUPT → refused = some st → ∃ u, exec (.keyCcmEnc r) s = .next (settle u) ∧ Answered s r st 0 0 0 [] u ∧ ApartPort u s) ∧
    (ccmTagLen h ≠ 0 → refused = none → nonceLeft s = false → ∃ u, exec (.keyCcmEnc r) s = .next (settle u) ∧ Answered s r ST_CTR_EXHAUSTED 0 0 0 [] u ∧
      u.sec = { s.sec with retired := s.sec.retired + 1 } ∧ ApartPort { u with sec := s.sec } s) ∧
    (ccmTagLen h ≠ 0 → refused = none → nonceLeft s = true → JobsRun s →
      ∃ u, exec (.keyCcmEnc r) s = .next (settle u) ∧ Queues s r false (jobParts h.len) (ccmSlot h) u ∧ ApartPort { u with sec := s.sec } s)) ∧
  (∀ (s : State) (r : Nat), (headHeld s r).len ≠ 0 →
    Accepted s r 0x0B0E (namedAreas (headHeld s r) true (decAreas (headHeld s r) s)) →
    let h := headHeld s r
    let refused := (ccmRefused h (decide (16 + ccmPos h + ccmTagLen h ≤ h.len)) (decLen h)).or (slotRefuses s r (ccmSlot h) 2 false)
    (ccmTagLen h = 0 → ∃ u, exec (.keyCcmDec r) s = .next (settle u) ∧ Answered s r ST_OK 0 0 0 [] u ∧ ApartPort u s) ∧
    (ccmTagLen h ≠ 0 → refused = some ST_KEY_CORRUPT → s.port.held = [] →
      ∃ u, exec (.keyCcmDec r) s = .next (settle u) ∧ Completed s h ST_KEY_CORRUPT 0 0 u ∧ ApartPort u s) ∧
    (∀ st, ccmTagLen h ≠ 0 → st ≠ ST_KEY_CORRUPT → refused = some st → ∃ u, exec (.keyCcmDec r) s = .next (settle u) ∧ Answered s r st 0 0 0 [] u ∧ ApartPort u s) ∧
    (ccmTagLen h ≠ 0 → refused = none → JobsRun s →
      ∃ u, exec (.keyCcmDec r) s = .next (settle u) ∧ Queues s r false (jobParts h.len) (ccmSlot h) u ∧
        u.port.quarantine = s.port.quarantine ++ [(h.a2.toNat, decLen h)] ∧ ApartPort { u with sec := s.sec } s)) ∧
  (∀ (s : State) (r : Nat), (headHeld s r).len ≠ 0 → Accepted s r 0x0B0F (namedAreas (headHeld s r) true (shaAreas (headHeld s r) s)) →
    (jobMax < (headHeld s r).len → ∃ u, exec (.keySha r) s = .next (settle u) ∧ Answered s r ST_BAD_ARG 0 0 0 [] u ∧ ApartPort u s) ∧
    ((headHeld s r).len ≤ jobMax → JobsRun s →
      ∃ u, exec (.keySha r) s = .next (settle u) ∧ Queues s r true 1 255 u ∧ ApartPort { u with sec := s.sec } s)) ∧
  (∀ (s : State) (r : Nat), AcceptedBuf s r 0x0B10 →
    let k := (headHeld s r).a0.toNat
    (∀ st, st ≠ ST_KEY_CORRUPT → (st = ST_BAD_ARG ∧ (headHeld s r).len < 96) ∨ (96 ≤ (headHeld s r).len ∧ slotRefuses s r k 4 true = some st) →
      ∃ u, exec (.keySign r) s = .next (settle u) ∧ Answered s r st 0 0 0 [] u ∧ ApartPort u s) ∧
    (96 ≤ (headHeld s r).len → slotRefuses s r k 4 true = some ST_KEY_CORRUPT → s.port.held = [] →
      ∃ u, exec (.keySign r) s = .next (settle u) ∧ Completed s (headHeld s r) ST_KEY_CORRUPT 0 0 u ∧ ApartPort u s) ∧
    (96 ≤ (headHeld s r).len → slotRefuses s r k 4 true = none → JobsRun s →
      ∃ u, exec (.keySign r) s = .next (settle u) ∧ Queues s r true 1 k u ∧ ApartPort { u with sec := s.sec } s)) ∧
  (∀ (s : State) (r : Nat), AcceptedBuf s r 0x0B11 →
    ((headHeld s r).len < 240 → ∃ u, exec (.keyVerify r) s = .next (settle u) ∧ Answered s r ST_BAD_ARG 0 0 0 [] u ∧ ApartPort u s) ∧
    (240 ≤ (headHeld s r).len → JobsRun s →
      ∃ u, exec (.keyVerify r) s = .next (settle u) ∧ Queues s r true 1 255 u ∧ ApartPort { u with sec := s.sec } s)) ∧
  ∀ (s : State) (r : Nat),
    (Accepted s r 0x0B13 [] → (headHeld s r).a0 = 0 → ∃ u, exec (.keyAttest r) s = .next (settle u) ∧ Answered s r ST_OK 0 0 0 [] u ∧ ApartPort u s) ∧
    (AcceptedBuf s r 0x0B13 → (headHeld s r).a0 ≠ 0 → (headHeld s r).a0 ≠ 32 ∨ (headHeld s r).len < 272 →
      ∃ u, exec (.keyAttest r) s = .next (settle u) ∧ Answered s r ST_BAD_ARG 0 0 0 [] u ∧ ApartPort u s) ∧
    (∀ a key, AcceptedBuf s r 0x0B13 → (headHeld s r).a0 = 32 → 272 ≤ (headHeld s r).len → JobsRun s → readSlot s 0 = .key a key →
      usageFits a 4 true = true → ∃ u, exec (.keyAttest r) s = .next (settle u) ∧ Queues s r true 1 0 u ∧ ApartPort { u with sec := s.sec } s)

/-- At the end of the last part of the only job, of the only descriptor held, whose areas do not touch its record: a CMAC that is first and
last leaves the MAC over its input, a first part its context; KEY_CCM_ENC leaves the nonce it took at its start, ciphertext and tag;
KEY_CCM_DEC leaves the plaintext where the tag fits, and otherwise zeros, ST_AUTH_FAIL and a zeroised count; KEY_SIGN signs its digest,
KEY_VERIFY answers whether the signature fits, KEY_XPORT_OPEN leaves a fresh public key signed by DEV_ID, KEY_GENERATE, signed by the OEM
root where that is set, fills its slot, still empty, and leaves the public key, KEY_DESTROY and KEY_LIFECYCLE that waited for their turn
judge their signature, KEY_IMPORT stores a record that unwraps and fits its slot, still empty, and destroys the transport key in every case,
slot 5 waiting for an open field session to close, and is refused where there is none, and KEY_ATTEST counts and signs its report.
ENGINE_JOB_COMPLETE completes, and so does each descriptor. -/
def Obligations.JobResults : Prop :=
  ∀ (s : State) (j : Job) (h : Held), s.sec.jobs = [j] → j.running = true → isRunning s = true → j.parts ≤ 1 → j.ring ≠ 255 → s.port.held = [h] →
    h.kind = .job j.id → HeldAt s h → h.ring = j.ring → h.idx = j.idx → s.twin.role ≠ 1 → s.twin.pairing = none →
    s.sec.slotWrites = [] → s.twin.backlog = [] →
    let off := (getRing s h.ring).base + 32 * h.idx
    let clear := fun (a n : Nat) => a + n ≤ off ∨ off + 32 ≤ a
    let bs := bufBytes h s
    let d := ecScalar (drawBytes 48 s)
    (j.opcode = 0x0B0C → cmacFirst h = true → cmacLastPart h = true → clear h.a2.toNat 16 → ∃ u, exec (.engineJobComplete j.id) s = .next u ∧
      Completed s h ST_OK 0 0 u ∧ winRead u h.a2.toNat 16 = cmac j.key bs ∧ ApartPort { u with sec := s.sec } s) ∧
    (j.opcode = 0x0B0C → cmacFirst h = true → cmacLastPart h = false → cmacWrapped h = false → clear h.a1.toNat 72 →
      ∃ u, exec (.engineJobComplete j.id) s = .next u ∧ Completed s h ST_OK 0 0 u ∧
        winRead u h.a1.toNat 72 = ctxClear 1 1 0 (cmacSlot h) 0 s.sec.bootCount (slotGen s (cmacSlot h)) (s.sec.saveSerial % 65536)
          (cbcMac j.key (zeros 16) (splitLast bs).1) (zeros 16) (splitLast bs).2 0 h.len ∧ u.sec.saveSerial = s.sec.saveSerial + 1 ∧
        ApartPort { u with sec := s.sec } s) ∧
    (j.opcode = 0x0B0D → j.nonce.length = 13 → ccmTagLen h ≤ 16 → ccmPos h ≤ h.len → clear h.a2.toNat (encLen h) →
      ∃ u, exec (.engineJobComplete j.id) s = .next u ∧ Completed s h ST_OK (BitVec.ofNat 32 (16 + h.len + ccmTagLen h)) 0 u ∧
        winRead u h.a2.toNat (encLen h) =
          j.nonce ++ zeros 3 ++ ccmSeal j.key j.nonce (bs.take (ccmPos h)) (bs.drop (ccmPos h)) (ccmTagLen h) ∧
        ApartPort { u with sec := s.sec } s) ∧
    (j.opcode = 0x0B0E → 16 + ccmPos h + ccmTagLen h ≤ h.len → clear h.a2.toNat (decLen h) →
      let ad := (bs.drop 16).take (ccmPos h)
      let ct := ((bs.drop 16).drop (ccmPos h)).take (decLen h)
      ∃ u, exec (.engineJobComplete j.id) s = .next u ∧ (h.a2.toNat, decLen h) ∉ u.port.quarantine ∧ ApartPort { u with sec := s.sec } s ∧
        (∀ plain, ccmOpen j.key (bs.take 13) ad ct (bs.drop (h.len - ccmTagLen h)) = some plain →
          Completed s h ST_OK (BitVec.ofNat 32 (decLen h)) 0 u ∧ winRead u h.a2.toNat (decLen h) = plain) ∧
        (ccmOpen j.key (bs.take 13) ad ct (bs.drop (h.len - ccmTagLen h)) = none →
          Completed s h ST_AUTH_FAIL 0 0 u ∧ winRead u h.a2.toNat (decLen h) = zeros (decLen h) ∧ u.sec.zeroised = s.sec.zeroised + 1)) ∧
    (j.opcode = 0x0B10 → clear h.buf 96 → ∃ u, exec (.engineJobComplete j.id) s = .next u ∧ Completed s h ST_OK 0 96 u ∧
      winRead u h.buf 96 = ecdsaSign (beNat j.key) d (winRead s h.buf 48) ∧ ApartPort { u with sec := s.sec, free := s.free } s) ∧
    (j.opcode = 0x0B11 → ∃ u, exec (.engineJobComplete j.id) s = .next u ∧ ApartPort { u with sec := s.sec } s ∧
      Completed s h (if ecdsaVerify (bs.take 96) (blobSlice bs 96 48) (blobSlice bs 144 96) then ST_OK else ST_AUTH_FAIL) 0 0 u) ∧
    (j.opcode = 0x0B07 → clear h.buf 192 → ∃ u, exec (.engineJobComplete j.id) s = .next u ∧ Completed s h ST_OK 0 192 u ∧ u.sec.xport = some d ∧
      winRead u h.buf 96 = ecPublic d ∧
      winRead u (h.buf + 96) 96 = ecdsaSign (beNat j.key) (ecScalar (drawBytes 48 (used 48 s))) (sha384 (ecPublic d ++ winRead s h.buf 32)) ∧
      ApartPort { u with sec := s.sec, free := s.free } s) ∧
    (j.opcode = 0x0B09 → slotHolds s h.a0.toNat = false → generateSigned h s = false →
      ∃ u, exec (.engineJobComplete j.id) s = .next u ∧ Completed s h ST_AUTH_FAIL 0 0 u ∧ ApartPort { u with sec := s.sec } s) ∧
    (j.opcode = 0x0B09 → slotHolds s h.a0.toNat = false → generateSigned h s = true → clear h.buf 96 → ∃ u, exec (.engineJobComplete j.id) s = .next u ∧ Completed s h ST_OK 0 96 u ∧
      winRead u h.buf 96 = ecPublic d ∧ (slotRecord u h.a0.toNat).isSome = true ∧ slotGen u h.a0.toNat = slotGen s h.a0.toNat + 1 ∧
      (∀ k, k ≠ h.a0.toNat → slotRecord u k = slotRecord s k) ∧ ApartPort { u with sec := s.sec, nv := s.nv, free := s.free } s) ∧
    (j.opcode = 0x0B08 → s.sec.xport = none → ∃ u, exec (.engineJobComplete j.id) s = .next u ∧ Completed s h ST_BAD_ARG 0 0 u ∧ u.nv = s.nv) ∧
    (∀ x : Nat, j.opcode = 0x0B08 → needsOemSignature s = false → s.sec.xport = some x → slotHolds s h.a0.toNat = false →
      let n := (importRecord h.len false).getD 32
      let opened := (ecdh x (bs.take 96)).bind fun z =>
        keyUnwrap (kdf256 (condense z) (ascii "ILK-XPORT") (uidBytes s ++ [BitVec.ofNat 8 h.a0.toNat])) (blobSlice bs 96 n)
      ∃ u, exec (.engineJobComplete j.id) s = .next u ∧ u.sec.xport = none ∧ ApartPort { u with sec := s.sec, nv := s.nv, isl := s.isl } s ∧
        (opened = none → Completed s h ST_AUTH_FAIL 0 0 u ∧ u.nv = s.nv) ∧
        (∀ plain, opened = some plain →
          let a : Dword := BitVec.ofNat 64 (leNat (plain.take 8))
          (attrSlot a ≠ h.a0.toNat → Completed s h ST_BAD_ARG 0 0 u ∧ u.nv = s.nv) ∧
          (attrSlot a = h.a0.toNat → attrAllowed h.a0.toNat a (plain.drop 8).length = false → Completed s h ST_KEY_USAGE 0 0 u ∧ u.nv = s.nv) ∧
          (attrSlot a = h.a0.toNat → attrAllowed h.a0.toNat a (plain.drop 8).length = true → Completed s h ST_OK 0 0 u ∧
            (h.a0.toNat = 5 → s.isl.session = true → u.nv = s.nv ∧ u.isl = { s.isl with enrolWait := some ((attrUsage a).toNat, 2, plain.drop 8) }) ∧
            (h.a0.toNat ≠ 5 ∨ s.isl.session = false → (slotRecord u h.a0.toNat).isSome = true ∧ slotGen u h.a0.toNat = slotGen s h.a0.toNat + 1 ∧
              u.isl = { s.isl with keyCell := if h.a0.toNat = 5 then plain.drop 8 else s.isl.keyCell } ∧
              (∀ k, k ≠ h.a0.toNat → slotRecord u k = slotRecord s k))))) ∧
    (j.opcode = 0x0B0B →
      let k := h.a0.toNat
      let signed := signedByRoot (oemHash s) (rootDigest s "ILK-DESTROY" [BitVec.ofNat 8 k]) (winRead s h.buf 96)
      ∃ u, exec (.engineJobComplete j.id) s = .next u ∧
        (signed = false → Completed s h ST_AUTH_FAIL 0 0 u ∧ ApartPort { u with sec := s.sec } s) ∧
        (signed = true → (slotRecord s k).isSome = true → slotBusy (dropJob j.id s) k h = false → Completed s h ST_OK 0 0 u ∧
          slotRecord u k = none ∧ (∀ i, i ≠ k → slotRecord u i = slotRecord s i) ∧ ApartPort { u with sec := s.sec, nv := s.nv } s)) ∧
    (j.opcode = 0x0B15 → ∃ u, exec (.engineJobComplete j.id) s = .next u ∧
      (lifecycleAllowed s h.a0.toNat (winRead s h.buf 96) = false → Completed s h ST_LC_REFUSED 0 0 u ∧ ApartPort { u with sec := s.sec } s) ∧
      (lifecycleAllowed s h.a0.toNat (winRead s h.buf 96) = true → Restarted s 16 u ∧ u.nv.lifecycle = h.a0.toNat ∧ u.nv.intent = none)) ∧
    (j.opcode = 0x0B13 → counterLive s 1 ≠ 0xFFFFFFFF →
      let body := reportBody (advanceCounter 1 s) (winRead s h.buf 32)
      clear h.buf (body.length + 96) → ∃ u, exec (.engineJobComplete j.id) s = .next u ∧ Completed s h ST_OK 0 272 u ∧
        counterLive u 1 = counterLive s 1 + 1 ∧ winRead u h.buf body.length = body ∧
        winRead u (h.buf + body.length) 96 = ecdsaSign (beNat j.key) d (sha384 body) ∧
        ApartPort { u with sec := s.sec, nv := s.nv, free := s.free } s)

/-- Each of these descriptors, accepted, completes, is held, or restarts the device: UPD_HEADER, UPD_PIECE, UPD_VERIFY, UPD_ACTIVATE,
UPD_CONFIRM, UPD_STATUS and UPD_ABORT. UPD_HEADER is refused with the first check of R420 that fails; one that passes resumes the image in
the other bank, takes a reverted one to VERIFIED, or else names its image for that bank, whose sectors stand until pieces are written,
RECEIVING with no piece. UPD_PIECE is refused outside RECEIVING and outside its image, answered where its piece is stored, and otherwise
becomes a job of the AES engines; at its end, ENGINE_JOB_COMPLETE, a piece that opens is stored once, one that does not is discarded and
counted, and the last one makes the stage RECEIVED, and begins the verification of a chain's target. UPD_VERIFY begins a job in RECEIVED
only. UPD_ACTIVATE restarts the device with the other bank on trial, unless the stage, an output or maintenance refuses, or no nonce is left
for the boot record. UPD_CONFIRM ends a trial and burns the security version. UPD_STATUS answers stage, pieces and bitmap. UPD_ABORT gives
the image up, waiting for a verification, and is refused on trial. The running bank is never changed. -/
def Obligations.UpdateCommands : Prop :=
  (∀ (s : State) (r : Nat), AcceptedBuf s r 0x0C01 →
    let blob := winRead s (headHeld s r).buf (headHeld s r).len
    let same := s.nv.updStage ≠ IDLE ∧ hdrImageId blob = hdrImageId (idleBank s).blob
    (pkFree s = false → JobsRun s → ∃ u, exec (.updHeader r) s = .next (settle u) ∧ Queues s r true 1 255 u ∧ ApartPort { u with sec := s.sec } s) ∧
    (∀ st, pkFree s = true → headerRefused s blob = some st → ∃ u, exec (.updHeader r) s = .next (settle u) ∧ Answered s r st 0 0 0 [] u ∧ ApartPort u s) ∧
    (pkFree s = true → headerRefused s blob = none → ∃ u, exec (.updHeader r) s = .next (settle u) ∧ Answered s r ST_OK (BitVec.ofNat 32 (hdrPieces blob)) 0 0 [] u ∧
      ApartPort { u with nv := s.nv, isl := s.isl } s ∧ getBank u s.upd.bank = getBank s s.upd.bank ∧
      (same → s.nv.updStage ≠ REVERTED → u.nv = s.nv) ∧ (same → s.nv.updStage = REVERTED → u.nv = { s.nv with updStage := VERIFIED }) ∧
      (¬same → (getBank u (!s.upd.bank)).blob = blob ∧ (getBank u (!s.upd.bank)).pieces = (idleBank s).pieces ∧
        ((idleBank s).blob ≠ blob → (getBank u (!s.upd.bank)).good = false) ∧ u.nv.updStage = RECEIVING ∧ u.nv.bitmap = []))) ∧
  (∀ (s : State) (r : Nat), AcceptedBuf s r 0x0C02 →
    let i := (headHeld s r).a0.toNat
    let bs := winRead s (headHeld s r).buf (headHeld s r).len
    let blob := (idleBank s).blob
    let fits := i < hdrPieces blob ∧ bs.length = pieceLen blob i + 16
    let left := BitVec.ofNat 32 (piecesMissing s)
    (∀ st, (st = ST_UPD_STAGE ∧ s.nv.updStage ≠ RECEIVING) ∨ (st = ST_BAD_ARG ∧ s.nv.updStage = RECEIVING ∧ ¬fits) ∨
        (st = ST_OK ∧ s.nv.updStage = RECEIVING ∧ fits ∧ i ∈ s.nv.bitmap) →
      ∃ u, exec (.updPiece r) s = .next (settle u) ∧ Answered s r st left 0 0 [] u ∧ ApartPort u s) ∧
    (∀ a key, s.nv.updStage = RECEIVING → fits → i ∉ s.nv.bitmap → JobsRun s → readSlot s (pieceSlot blob) = .key a key → usageFits a 0 false = true →
      ∃ u j, exec (.updPiece r) s = .next (settle u) ∧ Holds s r (.job s.sec.nextJob) u ∧ u.sec.jobs = s.sec.jobs ++ [j] ∧ j.id = s.sec.nextJob ∧
        j.opcode = 0x0C02 ∧ j.ring = r ∧ j.idx = (headHeld s r).idx ∧ j.parts = jobParts (headHeld s r).len ∧ j.running = (jobMayRun s false && !jobBlocked u j) ∧
        (j.running = true → j.key = kdf256 key (ascii "ILK-IMG") (hdrImageId blob)) ∧ ApartPort { u with sec := s.sec } s)) ∧
  (∀ (s : State) (j : Job) (h : Held), s.sec.jobs = [j] → j.running = true → isRunning s = true → j.parts ≤ 1 → j.ring ≠ 255 → j.opcode = 0x0C02 →
    s.port.held = [h] → h.kind = .job j.id → HeldAt s h → h.ring = j.ring → h.idx = j.idx → s.sec.slotWrites = [] → s.twin.backlog = [] →
    (s.nv.chainTarget = true → s.nv.updStage ≠ RECEIVED) →
    let i := h.a0.toNat
    let bs := bufBytes h s
    let blob := (idleBank s).blob
    let left := BitVec.ofNat 32 (piecesMissing s)
    (∀ st, pieceStatus s i bs.length = some st → ∃ u, exec (.engineJobComplete j.id) s = .next u ∧ Completed s h st left 0 u ∧ ApartPort { u with sec := s.sec } s) ∧
    (pieceStatus s i bs.length = none → openPiece j.key blob i bs = none → ∃ u, exec (.engineJobComplete j.id) s = .next u ∧
      Completed s h ST_AUTH_FAIL left 0 u ∧ u.upd = { s.upd with piecesBad := s.upd.piecesBad + 1 } ∧ u.sec.zeroised = s.sec.zeroised + 1 ∧
      ApartPort { u with upd := s.upd, sec := s.sec } s) ∧
    (∀ plain, pieceStatus s i bs.length = none → openPiece j.key blob i bs = some plain → ∃ u, exec (.engineJobComplete j.id) s = .next u ∧
      Completed s h ST_OK (BitVec.ofNat 32 (piecesMissing u)) 0 u ∧ u.nv.bitmap = s.nv.bitmap ++ [i] ∧ (i, plain) ∈ (getBank u (!s.upd.bank)).pieces ∧
      (∀ p ∈ (getBank s (!s.upd.bank)).pieces, p.1 ≠ i → p ∈ (getBank u (!s.upd.bank)).pieces) ∧
      (getBank u (!s.upd.bank)).blob = blob ∧ getBank u s.upd.bank = getBank s s.upd.bank ∧
      u.nv.updStage = (if hdrPieces blob ≤ s.nv.bitmap.length + 1 then (if s.nv.chainTarget then VERIFYING else RECEIVED) else RECEIVING) ∧
      (u.nv.updStage = VERIFYING → ∃ v ∈ u.sec.jobs, v.opcode = 0x0C03 ∧ v.ring = 255 ∧ v.running = true) ∧
      ApartPort { u with nv := s.nv, isl := s.isl, sec := s.sec } s)) ∧
  (∀ (s : State) (r : Nat), Accepted s r 0x0C03 [] →
    (s.nv.updStage ≠ RECEIVED → ∃ u, exec (.updVerify r) s = .next (settle u) ∧ Answered s r ST_UPD_STAGE 0 0 0 [] u ∧ ApartPort u s) ∧
    (s.nv.updStage = RECEIVED → JobsRun s → ∃ u, exec (.updVerify r) s = .next (settle u) ∧ Queues s r true 1 255 u ∧
      u.nv = { s.nv with updStage := VERIFYING } ∧ ApartPort { u with sec := s.sec, nv := s.nv, isl := s.isl } s)) ∧
  (∀ (s : State) (r : Nat), Accepted s r 0x0C04 [] →
    (∀ st, (st = ST_UPD_STAGE ∧ s.nv.updStage ≠ VERIFIED ∧ s.nv.updStage ≠ REVERTED) ∨
        (st = ST_UPD_OUTPUTS ∧ (s.nv.updStage = VERIFIED ∨ s.nv.updStage = REVERTED) ∧ ∃ l ∈ s.locks, l.state ≠ LOCKED) ∨
        (st = ST_UPD_BUSY ∧ (s.nv.updStage = VERIFIED ∨ s.nv.updStage = REVERTED) ∧ (∀ l ∈ s.locks, l.state = LOCKED) ∧
          (s.mnt.running ≠ 0 ∨ s.mnt.queue ≠ [])) →
      ∃ u, exec (.updActivate r) s = .next (settle u) ∧ Answered s r st 0 0 0 [] u ∧ ApartPort u s) ∧
    (s.nv.updStage = VERIFIED ∨ s.nv.updStage = REVERTED → (∀ l ∈ s.locks, l.state = LOCKED) → s.mnt.running = 0 → s.mnt.queue = [] →
      nonceLeft s = false → ∃ u, exec (.updActivate r) s = .next (settle u) ∧ Answered s r ST_CTR_EXHAUSTED 0 0 0 [] u ∧
        u.sec = { s.sec with retired := s.sec.retired + 1 } ∧ ApartPort { u with sec := s.sec } s) ∧
    (s.nv.updStage = VERIFIED ∨ s.nv.updStage = REVERTED → (∀ l ∈ s.locks, l.state = LOCKED) → s.mnt.running = 0 → s.mnt.queue = [] →
      nonceLeft s = true → ∃ t, exec (.updActivate r) s = .next t ∧ Restarted s 4 t ∧ t.nv.updStage = TRIAL ∧ (getArea t (!s.upd.bank)).unmigrated = true ∧
        (bootRecord t).bank = (!s.upd.bank) ∧ (bootRecord t).trial = true ∧ (bootRecord t).count = 0 ∧ (bootRecord t).previous = s.upd.bank ∧
        t.nv.bankA = s.nv.bankA ∧ t.nv.bankB = s.nv.bankB)) ∧
  (∀ (s : State) (r : Nat), Accepted s r 0x0C05 [] →
    (s.nv.updStage ≠ TRIAL → ∃ u, exec (.updConfirm r) s = .next (settle u) ∧ Answered s r ST_OK 0 0 0 [] u ∧ ApartPort u s) ∧
    (s.nv.updStage = TRIAL → nonceLeft s = false → ∃ u, exec (.updConfirm r) s = .next (settle u) ∧ Answered s r ST_CTR_EXHAUSTED 0 0 0 [] u ∧
      u.sec = { s.sec with retired := s.sec.retired + 1 } ∧ ApartPort { u with sec := s.sec } s) ∧
    (s.nv.updStage = TRIAL → nonceLeft s = true → s.port.held = [] → ∃ u, exec (.updConfirm r) s = .next (settle u) ∧ Completed s (headHeld s r) ST_OK 0 0 u ∧
      u.nv.updStage = IDLE ∧ (bootRecord u).bank = s.upd.bank ∧ (bootRecord u).trial = false ∧
      u.nv.otp = (burnSecver (hdrSecver (runBank s).blob) s).nv.otp ∧ u.nv.bankA = s.nv.bankA ∧ u.nv.bankB = s.nv.bankB ∧
      u.sec = { s.sec with nonceCtr := s.sec.nonceCtr + 1, engineJobs := s.sec.engineJobs + 1 } ∧
      ApartPort { u with nv := s.nv, upd := s.upd, isl := s.isl, sec := s.sec } s)) ∧
  (∀ (s : State) (r : Nat), AcceptedBuf s r 0x0C06 →
    ((bitmapBytes s).length ≤ (headHeld s r).len → ∃ u, exec (.updStatus r) s = .next (settle u) ∧ ApartPort u s ∧
      Answered s r ST_OK (BitVec.ofNat 32 s.nv.updStage) (BitVec.ofNat 32 (piecesMissing s)) (BitVec.ofNat 32 (imageIdNat (handBlob s))) (bitmapBytes s) u) ∧
    ((headHeld s r).len < (bitmapBytes s).length →
      ∃ u, exec (.updStatus r) s = .next (settle u) ∧ Answered s r ST_BAD_ARG 0 0 0 [] u ∧ ApartPort u s)) ∧
  ∀ (s : State) (r : Nat), Accepted s r 0x0C07 [] →
    (s.nv.updStage = TRIAL → ∃ u, exec (.updAbort r) s = .next (settle u) ∧ Answered s r ST_UPD_STAGE 0 0 0 [] u ∧ ApartPort u s) ∧
    (s.nv.updStage = VERIFYING → ∃ u, exec (.updAbort r) s = .next (settle u) ∧ Holds s r .updAbort u ∧ ApartPort u s) ∧
    (s.nv.updStage = IDLE → ∃ u, exec (.updAbort r) s = .next (settle u) ∧ Answered s r ST_OK 0 0 0 [] u ∧ ApartPort u s) ∧
    (s.nv.updStage ≠ TRIAL → s.nv.updStage ≠ VERIFYING → s.nv.updStage ≠ IDLE → ∃ u, exec (.updAbort r) s = .next (settle u) ∧
      Answered s r ST_OK 0 0 0 [] u ∧ u.nv = { s.nv with updStage := IDLE, bitmap := [], chainTarget := false } ∧ ApartPort { u with nv := s.nv, isl := s.isl } s)

/-- Each of these descriptors, accepted, completes or is held: TWIN_PAIR, TWIN_UNPAIR, TWIN_RESYNC, TWIN_STATUS, MAINT_REFRESH,
MAINT_CAL_SWEEP, MAINT_CANCEL, MAINT_STATUS and ROSTER_COMPACT. TWIN_PAIR of an unpaired device is held and opens a ceremony with a fresh
challenge, or joins the one of its role, and takes up a PAIR_HELLO that the twin sent in the 10 s before, where lifecycle, role, bus mode
and master allow. TWIN_UNPAIR ends the pairing on one side, destroys slot 3 and makes every output static; a former SIDING gives up what was
mirrored to it. TWIN_RESYNC is held and starts a resynchronisation on the ACTIVE, or asks for one on the SIDING, and needs a twin that
stands. MAINT_REFRESH, MAINT_CAL_SWEEP and ROSTER_COMPACT are held and run where the token is free, and are queued otherwise; MAINT_CANCEL
takes a queued activity out; TWIN_STATUS and MAINT_STATUS answer the state. -/
def Obligations.TwinAndMaintenanceCommands : Prop :=
  (∀ (s : State) (r : Nat), Accepted s r 0x0D01 [] →
    let k := (headHeld s r).a0.toNat
    let open3 := s.nv.lifecycle = lcProvisioned ∨ s.nv.lifecycle = lcField
    let fits := (k = 1 ∨ k = 2) ∧ busMode s ≠ 2
    let barred := s.nv.lifecycle = lcField ∧ k = 1 ∧ masterOk s = false
    (∀ st, (st = ST_TWIN_PAIRED ∧ s.twin.role ≠ 0) ∨ (st = ST_LC_REFUSED ∧ s.twin.role = 0 ∧ ¬open3) ∨ (st = ST_BAD_ARG ∧ s.twin.role = 0 ∧ open3 ∧ ¬fits) ∨
        (st = ST_KEY_NEEDS_MASTER ∧ s.twin.role = 0 ∧ open3 ∧ fits ∧ barred) ∨
        (st = ST_TWIN_MISMATCH ∧ s.twin.role = 0 ∧ open3 ∧ fits ∧ ¬barred ∧ s.twin.pairing ≠ none ∧ s.twin.pairing ≠ some k) →
      ∃ u, exec (.twinPair r) s = .next (settle u) ∧ Answered s r st 0 0 0 [] u ∧ ApartPort u s) ∧
    (s.twin.role = 0 → open3 → fits → ¬barred → s.twin.pairing = some k → ∃ u, exec (.twinPair r) s = .next (settle u) ∧ Holds s r .pairing u ∧ ApartPort u s) ∧
    (s.twin.role = 0 → open3 → fits → ¬barred → s.twin.pairing = none → ∃ u v, exec (.twinPair r) s = .next (settle u) ∧ Holds s r .pairing v ∧
      v.twin = { s.twin with pairing := some k, pairStep := 1, pairClk := s.clk, challenge := drawBytes 32 s, said := [ownHello k (drawBytes 32 s) s], early := none,
                             out := { purpose := 0, boot := 0, ctr := 0, nonce := [], msg := .pairHello (ownHello k (drawBytes 32 s) s) } :: s.twin.out } ∧
      v.free = s.free + 32 ∧ ApartPort { v with twin := s.twin, free := s.free } s ∧
      ((∀ x, s.twin.early = some x → x.1 + clkS 10 < s.clk) → u = v) ∧
      (∀ clk m, s.twin.early = some (clk, m) → s.clk ≤ clk + clkS 10 → u = takeHello m v))) ∧
  (∀ (s : State) (r : Nat), Accepted s r 0x0D02 [] →
    (∀ st, (st = ST_TWIN_NOT_PAIRED ∧ s.twin.role = 0) ∨ (st = ST_TWIN_SIDING ∧ s.twin.role = 2 ∧ twinStands s = true) ∨
        (st = ST_KEY_NEEDS_MASTER ∧ s.twin.role ≠ 0 ∧ ¬(isSiding s = true ∧ twinStands s = true) ∧ s.nv.lifecycle = lcField ∧ masterOk s = false) →
      ∃ u, exec (.twinUnpair r) s = .next (settle u) ∧ Answered s r st 0 0 0 [] u ∧ ApartPort u s) ∧
    (s.twin.role ≠ 0 → ¬(isSiding s = true ∧ twinStands s = true) → ¬(s.nv.lifecycle = lcField ∧ masterOk s = false) → s.port.held = [] → NothingAwaited s → EnginesUnawaited s →
      ∃ u, exec (.twinUnpair r) s = .next (settle u) ∧ Completed s (headHeld s r) ST_OK 0 0 u ∧ u.twin.role = 0 ∧ u.twin.linkUp = false ∧
        u.nv.pair = none ∧ u.nv.received = [] ∧ u.nv.lastActive = false ∧ slotRecord u 3 = none ∧ (∀ o, o < 4 → pumping u o = false) ∧
        (isSiding s = false → u.nv.keyTab = s.nv.keyTab ∧ u.par = s.par ∧ u.sched = s.sched) ∧
        (isSiding s = true → u.nv.keyTab = List.replicate 32 KeyNv.empty ∧ u.nv.pinned = [] ∧ u.par = [] ∧ u.staged = [] ∧ u.sched.svcs = []))) ∧
  (∀ (s : State) (r : Nat), Accepted s r 0x0D03 [] →
    (∀ st, (st = ST_TWIN_NOT_PAIRED ∧ s.twin.role = 0) ∨ (st = ST_TWIN_NO_PEER ∧ s.twin.role ≠ 0 ∧ twinStands s = false) →
      ∃ u, exec (.twinResync r) s = .next (settle u) ∧ Answered s r st 0 0 0 [] u ∧ ApartPort u s) ∧
    (isSiding s = true → twinStands s = true → ∃ u, exec (.twinResync r) s = .next (settle u) ∧ Holds s r .resyncPassed u ∧
      Sends s .resync u ∧ ApartLink u s) ∧
    (s.twin.role = 1 → twinStands s = true → maintKnown s RESYNC_ALL = false → s.mnt.running = 0 → s.mnt.queue = [] →
      ∃ u, exec (.twinResync r) s = .next (settle u) ∧ Holds s r (.maint 3) u ∧ u.mnt.running = 3 ∧ u.twin.resyncSeq = some (s.twin.mirrorSeq + 1) ∧
        u.twin.mirrored = false ∧ u.twin.backlog = [(s.twin.mirrorSeq + 1, snapshot s)] ∧
        ((s.sec.jobs.countP fun j => !j.pk && j.running) < 3 → Sends s (.mirror (s.twin.mirrorSeq + 1) (snapshot s)) u) ∧ ApartLink { u with mnt := s.mnt } s)) ∧
  (∀ (s : State) (r : Nat), Accepted s r 0x0D04 [] → ∃ u, exec (.twinStatus r) s = .next (settle u) ∧ ApartPort u s ∧
    Answered s r ST_OK (BitVec.ofNat 32 (twinStatusReg s)) (BitVec.ofNat 32 (backlogBytes s)) (BitVec.ofNat 32 s.twin.takeovers) [] u) ∧
  (∀ (s : State) (r a : Nat) (i : Instr), (a = 1 ∧ i = .maintRefresh r ∧ Accepted s r 0x0E01 []) ∨
      (a = 2 ∧ i = .maintCalSweep r ∧ Accepted s r 0x0E02 [] ∧ (headHeld s r).a0.truncate 24 ≠ (0 : BitVec 24)) ∨
      (a = 3 ∧ i = .twinResync r ∧ Accepted s r 0x0D03 [] ∧ twinStands s = true ∧ isSiding s = false) ∨ (a = 4 ∧ i = .rosterCompact r ∧ Accepted s r 0x0506 []) →
    (maintKnown s a = true → ∃ u, exec i s = .next (settle u) ∧ Answered s r ST_MAINT_QUEUED 0 0 0 [] u ∧ ApartPort u s) ∧
    (maintKnown s a = false → s.mnt.running = 0 → s.mnt.queue = [] → ∃ u, exec i s = .next (settle u) ∧ Holds s r (.maint a) u ∧ u.mnt.running = a ∧
      (a = 2 → u.mnt.sweepLeft = linesOf ((headHeld s r).a0.truncate 24)) ∧
      ApartLink { u with mnt := s.mnt } s) ∧
    (maintKnown s a = false → ¬(s.mnt.running = 0 ∧ s.mnt.queue = []) → ∃ u mask, exec i s = .next (settle u) ∧
      Answered s r ST_MAINT_QUEUED 0 0 0 [] u ∧ u.mnt = { s.mnt with queue := s.mnt.queue ++ [(a, mask)] } ∧ ApartPort { u with mnt := s.mnt } s)) ∧
  (∀ (s : State) (r : Nat), Accepted s r 0x0E02 [] → (headHeld s r).a0.truncate 24 = (0 : BitVec 24) →
    ∃ u, exec (.maintCalSweep r) s = .next (settle u) ∧ Answered s r ST_OK 0 0 0 [] u ∧ ApartPort u s) ∧
  (∀ (s : State) (r : Nat), Accepted s r 0x0E03 [] →
    let a := (headHeld s r).a0.toNat
    (a = 0 ∨ 4 < a → ∃ u, exec (.maintCancel r) s = .next (settle u) ∧ Answered s r ST_BAD_ARG 0 0 0 [] u ∧ ApartPort u s) ∧
    (1 ≤ a → a ≤ 4 → (∃ q ∈ s.mnt.queue, q.1 = a) → ∃ u, exec (.maintCancel r) s = .next (settle u) ∧ Answered s r ST_OK 1 0 0 [] u ∧
      u.mnt = { s.mnt with queue := s.mnt.queue.filter fun q => q.1 != a, cancelled := s.mnt.cancelled + 1 } ∧ ApartPort { u with mnt := s.mnt } s) ∧
    (1 ≤ a → a ≤ 4 → (∀ q ∈ s.mnt.queue, q.1 ≠ a) → ∃ u, exec (.maintCancel r) s = .next (settle u) ∧ Answered s r ST_OK 0 0 0 [] u ∧ ApartPort u s)) ∧
  ∀ (s : State) (r : Nat), Accepted s r 0x0E04 [] → ∃ u, exec (.maintStatus r) s = .next (settle u) ∧ ApartPort u s ∧
    Answered s r ST_OK (BitVec.ofNat 32 s.mnt.running) (BitVec.ofNat 32 (maintQueued s)) 0 [] u

/-- For every descriptor command: where the device does not take its descriptor next, nothing changes. Otherwise the descriptor is taken,
and completes with ST_DEVICE_FAILED where the device is FAILED and does not serve it; with ST_BAD_OPCODE where its ring does not accept it;
with ST_BAD_ARG where a reserved bit is not 0 or the number of arguments is neither 0 nor its own; and, given with no argument and no
buffer, with ST_TWIN_SIDING or ST_LC_REFUSED where role or lifecycle refuse it, and with ST_OK where it takes arguments. Nothing else
changes then. -/
def Obligations.DescriptorRefusals : Prop :=
  ∀ (s : State) (i : Instr) (r op : Nat), descriptorOf i = some (r, op) →
    let h := headHeld s r
    let n := (opcodeArgs r op).getD 0
    let taken := nextRing s = some r ∧ headOpcode s r = op ∧ headOwn s r = true
    let inside := (getRing s r).take < (getRing s r).size ∧ headOffset s r + 32 ≤ windowBytes ∧ Mem.wf s.win = true
    let serves := s.dev.failed = false ∨ failedServes r op = true
    (¬taken → exec i s = .next s) ∧
    (taken → inside → ¬serves → ∃ u, exec i s = .next (settle u) ∧ Answered s r ST_DEVICE_FAILED 0 0 0 [] u ∧ ApartPort u s) ∧
    (taken → inside → serves → ringAccepts r op = false → ∃ u, exec i s = .next (settle u) ∧ Answered s r ST_BAD_OPCODE 0 0 0 [] u ∧ ApartPort u s) ∧
    (taken → inside → serves → ringAccepts r op = true → (headReserved s r = false ∨ (h.argc ≠ 0 ∧ h.argc ≠ n)) →
      ∃ u, exec i s = .next (settle u) ∧ Answered s r ST_BAD_ARG 0 0 0 [] u ∧ ApartPort u s) ∧
    (taken → inside → serves → ringAccepts r op = true → headReserved s r = true → h.argc = 0 → h.len = 0 →
      (∀ st, gate s op = some st → ∃ u, exec i s = .next (settle u) ∧ Answered s r st 0 0 0 [] u ∧ ApartPort u s) ∧
      (gate s op = none → n ≠ 0 → ∃ u, exec i s = .next (settle u) ∧ Answered s r ST_OK 0 0 0 [] u ∧ ApartPort u s))
end

