-- ==== Sys2Proof/Laws/Mem.lean ====
section
/-!
SUPPORT. Sys2Proof/Laws/Mem.lean: the byte memory in canonical form: writes keep the form, a read gives what was written, and a write leaves
every other byte alone.
-/
namespace Sys2Proof.Machine

theorem Mem.wfFrom_mono {lo hi : Nat} {m : Mem} (h : hi ≤ lo) (hm : Mem.wfFrom lo m = true) : Mem.wfFrom hi m = true := by
  cases m with
  | nil => rfl
  | cons c rest =>
    obtain ⟨a, v⟩ := c
    simp only [Mem.wfFrom, Bool.and_eq_true, decide_eq_true_eq] at hm ⊢
    exact ⟨⟨by omega, hm.1.2⟩, hm.2⟩

/-- An address below every entry reads 0. -/
theorem Mem.read_below {lo a : Nat} {m : Mem} (hm : Mem.wfFrom lo m = true) (h : a < lo) : Mem.read m a = 0 := by
  induction m generalizing lo with
  | nil => rfl
  | cons c rest ih =>
    obtain ⟨b, v⟩ := c
    simp only [Mem.wfFrom, Bool.and_eq_true, decide_eq_true_eq] at hm
    simp only [Mem.read]
    rw [if_neg (by omega)]
    exact ih hm.2 (by omega)

theorem Mem.write_wfFrom {lo a : Nat} {v : Byte} {m : Mem} (hm : Mem.wfFrom lo m = true) (h : lo ≤ a) :
    Mem.wfFrom lo (Mem.write m a v) = true := by
  induction m generalizing lo with
  | nil => simp only [Mem.write]; split <;> simp_all [Mem.wfFrom]
  | cons c rest ih =>
    obtain ⟨b, u⟩ := c
    simp only [Mem.wfFrom, Bool.and_eq_true, decide_eq_true_eq, bne_iff_ne, ne_eq] at hm
    simp only [Mem.write]
    split
    · split <;> simp_all [Mem.wfFrom]
    · split
      · split
        · exact Mem.wfFrom_mono (by omega) hm.2
        · subst_vars; simp_all [Mem.wfFrom]
      · simp only [Mem.wfFrom, Bool.and_eq_true, decide_eq_true_eq, bne_iff_ne, ne_eq]
        exact ⟨hm.1, ih hm.2 (by omega)⟩

/-- A write keeps the canonical form. -/
theorem Mem.write_wf {m : Mem} {a : Nat} {v : Byte} (hm : Mem.wf m = true) : Mem.wf (Mem.write m a v) = true :=
  Mem.write_wfFrom hm (Nat.zero_le a)

theorem Mem.writeBytes_wf {m : Mem} {a : Nat} {bs : List Byte} (hm : Mem.wf m = true) : Mem.wf (Mem.writeBytes m a bs) = true := by
  induction bs generalizing m a with
  | nil => exact hm
  | cons b bs ih => exact ih (Mem.write_wf hm)

theorem Mem.read_write_same_from {lo a : Nat} {v : Byte} {m : Mem} (hm : Mem.wfFrom lo m = true) :
    Mem.read (Mem.write m a v) a = v := by
  induction m generalizing lo with
  | nil => simp only [Mem.write]; split <;> simp_all [Mem.read]
  | cons c rest ih =>
    obtain ⟨b, u⟩ := c
    simp only [Mem.wfFrom, Bool.and_eq_true, decide_eq_true_eq] at hm
    simp only [Mem.write]
    split
    · rename_i hab
      split
      · rename_i hv
        simp only [Mem.read, hv]
        rw [if_neg (by omega)]
        exact Mem.read_below hm.2 (by omega)
      · simp [Mem.read]
    · split
      · split
        · rename_i hab hv
          rw [hv]; exact Mem.read_below hm.2 (by omega)
        · simp [Mem.read]
      · rename_i h1 h2
        simp only [Mem.read]
        rw [if_neg (by omega)]
        exact ih hm.2

/-- A read after a write to the same address gives the byte written. -/
theorem Mem.read_write_same {m : Mem} {a : Nat} {v : Byte} (hm : Mem.wf m = true) : Mem.read (Mem.write m a v) a = v :=
  Mem.read_write_same_from hm

theorem Mem.read_write_other_from {lo a b : Nat} {v : Byte} {m : Mem} (hm : Mem.wfFrom lo m = true) (h : b ≠ a) :
    Mem.read (Mem.write m a v) b = Mem.read m b := by
  induction m generalizing lo with
  | nil => simp only [Mem.write]; split <;> simp [Mem.read, h.symm]
  | cons c rest ih =>
    obtain ⟨d, u⟩ := c
    simp only [Mem.wfFrom, Bool.and_eq_true, decide_eq_true_eq] at hm
    simp only [Mem.write]
    split
    · split
      · rfl
      · simp [Mem.read, h.symm]
    · split
      · rename_i hd
        subst hd
        split
        · simp [Mem.read, h.symm]
        · simp [Mem.read, h.symm]
      · simp only [Mem.read]
        split
        · rfl
        · exact ih hm.2

/-- A write leaves every other address alone. -/
theorem Mem.read_write_other {m : Mem} {a b : Nat} {v : Byte} (hm : Mem.wf m = true) (h : b ≠ a) :
    Mem.read (Mem.write m a v) b = Mem.read m b := Mem.read_write_other_from hm h

/-- Bytes written leave every address outside them alone. -/
theorem Mem.read_writeBytes_other {m : Mem} {a b : Nat} {bs : List Byte} (hm : Mem.wf m = true) (h : b < a ∨ a + bs.length ≤ b) :
    Mem.read (Mem.writeBytes m a bs) b = Mem.read m b := by
  induction bs generalizing m a with
  | nil => rfl
  | cons c bs ih =>
    simp only [List.length_cons] at h
    simp only [Mem.writeBytes]
    rw [ih (Mem.write_wf hm) (by omega), Mem.read_write_other hm (by omega)]

/-- The i-th byte written is read back. -/
theorem Mem.read_writeBytes_same {m : Mem} {a i : Nat} {bs : List Byte} (hm : Mem.wf m = true) (h : i < bs.length) :
    Mem.read (Mem.writeBytes m a bs) (a + i) = bs[i] := by
  induction bs generalizing m a i with
  | nil => simp at h
  | cons c bs ih =>
    simp only [Mem.writeBytes]
    cases i with
    | zero =>
      rw [Mem.read_writeBytes_other (Mem.write_wf hm) (by omega)]
      simpa using Mem.read_write_same hm
    | succ i =>
      have := ih (m := Mem.write m a c) (a := a + 1) (i := i) (Mem.write_wf hm) (by simpa using h)
      simpa [Nat.add_assoc, Nat.add_comm, Nat.add_left_comm] using this

/-- Bytes written are read back. -/
theorem Mem.readBytes_writeBytes {m : Mem} {a : Nat} {bs : List Byte} (hm : Mem.wf m = true) :
    Mem.readBytes (Mem.writeBytes m a bs) a bs.length = bs := by
  apply List.ext_getElem
  · simp [Mem.readBytes]
  · intro i h1 h2
    simp only [Mem.readBytes, List.getElem_map, List.getElem_range]
    exact Mem.read_writeBytes_same hm h2

/-- Bytes outside those written are read as before. -/
theorem Mem.readBytes_writeBytes_other {m : Mem} {a b n : Nat} {bs : List Byte} (hm : Mem.wf m = true) (h : b + n ≤ a ∨ a + bs.length ≤ b) :
    Mem.readBytes (Mem.writeBytes m a bs) b n = Mem.readBytes m b n := by
  simp only [Mem.readBytes]
  apply List.map_congr_left
  intro i hi
  rw [List.mem_range] at hi
  exact Mem.read_writeBytes_other hm (by omega)

@[simp] theorem leBytes_length (n v : Nat) : (leBytes n v).length = n := by
  induction n generalizing v with
  | zero => rfl
  | succ n ih => simp [leBytes, ih]

/-- A number written in `n` little-endian bytes reads back modulo their range. -/
theorem leNat_leBytes (n v : Nat) : leNat (leBytes n v) = v % 256 ^ n := by
  induction n generalizing v with
  | zero => simp [leBytes, leNat, Nat.mod_one]
  | succ n ih =>
    have e : 256 ^ (n + 1) = 256 * 256 ^ n := by rw [Nat.pow_succ, Nat.mul_comm]
    simp only [leBytes, leNat, ih, BitVec.toNat_ofNat, e, Nat.mod_mul]

@[simp] theorem wordsBytes_length (ws : List Word) : (wordsBytes ws).length = 4 * ws.length := by
  induction ws with
  | nil => rfl
  | cons x ws ih => simp [wordsBytes] at *; omega

end Sys2Proof.Machine
end

