-- ==== Sys2Proof/Laws/Answer.lean ====
section
/-!
SUPPORT. Sys2Proof/Laws/Answer.lean: what taking a descriptor and answering it do, said once (11 R328, R330), for the proofs of the commands'
statements.
-/
namespace Sys2Proof.Machine

/-! ## Lists -/

theorem modNth_getD_same {α : Type} (l : List α) (n : Nat) (f : α → α) (d : α) (h : n < l.length) :
    (modNth l n f).getD n d = f (l.getD n d) := by
  induction l generalizing n with
  | nil => simp at h
  | cons x xs ih =>
    cases n with
    | zero => simp [modNth]
    | succ n => simpa [modNth] using ih n (by simpa using h)

theorem modNth_getD_other {α : Type} (l : List α) (n k : Nat) (f : α → α) (d : α) (h : k ≠ n) :
    (modNth l n f).getD k d = l.getD k d := by
  induction l generalizing n k with
  | nil => simp [modNth]
  | cons x xs ih =>
    cases n with
    | zero => cases k with
      | zero => omega
      | succ k => simp [modNth]
    | succ n => cases k with
      | zero => simp [modNth]
      | succ k => simpa [modNth] using ih n k (by omega)

@[simp] theorem modNth_length {α : Type} (l : List α) (n : Nat) (f : α → α) : (modNth l n f).length = l.length := by
  induction l generalizing n with
  | nil => rfl
  | cons x xs ih => cases n <;> simp [modNth, ih]

theorem modNth_modNth {α : Type} (l : List α) (n : Nat) (f g : α → α) : modNth (modNth l n f) n g = modNth l n (fun x => g (f x)) := by
  induction l generalizing n with
  | nil => rfl
  | cons x xs ih => cases n <;> simp [modNth, ih]

/-! ## Port and window alone -/

theorem ApartPort.refl (s : State) : ApartPort s s := rfl

theorem ApartPort.trans {a b c : State} (h1 : ApartPort a b) (h2 : ApartPort b c) : ApartPort a c := by
  cases a; cases b; cases c
  simp only [ApartPort, State.mk.injEq] at *
  simp_all

theorem ApartPort.symm {a b : State} (h : ApartPort a b) : ApartPort b a := by
  cases a; cases b
  simp only [ApartPort, State.mk.injEq] at *
  simp_all

theorem winWrite_apart (a : Nat) (bs : List Byte) (s : State) : ApartPort (winWrite a bs s) s := rfl
theorem modPort_apart (f : Port → Port) (s : State) : ApartPort (modPort f s) s := rfl
theorem raise_apart (a b : Nat) (s : State) : ApartPort (raise a b s) s := rfl
theorem raiseIf_apart (c : Bool) (a b : Nat) (s : State) : ApartPort (raiseIf c a b s) s := rfl
theorem modRing_apart (r : Nat) (f : Ring → Ring) (s : State) : ApartPort (modRing r f s) s := rfl

theorem writeBack_apart (off : Nat) (w0 : Word) (w1 : Option Word) (w4 w5 w6 w7 : Word) (s : State) :
    ApartPort (writeBack off w0 w1 w4 w5 w6 w7 s) s := by
  cases w1 <;> simp only [writeBack]
  · exact (winWrite_apart _ _ _).trans (winWrite_apart _ _ _)
  · exact (winWrite_apart _ _ _).trans ((winWrite_apart _ _ _).trans (winWrite_apart _ _ _))

theorem releaseHeld_apart (h : Held) (s : State) : ApartPort (releaseHeld h s) s := by
  unfold releaseHeld
  exact (modRing_apart _ _ _).trans ((raiseIf_apart _ _ _ _).trans (modPort_apart _ _))

theorem finish_apart (h : Held) (st : Nat) (w4 w5 w6 : Word) (n : Nat) (s : State) : ApartPort (finish h st w4 w5 w6 n s) s := by
  unfold finish
  exact (releaseHeld_apart _ _).trans (writeBack_apart _ _ _ _ _ _ _ _)

theorem done_apart (h : Held) (st : Nat) (s : State) : ApartPort (done h st s) s := finish_apart _ _ _ _ _ _ _

theorem doneBytes_apart (h : Held) (bs : List Byte) (w4 w5 w6 : Word) (s : State) : ApartPort (doneBytes h bs w4 w5 w6 s) s := by
  unfold doneBytes; split
  · exact done_apart _ _ _
  · exact (finish_apart _ _ _ _ _ _ _).trans (winWrite_apart _ _ _)

theorem takeHead_apart (r : Nat) (s : State) : ApartPort (takeHead r s) s := by
  unfold takeHead
  exact (modRing_apart _ _ _).trans (modPort_apart _ _)

theorem takenState_apart (s : State) (r : Nat) (a : List (Nat × Nat)) : ApartPort (takenState s r a) s := by
  unfold takenState
  exact (modPort_apart _ _).trans (takeHead_apart _ _)

theorem setKind_apart (h : Held) (k : HeldKind) (s : State) : ApartPort (setKind h k s) s := modPort_apart _ _

theorem ringError_apart (r c : Nat) (s : State) : ApartPort (ringError r c s) s := by
  unfold ringError
  exact (modRing_apart _ _ _).trans ((raise_apart _ _ _).trans (modPort_apart _ _))

theorem deliverEvent_apart (h : Held) (e : Event) (s : State) : ApartPort (deliverEvent h e s) s := by
  unfold deliverEvent
  exact (releaseHeld_apart _ _).trans ((writeBack_apart _ _ _ _ _ _ _ _).trans (winWrite_apart _ _ _))

theorem postEvent_apart (c : Nat) (p : List Byte) (s : State) : ApartPort (postEvent c p s) s := by
  unfold postEvent; dsimp only; split
  · exact deliverEvent_apart _ _ _
  · split
    · exact modPort_apart _ _
    · exact (raise_apart _ _ _).trans (modPort_apart _ _)

theorem settleFrom_apart (n : Nat) (s : State) : ApartPort (settleFrom n s) s := by
  induction n generalizing s with
  | zero => rfl
  | succ n ih =>
    unfold settleFrom
    split
    · exact ApartPort.refl _
    · split
      · exact (ih _).trans (ringError_apart _ _ _)
      · split
        · exact ApartPort.refl _
        · exact (ih _).trans ((done_apart _ _ _).trans (takeHead_apart _ _))

/-- Settling touches nothing but the port and the window. -/
theorem settle_apart (s : State) : ApartPort (settle s) s := settleFrom_apart _ s

/-! ## The window -/

theorem winWrite_wf {a : Nat} {bs : List Byte} {s : State} (h : Mem.wf s.win = true) : Mem.wf (winWrite a bs s).win = true :=
  Mem.writeBytes_wf h

theorem winWrite_read_other {a b : Nat} {bs : List Byte} {s : State} (hw : Mem.wf s.win = true) (h : b < a ∨ a + bs.length ≤ b) :
    Mem.read (winWrite a bs s).win b = Mem.read s.win b := by
  apply Mem.read_writeBytes_other hw
  have : (bs.take (windowBytes - a)).length ≤ bs.length := by rw [List.length_take]; omega
  omega

theorem winWrite_readBytes {a : Nat} {bs : List Byte} {s : State} (hw : Mem.wf s.win = true) (h : a + bs.length ≤ windowBytes) :
    Mem.readBytes (winWrite a bs s).win a bs.length = bs := by
  simp only [winWrite]
  rw [List.take_of_length_le (by omega)]
  exact Mem.readBytes_writeBytes hw

theorem readBytes_congr {m n : Mem} {a k : Nat} (h : ∀ b, a ≤ b → b < a + k → Mem.read m b = Mem.read n b) :
    Mem.readBytes m a k = Mem.readBytes n a k := by
  simp only [Mem.readBytes]
  apply List.map_congr_left
  intro i hi
  rw [List.mem_range] at hi
  exact h _ (by omega) (by omega)

/-- A word written at its place is read back. -/
theorem winWord_winWrite {a : Nat} {v : Word} {s : State} (hw : Mem.wf s.win = true) (h : a + 4 ≤ windowBytes) :
    winWord (winWrite a (leBytes 4 v.toNat) s) a = v := by
  have := winWrite_readBytes (a := a) (bs := leBytes 4 v.toNat) hw (by simpa using h)
  rw [leBytes_length] at this
  rw [winWord, this, leNat_leBytes]
  apply BitVec.eq_of_toNat_eq
  have := v.isLt
  simp only [BitVec.toNat_ofNat]
  omega

theorem winWord_congr {s u : State} {a : Nat} (h : ∀ b, a ≤ b → b < a + 4 → Mem.read u.win b = Mem.read s.win b) : winWord u a = winWord s a := by
  rw [winWord, winWord, readBytes_congr h]

theorem wordsBytes_single (v : Word) : wordsBytes [v] = leBytes 4 v.toNat := by simp [wordsBytes]

theorem Mem.writeBytes_append (m : Mem) (a : Nat) (xs ys : List Byte) :
    Mem.writeBytes m a (xs ++ ys) = Mem.writeBytes (Mem.writeBytes m a xs) (a + xs.length) ys := by
  induction xs generalizing m a with
  | nil => simp [Mem.writeBytes]
  | cons x xs ih => simp [Mem.writeBytes, ih, Nat.add_assoc, Nat.add_comm 1]

/-- Four words written are four words written one by one. -/
theorem winWrite_four {a : Nat} {w4 w5 w6 w7 : Word} {s : State} (h : a + 16 ≤ windowBytes) :
    winWrite a (wordsBytes [w4, w5, w6, w7]) s =
      winWrite (a + 12) (leBytes 4 w7.toNat) (winWrite (a + 8) (leBytes 4 w6.toNat) (winWrite (a + 4) (leBytes 4 w5.toNat)
        (winWrite a (leBytes 4 w4.toNat) s))) := by
  have e : ∀ (b : Nat) (v : Word), b + 4 ≤ windowBytes → (leBytes 4 v.toNat).take (windowBytes - b) = leBytes 4 v.toNat := by
    intro b v hb
    exact List.take_of_length_le (by simp; omega)
  have e0 : (wordsBytes [w4, w5, w6, w7]).take (windowBytes - a) = wordsBytes [w4, w5, w6, w7] :=
    List.take_of_length_le (by simp; omega)
  simp only [winWrite]
  rw [e0, e _ _ (by omega), e _ _ (by omega), e _ _ (by omega), e _ _ (by omega)]
  have : wordsBytes [w4, w5, w6, w7] = leBytes 4 w4.toNat ++ (leBytes 4 w5.toNat ++ (leBytes 4 w6.toNat ++ leBytes 4 w7.toNat)) := by
    simp [wordsBytes]
  rw [this, Mem.writeBytes_append, Mem.writeBytes_append, Mem.writeBytes_append]
  simp [Nat.add_assoc]

/-- What writing back a completed descriptor leaves in the window. -/
theorem writeBack_window {off : Nat} {w0 w4 w5 w6 w7 : Word} {s : State} (hw : Mem.wf s.win = true) (h : off + 32 ≤ windowBytes) :
    let u := writeBack off w0 none w4 w5 w6 w7 s
    winWord u off = w0 ∧ winWord u (off + 16) = w4 ∧ winWord u (off + 20) = w5 ∧ winWord u (off + 24) = w6 ∧ winWord u (off + 28) = w7 ∧
    (∀ a, (a < off ∨ (off + 4 ≤ a ∧ a < off + 16) ∨ off + 32 ≤ a) → Mem.read u.win a = Mem.read s.win a) ∧ Mem.wf u.win = true := by
  intro u
  have hu : u = winWrite off (leBytes 4 w0.toNat) (winWrite (off + 28) (leBytes 4 w7.toNat) (winWrite (off + 24) (leBytes 4 w6.toNat)
      (winWrite (off + 20) (leBytes 4 w5.toNat) (winWrite (off + 16) (leBytes 4 w4.toNat) s)))) := by
    show writeBack off w0 none w4 w5 w6 w7 s = _
    simp only [writeBack]
    rw [winWrite_four (by omega), wordsBytes_single]
  have w1 := winWrite_wf (a := off + 16) (bs := leBytes 4 w4.toNat) hw
  have w2 := winWrite_wf (a := off + 20) (bs := leBytes 4 w5.toNat) w1
  have w3 := winWrite_wf (a := off + 24) (bs := leBytes 4 w6.toNat) w2
  have w4' := winWrite_wf (a := off + 28) (bs := leBytes 4 w7.toNat) w3
  have w5' := winWrite_wf (a := off) (bs := leBytes 4 w0.toNat) w4'
  rw [hu]
  refine ⟨winWord_winWrite w4' (by omega), ?_, ?_, ?_, ?_, ?_, w5'⟩
  · rw [winWord_congr (s := winWrite (off + 16) (leBytes 4 w4.toNat) s), winWord_winWrite hw (by omega)]
    intro b h1 h2
    rw [winWrite_read_other w4' (by simp; omega), winWrite_read_other w3 (by simp; omega), winWrite_read_other w2 (by simp; omega),
      winWrite_read_other w1 (by simp; omega)]
  · rw [winWord_congr, winWord_winWrite w1 (by omega)]
    intro b h1 h2
    rw [winWrite_read_other w4' (by simp; omega), winWrite_read_other w3 (by simp; omega), winWrite_read_other w2 (by simp; omega)]
  · rw [winWord_congr, winWord_winWrite w2 (by omega)]
    intro b h1 h2
    rw [winWrite_read_other w4' (by simp; omega), winWrite_read_other w3 (by simp; omega)]
  · rw [winWord_congr, winWord_winWrite w3 (by omega)]
    intro b h1 h2
    rw [winWrite_read_other w4' (by simp; omega)]
  · intro a ha
    rw [winWrite_read_other w4' (by simp; omega), winWrite_read_other w3 (by simp; omega), winWrite_read_other w2 (by simp; omega),
      winWrite_read_other w1 (by simp; omega), winWrite_read_other hw (by simp; omega)]

/-! ## A descriptor taken and accepted -/

theorem getRing_modRing_same {s : State} {r : Nat} {f : Ring → Ring} (h : r < s.port.rings.length) :
    getRing (modRing r f s) r = f (getRing s r) := modNth_getD_same _ _ _ _ h

theorem getRing_modRing_other {s : State} {r q : Nat} {f : Ring → Ring} (h : q ≠ r) : getRing (modRing r f s) q = getRing s q :=
  modNth_getD_other _ _ _ _ _ h

/-- A ring that has descriptors is one of the 64. -/
theorem ring_exists {s : State} {r : Nat} (h : (getRing s r).take < (getRing s r).size) : r < s.port.rings.length := by
  rcases Nat.lt_or_ge r s.port.rings.length with hr | hr
  · exact hr
  · simp [getRing, List.getD, List.getElem?_eq_none hr, Ring.reset] at h

theorem gate_taken (s : State) (r op : Nat) (a : List (Nat × Nat)) : gate (takenState s r a) op = gate s op := rfl

/-- An accepted command runs in the taken state, and the rings settle after it. -/
theorem runCmd_accepted {s : State} {r op : Nat} {areas : List (Nat × Nat)} {buf : Held → State → Bool}
    {extra : Held → State → List (Nat × Nat)} {body : Held → State → State} (hA : Accepted s r op areas)
    (hn : namedAreas (headHeld s r) (buf (headHeld s r) s) (if (headHeld s r).argc = 0 then [] else extra (headHeld s r) s) = areas)
    (hb : buf (headHeld s r) s = true → (headHeld s r).len ≠ 0 ∨ r = 3) :
    runCmd r op buf extra body s = settle (body { headHeld s r with areas := areas } (takenState s r areas)) := by
  obtain ⟨h1, h2, h3, -, -, -, h7, h8, h9, h10⟩ := hA
  have hi : ((decide ((opcodeArgs r op).getD 0 ≠ 0) && (headHeld s r).argc == 0) ||
      (buf (headHeld s r) s && (headHeld s r).len == 0 && !(r == 3))) = false := by
    rw [Bool.eq_false_iff]
    intro hc
    simp only [Bool.or_eq_true, Bool.and_eq_true, decide_eq_true_eq, beq_iff_eq, Bool.not_eq_true', beq_eq_false_iff_ne] at hc
    rcases hc with ⟨ha, hb'⟩ | ⟨⟨ha, hl⟩, hr⟩
    · rw [h10] at hb'; exact ha hb'
    · rcases hb ha with h | h
      · exact h hl
      · exact hr h
  unfold runCmd
  rw [if_neg (by simp [h1, h2, h3])]
  dsimp only
  rw [hi]
  simp only [Bool.false_eq_true, if_false]
  rw [hn, h8]
  have hf : (s.dev.failed && !failedServes r op) = false := by
    rcases h7 with h | h <;> simp [h]
  rw [hf]
  simp only [Bool.false_eq_true, if_false]
  change settle (match gate (takenState s r areas) op with
    | some st => _
    | none => _) = _
  rw [gate_taken, h9]
  rfl

/-- An accepted command that takes no buffer. -/
theorem cmdPlain_accepted {s : State} {r op : Nat} {body : Held → State → State} (hA : Accepted s r op []) :
    cmdPlain r op body s = .next (settle (body (headHeld s r) (takenState s r []))) := by
  unfold cmdPlain
  rw [runCmd_accepted hA (by simp [namedAreas, noBuf, noExtra]) (by simp [noBuf])]
  rfl

/-- An accepted command that takes a buffer. -/
theorem cmdBuf_accepted {s : State} {r op : Nat} {body : Held → State → State} (hA : AcceptedBuf s r op) :
    cmdBuf r op body s = .next (settle (body { headHeld s r with areas := [headBuf s r] } (takenState s r [headBuf s r]))) := by
  unfold cmdBuf
  rw [runCmd_accepted hA.1 (by simp [namedAreas, takesBuf, noExtra, hA.2, headBuf]) (fun _ => .inl hA.2)]

/-! ## A descriptor answered -/

theorem headHeld_ring (s : State) (r : Nat) : (headHeld s r).ring = r := rfl
theorem headHeld_idx (s : State) (r : Nat) : (headHeld s r).idx = (getRing s r).take := rfl

theorem taken_rings (s : State) (r : Nat) (areas : List (Nat × Nat)) :
    (takenState s r areas).port.rings = modNth s.port.rings r (fun x => { x with take := (x.take + 1) % x.size }) := rfl

theorem taken_held (s : State) (r : Nat) (areas : List (Nat × Nat)) :
    (takenState s r areas).port.held =
      (s.port.held ++ [headHeld s r]).map fun x =>
        if x.ring == r && x.idx == (headHeld s r).idx then { headHeld s r with areas := areas } else x := rfl

/-- What completing the taken descriptor leaves of the port. -/
theorem finish_answeredPort {s t : State} {r st n : Nat} {w4 w5 w6 : Word} {areas : List (Nat × Nat)}
    (hr : (getRing s r).take < (getRing s r).size) (hp : t.port = (takenState s r areas).port) :
    AnsweredPort s r (finish { headHeld s r with areas := areas } st w4 w5 w6 n t) := by
  have hlen := ring_exists hr
  have hport : ∀ (u : State) (off : Nat) (a b c d e : Word), (writeBack off a none b c d e u).port = u.port := fun _ _ _ _ _ _ _ => rfl
  have hheld : (finish { headHeld s r with areas := areas } st w4 w5 w6 n t).port.held =
      (takenState s r areas).port.held.filter fun x => !(x.ring == r && x.idx == (headHeld s r).idx) := by
    rw [← hp]; rfl
  have hrings : (finish { headHeld s r with areas := areas } st w4 w5 w6 n t).port.rings =
      modNth (modNth s.port.rings r (fun x => { x with take := (x.take + 1) % x.size })) r
        (fun x => { x with free := freeAdvance (finish { headHeld s r with areas := areas } st w4 w5 w6 n t).port.held r x }) := by
    rw [← taken_rings s r areas, ← hp]; rfl
  refine ⟨?_, ?_, ?_, ?_, ?_, ?_, ?_⟩
  · rw [findHeld, hheld, List.find?_eq_none]
    intro x hx
    have := (List.mem_filter.1 hx).2
    simp only [Bool.not_eq_true'] at this
    rw [this]; decide
  · intro x hx
    rw [hheld, taken_held, List.mem_filter, List.mem_map]
    have hx' : (x.ring == r && x.idx == (headHeld s r).idx) = false := by
      cases hb : (x.ring == r && x.idx == (headHeld s r).idx)
      · rfl
      · simp only [Bool.and_eq_true, beq_iff_eq] at hb; exact absurd hb hx
    constructor
    · rintro ⟨⟨y, hy, he⟩, -⟩
      split at he
      · subst he; simp [headHeld_ring] at hx'
      · subst he
        rcases List.mem_append.1 hy with h | h
        · exact h
        · rw [List.mem_singleton] at h
          subst h; simp [headHeld_ring] at hx'
    · intro h
      refine ⟨⟨x, List.mem_append_left _ h, by rw [hx']; rfl⟩, by rw [hx']; rfl⟩
  · have : (finish { headHeld s r with areas := areas } st w4 w5 w6 n t).port.ringDone =
        if (headHeld s r).irq then t.port.ringDone ||| (1 <<< r) else t.port.ringDone := rfl
    rw [this, hp]; rfl
  · rw [getRing, hrings, modNth_modNth, modNth_getD_same _ _ _ _ hlen]; rfl
  · rw [getRing, hrings, modNth_modNth, modNth_getD_same _ _ _ _ hlen]; rfl
  · intro q hq
    rw [getRing, hrings, modNth_modNth, modNth_getD_other _ _ _ _ _ hq]; rfl
  · have e : { (finish { headHeld s r with areas := areas } st w4 w5 w6 n t).port with
        rings := s.port.rings, lastRing := s.port.lastRing, held := s.port.held, ringDone := s.port.ringDone } =
      { t.port with rings := s.port.rings, lastRing := s.port.lastRing, held := s.port.held, ringDone := s.port.ringDone } := rfl
    rw [e, hp]; rfl

theorem headOffset_taken (s : State) (r : Nat) (h : (getRing s r).take < (getRing s r).size) (areas : List (Nat × Nat)) :
    (getRing (takenState s r areas) r).base = (getRing s r).base := by
  rw [getRing, taken_rings, modNth_getD_same _ _ _ _ (ring_exists h)]; rfl

/-- Completing the taken descriptor with result words and no bytes answers it. -/
theorem finish_answered {s t : State} {r st : Nat} {w4 w5 w6 : Word} {areas : List (Nat × Nat)}
    (hr : (getRing s r).take < (getRing s r).size) (ho : headOffset s r + 32 ≤ windowBytes) (hw : Mem.wf s.win = true)
    (hp : t.port = (takenState s r areas).port) (hwin : t.win = s.win) :
    Answered s r st w4 w5 w6 [] (finish { headHeld s r with areas := areas } st w4 w5 w6 0 t) := by
  refine ⟨?_, finish_answeredPort hr hp⟩
  have hb : (getRing t r).base + 32 * (getRing s r).take = headOffset s r := by
    rw [headOffset, ← headOffset_taken s r hr areas, getRing, hp]; rfl
  have hwt : Mem.wf t.win = true := by rw [hwin]; exact hw
  have key := writeBack_window (off := headOffset s r) (w0 := BitVec.ofNat 32 ((headHeld s r).seq * 65536 + (headHeld s r).opcode))
    (w4 := w4) (w5 := w5) (w6 := w6) (w7 := BitVec.ofNat 32 (0 * 65536 + st)) hwt ho
  have hu : (finish { headHeld s r with areas := areas } st w4 w5 w6 0 t).win =
      (writeBack (headOffset s r) (BitVec.ofNat 32 ((headHeld s r).seq * 65536 + (headHeld s r).opcode)) none w4 w5 w6
        (BitVec.ofNat 32 (0 * 65536 + st)) t).win := by
    rw [← hb]; rfl
  have hword : ∀ a, winWord (finish { headHeld s r with areas := areas } st w4 w5 w6 0 t) a =
      winWord (writeBack (headOffset s r) (BitVec.ofNat 32 ((headHeld s r).seq * 65536 + (headHeld s r).opcode)) none w4 w5 w6
        (BitVec.ofNat 32 (0 * 65536 + st)) t) a := by
    intro a; rw [winWord, winWord, hu]
  obtain ⟨k0, k4, k5, k6, k7, kr, -⟩ := key
  refine ⟨by rw [hword]; exact k0, by rw [hword]; exact k4, by rw [hword]; exact k5, by rw [hword]; exact k6, by rw [hword]; simpa using k7,
    rfl, ?_⟩
  intro a ha _
  rw [hu, kr a ha, hwin]

/-- A checked area lies in the window and outside the descriptor at take (R328 check 3). -/
theorem area_outside {s : State} {r op : Nat} {areas : List (Nat × Nat)} (hA : Accepted s r op areas) {a : Nat × Nat} (ha : a ∈ areas) :
    a.1 + a.2 ≤ windowBytes ∧ (a.1 + a.2 ≤ headOffset s r ∨ headOffset s r + 32 ≤ a.1) := by
  obtain ⟨-, -, -, hr, -, -, -, hc, -, -⟩ := hA
  have hall : areaAllowed (takeHead r s) a.1 a.2 = true := by
    unfold checkStatus at hc
    split at hc
    · cases hc
    · split at hc
      · cases hc
      · split at hc
        · cases hc
        · rename_i h
          simp only [Bool.not_eq_true, Bool.not_eq_false', List.all_eq_true] at h
          exact h a ha
  simp only [areaAllowed, Bool.and_eq_true, decide_eq_true_eq, List.all_eq_true, Bool.or_eq_true, beq_iff_eq] at hall
  refine ⟨hall.1, ?_⟩
  have hlen := ring_exists hr
  have hmem : getRing (takeHead r s) r ∈ (takeHead r s).port.rings := by
    have : r < (takeHead r s).port.rings.length := by simpa [takeHead, modRing, modPort] using hlen
    simp [getRing, List.getD, this]
  have hx := hall.2 _ hmem
  have hg : getRing (takeHead r s) r = { getRing s r with take := ((getRing s r).take + 1) % (getRing s r).size } := by
    show (modNth s.port.rings r _).getD r _ = _
    rw [modNth_getD_same _ _ _ _ hlen]; rfl
  rw [hg] at hx
  dsimp only at hx
  unfold headOffset
  omega

/-- Completing the taken descriptor with bytes at the start of its buffer answers it. -/
theorem doneBytes_answered {s t : State} {r op : Nat} {w4 w5 w6 : Word} {bs : List Byte} (hA : AcceptedBuf s r op)
    (hl : bs.length ≤ (headHeld s r).len) (hp : t.port = (takenState s r [headBuf s r]).port) (hwin : t.win = s.win) :
    Answered s r ST_OK w4 w5 w6 bs (doneBytes { headHeld s r with areas := [headBuf s r] } bs w4 w5 w6 t) := by
  obtain ⟨hout1, hout2⟩ := area_outside hA.1 (a := headBuf s r) (by simp)
  simp only [headBuf] at hout1 hout2
  obtain ⟨-, -, -, hr, ho, hw, -, -, -, -⟩ := hA.1
  unfold doneBytes
  rw [if_neg (by dsimp only; omega)]
  refine ⟨?_, finish_answeredPort hr (by rw [← hp]; rfl)⟩
  have hb : (getRing (winWrite (headHeld s r).buf bs t) r).base + 32 * (getRing s r).take = headOffset s r := by
    rw [headOffset, ← headOffset_taken s r hr [headBuf s r], getRing]
    show (t.port.rings.getD r _).base + _ = _
    rw [hp]; rfl
  have hwt : Mem.wf t.win = true := by rw [hwin]; exact hw
  have hwb := winWrite_wf (a := (headHeld s r).buf) (bs := bs) hwt
  have key := writeBack_window (off := headOffset s r) (w0 := BitVec.ofNat 32 ((headHeld s r).seq * 65536 + (headHeld s r).opcode))
    (w4 := w4) (w5 := w5) (w6 := w6) (w7 := BitVec.ofNat 32 (bs.length * 65536 + ST_OK)) hwb ho
  have hu : (finish { headHeld s r with areas := [headBuf s r] } ST_OK w4 w5 w6 bs.length (winWrite (headHeld s r).buf bs t)).win =
      (writeBack (headOffset s r) (BitVec.ofNat 32 ((headHeld s r).seq * 65536 + (headHeld s r).opcode)) none w4 w5 w6
        (BitVec.ofNat 32 (bs.length * 65536 + ST_OK)) (winWrite (headHeld s r).buf bs t)).win := by
    rw [← hb]; rfl
  have hword : ∀ a, winWord (finish { headHeld s r with areas := [headBuf s r] } ST_OK w4 w5 w6 bs.length (winWrite (headHeld s r).buf bs t)) a =
      winWord (writeBack (headOffset s r) (BitVec.ofNat 32 ((headHeld s r).seq * 65536 + (headHeld s r).opcode)) none w4 w5 w6
        (BitVec.ofNat 32 (bs.length * 65536 + ST_OK)) (winWrite (headHeld s r).buf bs t)) a := by
    intro a; rw [winWord, winWord, hu]
  obtain ⟨k0, k4, k5, k6, k7, kr, -⟩ := key
  refine ⟨by rw [hword]; exact k0, by rw [hword]; exact k4, by rw [hword]; exact k5, by rw [hword]; exact k6, by rw [hword]; exact k7, ?_, ?_⟩
  · show Mem.readBytes (finish { headHeld s r with areas := [headBuf s r] } ST_OK w4 w5 w6 bs.length (winWrite (headHeld s r).buf bs t)).win
      (headHeld s r).buf bs.length = bs
    rw [hu, readBytes_congr (n := (winWrite (headHeld s r).buf bs t).win), winWrite_readBytes hwt (by omega)]
    intro b h1 h2
    exact kr b (by omega)
  · intro a ha hab
    rw [hu, kr a ha, winWrite_read_other hwt (by omega), hwin]

end Sys2Proof.Machine
end

