-- ==== Sys2Proof/Laws/Keeps.lean ====
section
/-!
SUPPORT. Sys2Proof/Laws/Keeps.lean: the relation that every operation keeps between the state it is given and the state it answers: the queue
of commands is the same, and a well-shaped state stays one. Lemmas have the form "from s0 on": what held of the state before holds after.
-/
namespace Sys2Proof.Machine

/-- `t` has the queue of `s`, and is well shaped if `s` is. -/
def Keeps (s t : State) : Prop := t.pending = s.pending ∧ (WellShaped s → WellShaped t)

/-- An outcome that is a next state which keeps `s`. -/
def Answers (s : State) (o : Host.Outcome State Fault Refusal) : Prop := ∃ t, o = .next t ∧ Keeps s t

theorem Keeps.refl (s : State) : Keeps s s := ⟨rfl, id⟩

theorem Keeps.trans {a b c : State} (h1 : Keeps a b) (h2 : Keeps b c) : Keeps a c := ⟨h2.1.trans h1.1, fun w => h2.2 (h1.2 w)⟩

theorem Keeps.ite {s a b : State} {c : Prop} [Decidable c] (ha : Keeps s a) (hb : Keeps s b) : Keeps s (if c then a else b) := by
  split <;> assumption

theorem Keeps.fst {α : Type} {s t : State} {x : α} {p : State × α} (e : p = (t, x)) (h : Keeps s p.1) : Keeps s t := by
  subst e; exact h

theorem Keeps.some {s t : State} {o : Option State} (e : o = Option.some t) (h : ∀ t, o = Option.some t → Keeps s t) : Keeps s t := h t e

theorem Keeps.getD {α : Type} {s0 s : State} (o : Option α) (f : α → State) (hf : ∀ x, Keeps s0 (f x)) (h : Keeps s0 s) :
    Keeps s0 ((o.map f).getD s) := by
  cases o with
  | none => exact h
  | some x => exact hf x

theorem Keeps.foldl {α : Type} {s0 s : State} (l : List α) (f : State → α → State) (hf : ∀ s x, Keeps s0 s → Keeps s0 (f s x))
    (h : Keeps s0 s) : Keeps s0 (l.foldl f s) := by
  induction l generalizing s with
  | nil => exact h
  | cons x xs ih => exact ih (hf s x h)

theorem Keeps.foldr {α : Type} {s0 s : State} (l : List α) (f : α → State → State) (hf : ∀ x s, Keeps s0 s → Keeps s0 (f x s))
    (h : Keeps s0 s) : Keeps s0 (l.foldr f s) := by
  induction l with
  | nil => exact h
  | cons x xs ih => exact hf x _ ih

theorem Keeps.foldlFst {α β : Type} {s0 : State} (l : List α) (f : State × β → α → State × β)
    (hf : ∀ p x, Keeps s0 p.1 → Keeps s0 (f p x).1) {p : State × β} (h : Keeps s0 p.1) : Keeps s0 (l.foldl f p).1 := by
  induction l generalizing p with
  | nil => exact h
  | cons x xs ih => exact ih (hf p x h)

theorem Answers.next {s t : State} (h : Keeps s t) : Answers s (.next t) := ⟨t, rfl, h⟩

theorem Answers.ite {s : State} {a b : Host.Outcome State Fault Refusal} {c : Prop} [Decidable c] (ha : Answers s a) (hb : Answers s b) :
    Answers s (if c then a else b) := by
  split <;> assumption

/-- A state that differs in nothing the relation looks at. -/
theorem Keeps.same {s0 s t : State} (h : Keeps s0 s) (hp : t.pending = s.pending) (hw : t.win = s.win) (hn : t.nv = s.nv) (hr : t.port = s.port)
    (hl : t.lines.length = s.lines.length) (hk : t.keys.length = s.keys.length) (ho : t.locks.length = s.locks.length) (ht : t.tb = s.tb) :
    Keeps s0 t := by
  refine ⟨hp.trans h.1, fun w => ?_⟩
  have := h.2 w
  simp only [WellShaped, MemoriesCanonical, hw, hn, hr, hl, hk, ho, ht] at this ⊢
  exact this

/-! ## Updates of one field -/

theorem modDev_keeps {s0 s : State} {f : Dev → Dev} (h : Keeps s0 s) : Keeps s0 (modDev f s) := h
theorem modSched_keeps {s0 s : State} {f : Sched → Sched} (h : Keeps s0 s) : Keeps s0 (modSched f s) := h
theorem modRoster_keeps {s0 s : State} {f : Roster → Roster} (h : Keeps s0 s) : Keeps s0 (modRoster f s) := h
theorem modIsl_keeps {s0 s : State} {f : Island → Island} (h : Keeps s0 s) : Keeps s0 (modIsl f s) := h
theorem modProx_keeps {s0 s : State} {f : Prox → Prox} (h : Keeps s0 s) : Keeps s0 (modProx f s) := h
theorem modRadio_keeps {s0 s : State} {f : Radio → Radio} (h : Keeps s0 s) : Keeps s0 (modRadio f s) := h
theorem modSec_keeps {s0 s : State} {f : Sec → Sec} (h : Keeps s0 s) : Keeps s0 (modSec f s) := h
theorem modPwr_keeps {s0 s : State} {f : Pwr → Pwr} (h : Keeps s0 s) : Keeps s0 (modPwr f s) := h
theorem modTwin_keeps {s0 s : State} {f : Twin → Twin} (h : Keeps s0 s) : Keeps s0 (modTwin f s) := h
theorem modBus_keeps {s0 s : State} {f : Bus → Bus} (h : Keeps s0 s) : Keeps s0 (modBus f s) := h
theorem modUpd_keeps {s0 s : State} {f : Upd → Upd} (h : Keeps s0 s) : Keeps s0 (modUpd f s) := h
theorem modMnt_keeps {s0 s : State} {f : Maint → Maint} (h : Keeps s0 s) : Keeps s0 (modMnt f s) := h

theorem modPar_keeps {s0 s : State} {f : Cells → Cells} (h : Keeps s0 s) : Keeps s0 (modPar f s) := h
theorem modStaged_keeps {s0 s : State} {f : Cells → Cells} (h : Keeps s0 s) : Keeps s0 (modStaged f s) := h
theorem modIlk_keeps {s0 s : State} {f : BitVec 12 → BitVec 12} (h : Keeps s0 s) : Keeps s0 (modIlk f s) := h

theorem setLive_keeps {s0 s : State} {id : Nat} {v : Word} (h : Keeps s0 s) : Keeps s0 (setLive id v s) := h

theorem modKeys_keeps {s0 s : State} {f : List Key → List Key} (h : Keeps s0 s) (hf : WellShaped s → (f s.keys).length = 32) :
    Keeps s0 (modKeys f s) :=
  ⟨h.1, fun w => have ⟨a, b, c, d, e⟩ := h.2 w; ⟨a, b, c, hf ⟨a, b, c, d, e⟩, e⟩⟩

theorem modNv_keeps {s0 s : State} {f : Nv → Nv} (h : Keeps s0 s) (ho : ∀ n, Mem.wf n.otp = true → Mem.wf (f n).otp = true)
    (hk : ∀ n, n.keyTab.length = 32 → (f n).keyTab.length = 32) : Keeps s0 (modNv f s) :=
  ⟨h.1, fun w => have ⟨⟨a, b⟩, c, d, e, g, r⟩ := h.2 w; ⟨⟨a, ho _ b⟩, c, d, e, hk _ g, r⟩⟩

theorem modPort_keeps {s0 s : State} {f : Port → Port} (h : Keeps s0 s) (hf : ∀ p, (f p).rings.length = p.rings.length) :
    Keeps s0 (modPort f s) :=
  ⟨h.1, fun w => have ⟨a, c, d⟩ := h.2 w; ⟨a, (hf _).trans c, d⟩⟩

theorem modTb_keeps {s0 s : State} {f : TimeBase → TimeBase} (h : Keeps s0 s) (hs : ∀ t, (f t).src.length = t.src.length)
    (ht : ∀ t, (f t).tmr.length = t.tmr.length) : Keeps s0 (modTb f s) :=
  ⟨h.1, fun w => have ⟨a, b, c, d, e, g, r, q⟩ := h.2 w; ⟨a, b, c, d, e, g, (hs _).trans r, (ht _).trans q⟩⟩

theorem modRing_keeps {s0 s : State} {r : Nat} {f : Ring → Ring} (h : Keeps s0 s) : Keeps s0 (modRing r f s) :=
  modPort_keeps h fun p => by simp

theorem modSrc_keeps {s0 s : State} {n : Nat} {f : AngleSrc → AngleSrc} (h : Keeps s0 s) : Keeps s0 (modSrc n f s) :=
  modTb_keeps h (fun t => by simp) fun _ => rfl

theorem modTmr_keeps {s0 s : State} {n : Nat} {f : Tmr → Tmr} (h : Keeps s0 s) : Keeps s0 (modTmr n f s) :=
  modTb_keeps h (fun _ => rfl) fun t => by simp

theorem modKeyNv_keeps {s0 s : State} {k : Nat} {f : KeyNv → KeyNv} (h : Keeps s0 s) : Keeps s0 (modKeyNv k f s) :=
  modNv_keeps h (fun _ h => h) fun n h => by simpa using h

theorem modLine_keeps {s0 s : State} {l : Nat} {f : Line → Line} (h : Keeps s0 s) : Keeps s0 (modLine l f s) :=
  h.same rfl rfl rfl rfl (by simp [modLine]) rfl rfl rfl

theorem modKey_keeps {s0 s : State} {k : Nat} {f : Key → Key} (h : Keeps s0 s) : Keeps s0 (modKey k f s) :=
  h.same rfl rfl rfl rfl rfl (by simp [modKey]) rfl rfl

theorem modLock_keeps {s0 s : State} {o : Nat} {f : Lock → Lock} (h : Keeps s0 s) : Keeps s0 (modLock o f s) :=
  h.same rfl rfl rfl rfl rfl rfl (by simp [modLock]) rfl

theorem winWrite_keeps {s0 s : State} {a : Nat} {bs : List Byte} (h : Keeps s0 s) : Keeps s0 (winWrite a bs s) :=
  ⟨h.1, fun w => have ⟨⟨x, y⟩, r⟩ := h.2 w; ⟨⟨winWrite_wf x, y⟩, r⟩⟩

theorem writeBack_keeps {s0 s : State} {off : Nat} {w0 : Word} {w1 : Option Word} {w4 w5 w6 w7 : Word} (h : Keeps s0 s) :
    Keeps s0 (writeBack off w0 w1 w4 w5 w6 w7 s) := by
  cases w1
  · exact winWrite_keeps (winWrite_keeps h)
  · exact winWrite_keeps (winWrite_keeps (winWrite_keeps h))

end Sys2Proof.Machine
end

