-- ==== Sys2Proof/Laws/Operations.lean ====
section
/-!
SUPPORT. Sys2Proof/Laws/Operations.lean: every operation and every command keeps the queue and the form of the state (Laws/Keeps.lean), one lemma
for each, in the order of the files under Machine/.
-/
namespace Sys2Proof.Machine

/-! ## Ops -/

theorem raise_keeps {s0 s : State} {a bits : Nat} (h : Keeps s0 s) : Keeps s0 (raise a bits s) := by
  unfold raise
  try dsimp only
  repeat' first
    | with_reducible assumption
    | with_reducible refine Keeps.ite ?_ ?_
    | split
    | (have hh := ‹Keeps s0 _›; exact Keeps.same hh rfl rfl rfl rfl rfl rfl rfl rfl)

theorem raiseIf_keeps {s0 s : State} {c : Bool} {a bits : Nat} (h : Keeps s0 s) : Keeps s0 (raiseIf c a bits s) := by
  unfold raiseIf
  try dsimp only
  repeat' first
    | with_reducible assumption
    | with_reducible refine Keeps.ite ?_ ?_
    | split
    | (have hh := ‹Keeps s0 _›; exact Keeps.same hh rfl rfl rfl rfl rfl rfl rfl rfl)

theorem raiseIlk_keeps {s0 s : State} {bit : Nat} (h : Keeps s0 s) : Keeps s0 (raiseIlk bit s) := by
  unfold raiseIlk
  try dsimp only
  repeat' first
    | with_reducible assumption
    | with_reducible refine modIlk_keeps ?_
    | with_reducible refine raise_keeps ?_

theorem raiseTwin_keeps {s0 s : State} {bit : Nat} (h : Keeps s0 s) : Keeps s0 (raiseTwin bit s) := by
  unfold raiseTwin
  try dsimp only
  repeat' first
    | with_reducible assumption
    | with_reducible refine modTwin_keeps ?_
    | with_reducible refine raise_keeps ?_

theorem raiseWake_keeps {s0 s : State} {bits : BitVec 5} (h : Keeps s0 s) : Keeps s0 (raiseWake bits s) := by
  unfold raiseWake
  try dsimp only
  repeat' first
    | with_reducible assumption
    | with_reducible refine modPwr_keeps ?_
    | with_reducible refine raise_keeps ?_

theorem releaseHeld_keeps {s0 s : State} {hd : Held} (h : Keeps s0 s) : Keeps s0 (releaseHeld hd s) := by
  unfold releaseHeld
  try dsimp only
  repeat' first
    | with_reducible assumption
    | with_reducible refine modRing_keeps ?_
    | with_reducible refine raiseIf_keeps ?_
    | with_reducible refine modPort_keeps ?_ (fun _ => rfl)

theorem finish_keeps {s0 s : State} {hd : Held} {status : Nat} {w4 w5 w6 : Word} {rlen : Nat} (h : Keeps s0 s) : Keeps s0 (finish hd status w4 w5 w6 rlen s) := by
  unfold finish
  try dsimp only
  repeat' first
    | with_reducible assumption
    | with_reducible refine writeBack_keeps ?_
    | with_reducible refine releaseHeld_keeps ?_

theorem complete_keeps {s0 s : State} {ring idx status : Nat} {w4 w5 w6 : Word} {rlen : Nat} (h : Keeps s0 s) : Keeps s0 (complete ring idx status w4 w5 w6 rlen s) := by
  unfold complete
  try dsimp only
  repeat' first
    | with_reducible assumption
    | with_reducible refine finish_keeps ?_
    | with_reducible refine Keeps.ite ?_ ?_
    | split

theorem done_keeps {s0 s : State} {hd : Held} {status : Nat} (h : Keeps s0 s) : Keeps s0 (done hd status s) := by
  unfold done
  try dsimp only
  repeat' first
    | with_reducible assumption
    | with_reducible refine finish_keeps ?_

theorem done1_keeps {s0 s : State} {hd : Held} {status : Nat} {w4 : Word} (h : Keeps s0 s) : Keeps s0 (done1 hd status w4 s) := by
  unfold done1
  try dsimp only
  repeat' first
    | with_reducible assumption
    | with_reducible refine finish_keeps ?_

theorem completeWhere_keeps {s0 s : State} {p : Held → Bool} {status : Nat} {w4 w5 w6 : Word} (h : Keeps s0 s) : Keeps s0 (completeWhere p status w4 w5 w6 s) := by
  unfold completeWhere
  try dsimp only
  repeat' first
    | with_reducible assumption
    | with_reducible refine finish_keeps ?_
    | with_reducible refine Keeps.ite ?_ ?_
    | with_reducible refine Keeps.foldl _ _ (fun _ _ _ => ?_) ?_

theorem setKind_keeps {s0 s : State} {hd : Held} {k : HeldKind} (h : Keeps s0 s) : Keeps s0 (setKind hd k s) := by
  unfold setKind
  try dsimp only
  repeat' first
    | with_reducible assumption
    | with_reducible refine modPort_keeps ?_ (fun _ => rfl)

theorem returnAreas_keeps {s0 s : State} {hd : Held} (h : Keeps s0 s) : Keeps s0 (returnAreas hd s) := by
  unfold returnAreas
  try dsimp only
  repeat' first
    | with_reducible assumption
    | with_reducible refine modPort_keeps ?_ (fun _ => rfl)

theorem deliverEvent_keeps {s0 s : State} {hd : Held} {e : Event} (h : Keeps s0 s) : Keeps s0 (deliverEvent hd e s) := by
  unfold deliverEvent
  try dsimp only
  repeat' first
    | with_reducible assumption
    | with_reducible refine winWrite_keeps ?_
    | with_reducible refine writeBack_keeps ?_
    | with_reducible refine releaseHeld_keeps ?_

theorem postEvent_keeps {s0 s : State} {code : Nat} {payload : List Byte} (h : Keeps s0 s) : Keeps s0 (postEvent code payload s) := by
  unfold postEvent
  try dsimp only
  repeat' first
    | with_reducible assumption
    | with_reducible refine raise_keeps ?_
    | with_reducible refine deliverEvent_keeps ?_
    | with_reducible refine modPort_keeps ?_ (fun _ => rfl)
    | with_reducible refine Keeps.ite ?_ ?_
    | split

theorem used_keeps {s0 s : State} {n : Nat} (h : Keeps s0 s) : Keeps s0 (used n s) := h

/-! ## Time -/

theorem captureTrig_keeps {s0 s : State} {trig : Nat} (h : Keeps s0 s) : Keeps s0 (captureTrig trig s) := by
  unfold captureTrig
  try dsimp only
  repeat' first
    | with_reducible assumption
    | with_reducible refine raise_keeps ?_
    | with_reducible refine modTb_keeps ?_ (fun _ => rfl) (fun _ => rfl)
    | with_reducible refine modTb_keeps ?_ (fun _ => by simp) (fun _ => by simp)
    | with_reducible refine Keeps.ite ?_ ?_
    | with_reducible refine Keeps.foldl _ _ (fun _ _ _ => ?_) ?_

theorem tickEdges_keeps {s0 s : State} {src : Nat} (h : Keeps s0 s) : Keeps s0 (tickEdges src s) := by
  unfold tickEdges
  try dsimp only
  repeat' first
    | with_reducible assumption
    | with_reducible refine raise_keeps ?_
    | with_reducible refine modTb_keeps ?_ (fun _ => rfl) (fun _ => rfl)
    | with_reducible refine modTb_keeps ?_ (fun _ => by simp) (fun _ => by simp)
    | with_reducible refine Keeps.ite ?_ ?_
    | with_reducible refine Keeps.foldl _ _ (fun _ _ _ => ?_) ?_

theorem advance_keeps {s0 s : State} {k : Nat} (h : Keeps s0 s) : Keeps s0 (advance k s) := by
  unfold advance
  dsimp only
  split
  · exact h
  · split
    · refine ⟨h.1, fun w => ?_⟩
      have ⟨a, b, c, d, e, g, r, q⟩ := h.2 w
      exact ⟨a, b, c, d, e, g, by simpa using r, by simpa using q⟩
    · exact h.same rfl rfl rfl rfl rfl rfl rfl rfl

theorem advanceTo_keeps {s0 s : State} {t : Nat} (h : Keeps s0 s) : Keeps s0 (advanceTo t s) := by
  unfold advanceTo
  try dsimp only
  repeat' first
    | with_reducible assumption
    | with_reducible refine advance_keeps ?_
    | with_reducible refine Keeps.ite ?_ ?_

/-! ## Angle -/

theorem actSrc_keeps {s0 s : State} {n : Nat} {f : AngleSrc → AngleSrc} (h : Keeps s0 s) : Keeps s0 (actSrc n f s) := by
  unfold actSrc
  try dsimp only
  repeat' first
    | with_reducible assumption
    | with_reducible refine modSrc_keeps ?_
    | with_reducible refine raise_keeps ?_
    | with_reducible refine captureTrig_keeps ?_
    | with_reducible refine Keeps.ite ?_ ?_

theorem skipEntries_keeps {s0 s : State} {n : Nat} (h : Keeps s0 s) : Keeps s0 (skipEntries n s) := by
  unfold skipEntries
  try dsimp only
  repeat' first
    | with_reducible assumption
    | with_reducible refine modSched_keeps ?_

theorem retreat_keeps {s0 s : State} {n : Nat} (h : Keeps s0 s) : Keeps s0 (retreat n s) := by
  unfold retreat
  try dsimp only
  repeat' first
    | with_reducible assumption
    | with_reducible refine modSched_keeps ?_

theorem enableSource_keeps {s0 s : State} {n : Nat} (h : Keeps s0 s) : Keeps s0 (enableSource n s) := by
  unfold enableSource
  try dsimp only
  repeat' first
    | with_reducible assumption
    | with_reducible refine modSched_keeps ?_
    | with_reducible refine modSrc_keeps ?_
    | with_reducible refine actSrc_keeps ?_
    | with_reducible refine skipEntries_keeps ?_

theorem execAngleGlitch_keeps {s0 s : State} {src clocks : Nat} (h : Keeps s0 s) : Answers s0 (execAngleGlitch src clocks s) := by
  unfold execAngleGlitch
  try dsimp only
  repeat' first
    | with_reducible assumption
    | with_reducible refine actSrc_keeps ?_
    | with_reducible refine Answers.next ?_
    | with_reducible refine Keeps.ite ?_ ?_
    | with_reducible refine Answers.ite ?_ ?_

theorem passClr_keeps {s0 s : State} {chan : Nat} (h : Keeps s0 s) : Keeps s0 (passClr chan s) := by
  unfold passClr
  try dsimp only
  repeat' first
    | with_reducible assumption
    | with_reducible refine advance_keeps ?_
    | with_reducible refine Keeps.ite ?_ ?_

theorem execTmrCompareMatch_keeps {s0 s : State} {chan : Nat} (h : Keeps s0 s) : Answers s0 (execTmrCompareMatch chan s) := by
  unfold execTmrCompareMatch
  try dsimp only
  repeat' first
    | with_reducible assumption
    | with_reducible refine advance_keeps ?_
    | with_reducible refine passClr_keeps ?_
    | with_reducible refine Answers.next ?_
    | with_reducible refine Keeps.ite ?_ ?_
    | with_reducible refine Answers.ite ?_ ?_

theorem execTmrOverflow_keeps {s0 s : State} {chan : Nat} (h : Keeps s0 s) : Answers s0 (execTmrOverflow chan s) := by
  unfold execTmrOverflow
  try dsimp only
  repeat' first
    | with_reducible assumption
    | with_reducible refine advance_keeps ?_
    | with_reducible refine passClr_keeps ?_
    | with_reducible refine Answers.next ?_
    | with_reducible refine Keeps.ite ?_ ?_
    | with_reducible refine Answers.ite ?_ ?_

theorem execTmrCaptureTrigger_keeps {s0 s : State} {trig : Nat} (h : Keeps s0 s) : Answers s0 (execTmrCaptureTrigger trig s) := by
  unfold execTmrCaptureTrigger
  try dsimp only
  repeat' first
    | with_reducible assumption
    | with_reducible refine captureTrig_keeps ?_
    | with_reducible refine Answers.next ?_
    | with_reducible refine Keeps.ite ?_ ?_
    | with_reducible refine Answers.ite ?_ ?_

/-! ## Flags -/

theorem logFault_keeps {s0 s : State} {code arg : Nat} (h : Keeps s0 s) : Keeps s0 (logFault code arg s) := by
  unfold logFault
  try dsimp only
  repeat' first
    | with_reducible assumption
    | with_reducible refine modNv_keeps ?_ (fun _ h => h) (fun _ h => h)

theorem retire_keeps {s0 s : State} (h : Keeps s0 s) : Keeps s0 (retire s) := by
  unfold retire
  try dsimp only
  repeat' first
    | with_reducible assumption
    | with_reducible refine modSec_keeps ?_

theorem bumpNonce_keeps {s0 s : State} (h : Keeps s0 s) : Keeps s0 (bumpNonce s) := by
  unfold bumpNonce
  try dsimp only
  repeat' first
    | with_reducible assumption
    | with_reducible refine modSec_keeps ?_

theorem noteMirror_keeps {s0 s : State} {m : TwinMsg} (h : Keeps s0 s) : Keeps s0 (noteMirror m s) := by
  unfold noteMirror
  try dsimp only
  repeat' first
    | with_reducible assumption
    | with_reducible refine modTwin_keeps ?_
    | with_reducible refine Keeps.ite ?_ ?_
    | split

theorem aesJob_keeps {s0 s : State} (h : Keeps s0 s) : Keeps s0 (aesJob s) := by
  unfold aesJob
  try dsimp only
  repeat' first
    | with_reducible assumption
    | with_reducible refine modSec_keeps ?_

theorem sendTwin_keeps {s0 s : State} {m : TwinMsg} (h : Keeps s0 s) : Keeps s0 (sendTwin m s) := by
  unfold sendTwin
  try dsimp only
  repeat' first
    | with_reducible assumption
    | with_reducible refine modTwin_keeps ?_
    | with_reducible refine retire_keeps ?_
    | with_reducible refine bumpNonce_keeps ?_
    | with_reducible refine noteMirror_keeps ?_
    | with_reducible refine aesJob_keeps ?_
    | with_reducible refine Keeps.ite ?_ ?_

theorem sendClear_keeps {s0 s : State} {m : TwinMsg} (h : Keeps s0 s) : Keeps s0 (sendClear m s) := by
  unfold sendClear
  try dsimp only
  repeat' first
    | with_reducible assumption
    | with_reducible refine modTwin_keeps ?_

theorem sendTwinUp_keeps {s0 s : State} {m : TwinMsg} (h : Keeps s0 s) : Keeps s0 (sendTwinUp m s) := by
  unfold sendTwinUp
  try dsimp only
  repeat' first
    | with_reducible assumption
    | with_reducible refine sendTwin_keeps ?_
    | with_reducible refine Keeps.ite ?_ ?_

theorem sendMirror_keeps {s0 s : State} {q : Nat} {recs : List MirrorRec} (h : Keeps s0 s) : Keeps s0 (sendMirror q recs s) := by
  unfold sendMirror
  try dsimp only
  repeat' first
    | with_reducible assumption
    | with_reducible refine sendTwinUp_keeps ?_
    | with_reducible refine Keeps.ite ?_ ?_

theorem sendWaiting_keeps {s0 s : State} (h : Keeps s0 s) : Keeps s0 (sendWaiting s) := by
  unfold sendWaiting
  try dsimp only
  repeat' first
    | with_reducible assumption
    | with_reducible refine sendMirror_keeps ?_
    | with_reducible refine Keeps.ite ?_ ?_
    | with_reducible refine Keeps.foldl _ _ (fun _ _ _ => ?_) ?_

theorem mirrorChange_keeps {s0 s : State} {recs : List MirrorRec} (h : Keeps s0 s) : Keeps s0 (mirrorChange recs s) := by
  unfold mirrorChange
  try dsimp only
  repeat' first
    | with_reducible assumption
    | with_reducible refine modTwin_keeps ?_
    | with_reducible refine sendMirror_keeps ?_
    | with_reducible refine Keeps.ite ?_ ?_

theorem finishMirrored_keeps {s0 s : State} {seq0 : Nat} {hd : Held} {status : Nat} {w4 w5 w6 : Word} {rlen : Nat} (h : Keeps s0 s) : Keeps s0 (finishMirrored seq0 hd status w4 w5 w6 rlen s) := by
  unfold finishMirrored
  try dsimp only
  repeat' first
    | with_reducible assumption
    | with_reducible refine modTwin_keeps ?_
    | with_reducible refine finish_keeps ?_
    | with_reducible refine setKind_keeps ?_
    | with_reducible refine Keeps.ite ?_ ?_

/-! ## Bus -/

theorem queueTx_keeps {s0 s : State} {t : BusTx} (h : Keeps s0 s) : Keeps s0 (queueTx t s) := by
  unfold queueTx
  try dsimp only
  repeat' first
    | with_reducible assumption
    | with_reducible refine modBus_keeps ?_

theorem sendPgn_keeps {s0 s : State} {prio pgn dest : Nat} {data : List Byte} (h : Keeps s0 s) : Keeps s0 (sendPgn prio pgn dest data s) := by
  unfold sendPgn
  try dsimp only
  repeat' first
    | with_reducible assumption
    | with_reducible refine queueTx_keeps ?_

theorem loseSends_keeps {s0 s : State} (h : Keeps s0 s) : Keeps s0 (loseSends s) := by
  unfold loseSends
  try dsimp only
  repeat' first
    | with_reducible assumption
    | with_reducible refine modBus_keeps ?_
    | with_reducible refine complete_keeps ?_
    | with_reducible refine Keeps.ite ?_ ?_
    | with_reducible refine Keeps.foldl _ _ (fun _ _ _ => ?_) ?_

theorem setAddr_keeps {s0 s : State} {addr cause : Nat} (h : Keeps s0 s) : Keeps s0 (setAddr addr cause s) := by
  unfold setAddr
  try dsimp only
  repeat' first
    | with_reducible assumption
    | with_reducible refine modBus_keeps ?_
    | with_reducible refine postEvent_keeps ?_
    | with_reducible refine mirrorChange_keeps ?_
    | with_reducible refine loseSends_keeps ?_
    | with_reducible refine Keeps.ite ?_ ?_

theorem claimFrame_keeps {s0 s : State} (h : Keeps s0 s) : Keeps s0 (claimFrame s) := by
  unfold claimFrame
  try dsimp only
  repeat' first
    | with_reducible assumption
    | with_reducible refine sendPgn_keeps ?_

theorem claimAddress_keeps {s0 s : State} {addr cause : Nat} (h : Keeps s0 s) : Keeps s0 (claimAddress addr cause s) := by
  unfold claimAddress
  try dsimp only
  repeat' first
    | with_reducible assumption
    | with_reducible refine modBus_keeps ?_
    | with_reducible refine setAddr_keeps ?_
    | with_reducible refine claimFrame_keeps ?_

theorem cannotClaim_keeps {s0 s : State} (h : Keeps s0 s) : Keeps s0 (cannotClaim s) := by
  unfold cannotClaim
  try dsimp only
  repeat' first
    | with_reducible assumption
    | with_reducible refine modBus_keeps ?_
    | with_reducible refine setAddr_keeps ?_
    | with_reducible refine claimFrame_keeps ?_

theorem busStart_keeps {s0 s : State} {addr : Nat} (h : Keeps s0 s) : Keeps s0 (busStart addr s) := by
  unfold busStart
  try dsimp only
  repeat' first
    | with_reducible assumption
    | with_reducible refine modBus_keeps ?_
    | with_reducible refine claimAddress_keeps ?_
    | with_reducible refine Keeps.ite ?_ ?_
    | split

theorem modSess_keeps {s0 s : State} {id : Nat} {f : BusSess → BusSess} (h : Keeps s0 s) : Keeps s0 (modSess id f s) := by
  unfold modSess
  try dsimp only
  repeat' first
    | with_reducible assumption
    | with_reducible refine modBus_keeps ?_

theorem dropSess_keeps {s0 s : State} {id : Nat} (h : Keeps s0 s) : Keeps s0 (dropSess id s) := by
  unfold dropSess
  try dsimp only
  repeat' first
    | with_reducible assumption
    | with_reducible refine modBus_keeps ?_

theorem sendCm_keeps {s0 s : State} {ext : Bool} {dest : Nat} {data : List Nat} {pgn : Nat} (h : Keeps s0 s) : Keeps s0 (sendCm ext dest data pgn s) := by
  unfold sendCm
  try dsimp only
  repeat' first
    | with_reducible assumption
    | with_reducible refine sendPgn_keeps ?_

theorem sendAbort_keeps {s0 s : State} {x : BusSess} {reason : Nat} (h : Keeps s0 s) : Keeps s0 (sendAbort x reason s) := by
  unfold sendAbort
  try dsimp only
  repeat' first
    | with_reducible assumption
    | with_reducible refine sendCm_keeps ?_

theorem openSess_keeps {s0 s : State} {x : BusSess} (h : Keeps s0 s) : Keeps s0 (openSess x s) := by
  unfold openSess
  try dsimp only
  repeat' first
    | with_reducible assumption
    | with_reducible refine modSess_keeps ?_
    | with_reducible refine sendCm_keeps ?_

theorem startWaiting_keeps {s0 s : State} (h : Keeps s0 s) : Keeps s0 (startWaiting s) := by
  unfold startWaiting
  try dsimp only
  repeat' first
    | with_reducible assumption
    | with_reducible refine openSess_keeps ?_
    | with_reducible refine Keeps.ite ?_ ?_
    | with_reducible refine Keeps.foldl _ _ (fun _ _ _ => ?_) ?_

theorem endSend_keeps {s0 s : State} {x : BusSess} {status : Nat} (h : Keeps s0 s) : Keeps s0 (endSend x status s) := by
  unfold endSend
  try dsimp only
  repeat' first
    | with_reducible assumption
    | with_reducible refine modBus_keeps ?_
    | with_reducible refine complete_keeps ?_
    | with_reducible refine dropSess_keeps ?_
    | with_reducible refine startWaiting_keeps ?_
    | with_reducible refine Keeps.ite ?_ ?_
    | split

theorem sendMessage_keeps {s0 s : State} {ref : Option (Nat × Nat)} {prio pgn dest : Nat} {data : List Byte} (h : Keeps s0 s) : Keeps s0 (sendMessage ref prio pgn dest data s) := by
  unfold sendMessage
  try dsimp only
  repeat' first
    | with_reducible assumption
    | with_reducible refine modBus_keeps ?_
    | with_reducible refine queueTx_keeps ?_
    | with_reducible refine startWaiting_keeps ?_
    | with_reducible refine Keeps.ite ?_ ?_

theorem clearBus_keeps {s0 s : State} {status : Nat} (h : Keeps s0 s) : Keeps s0 (clearBus status s) := by
  unfold clearBus
  try dsimp only
  repeat' first
    | with_reducible assumption
    | with_reducible refine modBus_keeps ?_
    | with_reducible refine complete_keeps ?_
    | with_reducible refine Keeps.ite ?_ ?_
    | with_reducible refine Keeps.foldl _ _ (fun _ _ _ => ?_) ?_

theorem busRestart_keeps {s0 s : State} (h : Keeps s0 s) : Keeps s0 (busRestart s) := by
  unfold busRestart
  try dsimp only
  repeat' first
    | with_reducible assumption
    | with_reducible refine modBus_keeps ?_
    | with_reducible refine setAddr_keeps ?_
    | with_reducible refine busStart_keeps ?_
    | with_reducible refine clearBus_keeps ?_
    | with_reducible refine Keeps.ite ?_ ?_

theorem execBusOffEntry_keeps {s0 s : State} (h : Keeps s0 s) : Answers s0 (execBusOffEntry s) := by
  unfold execBusOffEntry
  try dsimp only
  repeat' first
    | with_reducible assumption
    | with_reducible refine modBus_keeps ?_
    | with_reducible refine postEvent_keeps ?_
    | with_reducible refine clearBus_keeps ?_
    | with_reducible refine Answers.next ?_
    | with_reducible refine Keeps.ite ?_ ?_
    | with_reducible refine Answers.ite ?_ ?_

theorem execBusOffRecovery_keeps {s0 s : State} (h : Keeps s0 s) : Answers s0 (execBusOffRecovery s) := by
  unfold execBusOffRecovery
  try dsimp only
  repeat' first
    | with_reducible assumption
    | with_reducible refine modBus_keeps ?_
    | with_reducible refine postEvent_keeps ?_
    | with_reducible refine busStart_keeps ?_
    | with_reducible refine Answers.next ?_
    | with_reducible refine Keeps.ite ?_ ?_
    | with_reducible refine Answers.ite ?_ ?_

theorem execClaimHoldoffExpiry_keeps {s0 s : State} (h : Keeps s0 s) : Answers s0 (execClaimHoldoffExpiry s) := by
  unfold execClaimHoldoffExpiry
  try dsimp only
  repeat' first
    | with_reducible assumption
    | with_reducible refine modBus_keeps ?_
    | with_reducible refine advanceTo_keeps ?_
    | with_reducible refine Answers.next ?_
    | with_reducible refine Keeps.ite ?_ ?_
    | with_reducible refine Answers.ite ?_ ?_
    | split

theorem execCanFrameSent_keeps {s0 s : State} (h : Keeps s0 s) : Answers s0 (execCanFrameSent s) := by
  unfold execCanFrameSent
  try dsimp only
  repeat' first
    | with_reducible assumption
    | with_reducible refine modBus_keeps ?_
    | with_reducible refine complete_keeps ?_
    | with_reducible refine Answers.next ?_
    | with_reducible refine Keeps.ite ?_ ?_
    | with_reducible refine Answers.ite ?_ ?_
    | split

theorem execBamFrameTimer_keeps {s0 s : State} (h : Keeps s0 s) : Answers s0 (execBamFrameTimer s) := by
  unfold execBamFrameTimer
  try dsimp only
  repeat' first
    | with_reducible assumption
    | with_reducible refine advanceTo_keeps ?_
    | with_reducible refine queueTx_keeps ?_
    | with_reducible refine modSess_keeps ?_
    | with_reducible refine dropSess_keeps ?_
    | with_reducible refine startWaiting_keeps ?_
    | with_reducible refine Answers.next ?_
    | with_reducible refine Keeps.ite ?_ ?_
    | with_reducible refine Answers.ite ?_ ?_
    | split

theorem execTpTimeout_keeps {s0 s : State} {session : Nat} (h : Keeps s0 s) : Answers s0 (execTpTimeout session s) := by
  unfold execTpTimeout
  try dsimp only
  repeat' first
    | with_reducible assumption
    | with_reducible refine advanceTo_keeps ?_
    | with_reducible refine dropSess_keeps ?_
    | with_reducible refine sendAbort_keeps ?_
    | with_reducible refine endSend_keeps ?_
    | with_reducible refine Answers.next ?_
    | with_reducible refine Keeps.ite ?_ ?_
    | with_reducible refine Answers.ite ?_ ?_
    | split

/-! ## KeyStore -/

theorem otpBurn_keeps {s0 s : State} {a : Nat} {bs : List Byte} (h : Keeps s0 s) : Keeps s0 (otpBurn a bs s) :=
  modNv_keeps h (fun _ w => Mem.writeBytes_wf w) (fun _ h => h)

theorem burnSecver_keeps {s0 s : State} {v : Nat} (h : Keeps s0 s) : Keeps s0 (burnSecver v s) := by
  unfold burnSecver
  try dsimp only
  repeat' first
    | with_reducible assumption
    | with_reducible refine otpBurn_keeps ?_

theorem raiseGen_keeps {s0 s : State} {slot : Nat} (h : Keeps s0 s) : Keeps s0 (raiseGen slot s) := by
  unfold raiseGen
  try dsimp only
  repeat' first
    | with_reducible assumption
    | with_reducible refine modNv_keeps ?_ (fun _ h => h) (fun _ h => h)

theorem dropRecord_keeps {s0 s : State} {slot : Nat} (h : Keeps s0 s) : Keeps s0 (dropRecord slot s) := by
  unfold dropRecord
  try dsimp only
  repeat' first
    | with_reducible assumption
    | with_reducible refine modNv_keeps ?_ (fun _ h => h) (fun _ h => h)

theorem mirrorSlot_keeps {s0 s : State} {slot : Nat} (h : Keeps s0 s) : Keeps s0 (mirrorSlot slot s) := by
  unfold mirrorSlot
  try dsimp only
  repeat' first
    | with_reducible assumption
    | with_reducible refine mirrorChange_keeps ?_
    | with_reducible refine Keeps.ite ?_ ?_
    | split

theorem writeSlot_keeps {s0 s : State} {slot type usage owner : Nat} {key : List Byte} (h : Keeps s0 s) : Keeps s0 (writeSlot slot type usage owner key s) := by
  unfold writeSlot
  try dsimp only
  repeat' first
    | with_reducible assumption
    | with_reducible refine raiseGen_keeps ?_
    | with_reducible refine mirrorSlot_keeps ?_
    | with_reducible refine modNv_keeps ?_ (fun _ h => h) (fun _ h => h)
    | with_reducible refine modNv_keeps ?_ (fun _ h => h) (fun _ h => by simpa using h)
    | with_reducible refine Keeps.ite ?_ ?_

theorem destroySlot_keeps {s0 s : State} {slot : Nat} (h : Keeps s0 s) : Keeps s0 (destroySlot slot s) := by
  unfold destroySlot
  try dsimp only
  repeat' first
    | with_reducible assumption
    | with_reducible refine raiseGen_keeps ?_
    | with_reducible refine dropRecord_keeps ?_
    | with_reducible refine mirrorSlot_keeps ?_
    | with_reducible refine Keeps.ite ?_ ?_

theorem setMark_keeps {s0 s : State} {n : Nat} {v : Word} (h : Keeps s0 s) : Keeps s0 (setMark n v s) := by
  unfold setMark
  try dsimp only
  repeat' first
    | with_reducible assumption
    | with_reducible refine modNv_keeps ?_ (fun _ h => h) (fun _ h => h)

theorem setLiveCounter_keeps {s0 s : State} {n : Nat} {v : Word} (h : Keeps s0 s) : Keeps s0 (setLiveCounter n v s) := by
  unfold setLiveCounter
  try dsimp only
  repeat' first
    | with_reducible assumption
    | with_reducible refine modSec_keeps ?_

theorem advanceCounter_keeps {s0 s : State} {n : Nat} (h : Keeps s0 s) : Keeps s0 (advanceCounter n s) := by
  unfold advanceCounter
  try dsimp only
  repeat' first
    | with_reducible assumption
    | with_reducible refine setMark_keeps ?_
    | with_reducible refine setLiveCounter_keeps ?_
    | with_reducible refine Keeps.ite ?_ ?_

/-! ## Locks -/

theorem modSvc_keeps {s0 s : State} {n : Nat} {f : Svc → Svc} (h : Keeps s0 s) : Keeps s0 (modSvc n f s) := by
  unfold modSvc
  try dsimp only
  repeat' first
    | with_reducible assumption
    | with_reducible refine modSched_keeps ?_

theorem addDemand_keeps {s0 s : State} {n : Nat} {d : Demand} (h : Keeps s0 s) : Keeps s0 (addDemand n d s) := by
  unfold addDemand
  try dsimp only
  repeat' first
    | with_reducible assumption
    | with_reducible refine modSvc_keeps ?_

theorem raiseDemand_keeps {s0 s : State} {type zones slot : Nat} (h : Keeps s0 s) : Keeps s0 (raiseDemand type zones slot s) := by
  unfold raiseDemand
  try dsimp only
  repeat' first
    | with_reducible assumption
    | with_reducible refine addDemand_keeps ?_
    | with_reducible refine Keeps.ite ?_ ?_
    | with_reducible refine Keeps.foldl _ _ (fun _ _ _ => ?_) ?_

theorem demandForKey_keeps {s0 s : State} {type slot : Nat} {own : Bool} (h : Keeps s0 s) : Keeps s0 (demandForKey type slot own s) := by
  unfold demandForKey
  try dsimp only
  repeat' first
    | with_reducible assumption
    | with_reducible refine addDemand_keeps ?_
    | with_reducible refine Keeps.ite ?_ ?_
    | with_reducible refine Keeps.foldl _ _ (fun _ _ _ => ?_) ?_

theorem setBarred_keeps {s0 s : State} {k : Nat} {b : Bool} (h : Keeps s0 s) : Keeps s0 (setBarred k b s) := by
  unfold setBarred
  try dsimp only
  repeat' first
    | with_reducible assumption
    | with_reducible refine modKeyNv_keeps ?_
    | with_reducible refine mirrorChange_keeps ?_

theorem keyEntry_keeps {s0 s : State} {k : Nat} (h : Keeps s0 s) : Keeps s0 (keyEntry k s) := by
  unfold keyEntry
  try dsimp only
  repeat' first
    | with_reducible assumption
    | with_reducible refine modKey_keeps ?_
    | with_reducible refine postEvent_keeps ?_
    | with_reducible refine Keeps.ite ?_ ?_

theorem toAway_keeps {s0 s : State} {k : Nat} (h : Keeps s0 s) : Keeps s0 (toAway k s) := by
  unfold toAway
  try dsimp only
  repeat' first
    | with_reducible assumption
    | with_reducible refine modKey_keeps ?_

theorem completeRequests_keeps {s0 s : State} {o status : Nat} (h : Keeps s0 s) : Keeps s0 (completeRequests o status s) := by
  unfold completeRequests
  try dsimp only
  repeat' first
    | with_reducible assumption
    | with_reducible refine completeWhere_keeps ?_

theorem observe_keeps {s0 s : State} {o bit : Nat} (h : Keeps s0 s) : Keeps s0 (observe o bit s) := by
  unfold observe
  try dsimp only
  repeat' first
    | with_reducible assumption
    | with_reducible refine modPort_keeps ?_ (fun _ => rfl)

theorem withdrawNotice_keeps {s0 s : State} {o status : Nat} (h : Keeps s0 s) : Keeps s0 (withdrawNotice o status s) := by
  unfold withdrawNotice
  try dsimp only
  repeat' first
    | with_reducible assumption
    | with_reducible refine modLock_keeps ?_
    | with_reducible refine sendTwinUp_keeps ?_
    | with_reducible refine completeRequests_keeps ?_

theorem cancelPulses_keeps {s0 s : State} {o : Nat} (h : Keeps s0 s) : Keeps s0 (cancelPulses o s) := by
  unfold cancelPulses
  try dsimp only
  repeat' first
    | with_reducible assumption
    | with_reducible refine modLock_keeps ?_
    | with_reducible refine sendTwinUp_keeps ?_

theorem startPulses_keeps {s0 s : State} {o : Nat} (h : Keeps s0 s) : Keeps s0 (startPulses o s) := by
  unfold startPulses
  try dsimp only
  repeat' first
    | with_reducible assumption
    | with_reducible refine modLock_keeps ?_
    | with_reducible refine cancelPulses_keeps ?_
    | with_reducible refine Keeps.ite ?_ ?_

theorem decideOutput_keeps {s0 s : State} {o : Nat} (h : Keeps s0 s) : Keeps s0 (decideOutput o s) := by
  unfold decideOutput
  try dsimp only
  repeat' first
    | with_reducible assumption
    | with_reducible refine modLock_keeps ?_
    | with_reducible refine sendTwinUp_keeps ?_
    | with_reducible refine observe_keeps ?_
    | with_reducible refine withdrawNotice_keeps ?_
    | with_reducible refine cancelPulses_keeps ?_
    | with_reducible refine startPulses_keeps ?_
    | with_reducible refine Keeps.ite ?_ ?_
    | split

theorem decideAll_keeps {s0 s : State} (h : Keeps s0 s) : Keeps s0 (decideAll s) := by
  unfold decideAll
  try dsimp only
  repeat' first
    | with_reducible assumption
    | with_reducible refine decideOutput_keeps ?_
    | with_reducible refine Keeps.ite ?_ ?_
    | with_reducible refine Keeps.foldl _ _ (fun _ _ _ => ?_) ?_

theorem speedDecides_keeps {s0 s : State} {n : Nat} (h : Keeps s0 s) : Keeps s0 (speedDecides n s) := by
  unfold speedDecides
  try dsimp only
  repeat' first
    | with_reducible assumption
    | with_reducible refine decideOutput_keeps ?_
    | with_reducible refine Keeps.ite ?_ ?_
    | with_reducible refine Keeps.foldl _ _ (fun _ _ _ => ?_) ?_

theorem stopOutput_keeps {s0 s : State} {o : Nat} (h : Keeps s0 s) : Keeps s0 (stopOutput o s) := by
  unfold stopOutput
  try dsimp only
  repeat' first
    | with_reducible assumption
    | with_reducible refine modLock_keeps ?_
    | with_reducible refine raiseIlk_keeps ?_
    | with_reducible refine sendTwinUp_keeps ?_

theorem dropOne_keeps {s0 s : State} {o cause : Nat} (h : Keeps s0 s) : Keeps s0 (dropOne o cause s) := by
  unfold dropOne
  try dsimp only
  repeat' first
    | with_reducible assumption
    | with_reducible refine modLock_keeps ?_
    | with_reducible refine postEvent_keeps ?_
    | with_reducible refine sendTwinUp_keeps ?_
    | with_reducible refine stopOutput_keeps ?_
    | with_reducible refine Keeps.ite ?_ ?_

theorem dropDependents_keeps {s0 s : State} (h : Keeps s0 s) : Keeps s0 (dropDependents s) := by
  unfold dropDependents
  try dsimp only
  repeat' first
    | with_reducible assumption
    | with_reducible refine withdrawNotice_keeps ?_
    | with_reducible refine dropOne_keeps ?_
    | with_reducible refine Keeps.ite ?_ ?_
    | with_reducible refine Keeps.foldl _ _ (fun _ _ _ => ?_) ?_

theorem dropOutput_keeps {s0 s : State} {o cause : Nat} (h : Keeps s0 s) : Keeps s0 (dropOutput o cause s) := by
  unfold dropOutput
  try dsimp only
  repeat' first
    | with_reducible assumption
    | with_reducible refine dropOne_keeps ?_
    | with_reducible refine dropDependents_keeps ?_
    | with_reducible refine Keeps.ite ?_ ?_

theorem dropAll_keeps {s0 s : State} {cause : Nat} (h : Keeps s0 s) : Keeps s0 (dropAll cause s) := by
  unfold dropAll
  try dsimp only
  repeat' first
    | with_reducible assumption
    | with_reducible refine dropOne_keeps ?_
    | with_reducible refine Keeps.ite ?_ ?_
    | with_reducible refine Keeps.foldl _ _ (fun _ _ _ => ?_) ?_

theorem locksStatic_keeps {s0 s : State} (h : Keeps s0 s) : Keeps s0 (locksStatic s) := by
  unfold locksStatic
  try dsimp only
  repeat' first
    | with_reducible assumption
    | with_reducible refine modLock_keeps ?_
    | with_reducible refine stopOutput_keeps ?_
    | with_reducible refine Keeps.ite ?_ ?_
    | with_reducible refine Keeps.foldl _ _ (fun _ _ _ => ?_) ?_

theorem readbackFault_keeps {s0 s : State} {o code : Nat} {event : Bool} (h : Keeps s0 s) : Keeps s0 (readbackFault o code event s) := by
  unfold readbackFault
  try dsimp only
  repeat' first
    | with_reducible assumption
    | with_reducible refine modLock_keeps ?_
    | with_reducible refine raiseIlk_keeps ?_
    | with_reducible refine postEvent_keeps ?_
    | with_reducible refine sendTwinUp_keeps ?_
    | with_reducible refine completeRequests_keeps ?_
    | with_reducible refine dropDependents_keeps ?_
    | with_reducible refine Keeps.ite ?_ ?_

theorem releaseOutput_keeps {s0 s : State} {o : Nat} (h : Keeps s0 s) : Keeps s0 (releaseOutput o s) := by
  unfold releaseOutput
  try dsimp only
  repeat' first
    | with_reducible assumption
    | with_reducible refine modLock_keeps ?_
    | with_reducible refine raiseIlk_keeps ?_
    | with_reducible refine postEvent_keeps ?_
    | with_reducible refine completeRequests_keeps ?_
    | with_reducible refine decideAll_keeps ?_

theorem confirmHold_keeps {s0 s : State} {o slot : Nat} (h : Keeps s0 s) : Keeps s0 (confirmHold o slot s) := by
  unfold confirmHold
  try dsimp only
  repeat' first
    | with_reducible assumption
    | with_reducible refine modLock_keeps ?_
    | with_reducible refine dropOutput_keeps ?_
    | with_reducible refine Keeps.ite ?_ ?_
    | split

theorem checkHolds_keeps {s0 s : State} {cause : Nat} (h : Keeps s0 s) : Keeps s0 (checkHolds cause s) := by
  unfold checkHolds
  try dsimp only
  repeat' first
    | with_reducible assumption
    | with_reducible refine modLock_keeps ?_
    | with_reducible refine dropOutput_keeps ?_
    | with_reducible refine Keeps.ite ?_ ?_
    | with_reducible refine Keeps.foldl _ _ (fun _ _ _ => ?_) ?_
    | split

theorem cancelOutput_keeps {s0 s : State} {o cause : Nat} (h : Keeps s0 s) : Keeps s0 (cancelOutput o cause s) := by
  unfold cancelOutput
  try dsimp only
  repeat' first
    | with_reducible assumption
    | with_reducible refine completeRequests_keeps ?_
    | with_reducible refine dropOutput_keeps ?_

theorem requestDemands_keeps {s0 s : State} {o : Nat} (h : Keeps s0 s) : Keeps s0 (requestDemands o s) := by
  unfold requestDemands
  try dsimp only
  repeat' first
    | with_reducible assumption
    | with_reducible refine raiseDemand_keeps ?_
    | with_reducible refine Keeps.ite ?_ ?_
    | with_reducible refine Keeps.foldl _ _ (fun _ _ _ => ?_) ?_

theorem demandsForRequests_keeps {s0 s : State} (h : Keeps s0 s) : Keeps s0 (demandsForRequests s) := by
  unfold demandsForRequests
  try dsimp only
  repeat' first
    | with_reducible assumption
    | with_reducible refine requestDemands_keeps ?_
    | with_reducible refine Keeps.ite ?_ ?_
    | with_reducible refine Keeps.foldl _ _ (fun _ _ _ => ?_) ?_

theorem fixDemands_keeps {s0 s : State} {k : Nat} (h : Keeps s0 s) : Keeps s0 (fixDemands k s) := by
  unfold fixDemands
  try dsimp only
  repeat' first
    | with_reducible assumption
    | with_reducible refine raiseDemand_keeps ?_
    | with_reducible refine Keeps.ite ?_ ?_
    | with_reducible refine Keeps.foldl _ _ (fun _ _ _ => ?_) ?_

theorem standingDemands_keeps {s0 s : State} (h : Keeps s0 s) : Keeps s0 (standingDemands s) := by
  unfold standingDemands
  try dsimp only
  repeat' first
    | with_reducible assumption
    | with_reducible refine demandsForRequests_keeps ?_
    | with_reducible refine fixDemands_keeps ?_
    | with_reducible refine Keeps.ite ?_ ?_
    | with_reducible refine Keeps.foldl _ _ (fun _ _ _ => ?_) ?_

theorem refuseRequests_keeps {s0 s : State} {k bit status : Nat} (h : Keeps s0 s) : Keeps s0 (refuseRequests k bit status s) := by
  unfold refuseRequests
  try dsimp only
  repeat' first
    | with_reducible assumption
    | with_reducible refine completeRequests_keeps ?_
    | with_reducible refine observe_keeps ?_
    | with_reducible refine Keeps.ite ?_ ?_
    | with_reducible refine Keeps.foldl _ _ (fun _ _ _ => ?_) ?_

theorem fobHeard_keeps {s0 s : State} {k : Nat} (h : Keeps s0 s) : Keeps s0 (fobHeard k s) := by
  unfold fobHeard
  try dsimp only
  repeat' first
    | with_reducible assumption
    | with_reducible refine modKey_keeps ?_
    | with_reducible refine demandsForRequests_keeps ?_

theorem authClean_keeps {s0 s : State} {k : Nat} (h : Keeps s0 s) : Keeps s0 (authClean k s) := by
  unfold authClean
  try dsimp only
  repeat' first
    | with_reducible assumption
    | with_reducible refine modKey_keeps ?_
    | with_reducible refine setBarred_keeps ?_
    | with_reducible refine keyEntry_keeps ?_
    | with_reducible refine decideAll_keeps ?_
    | with_reducible refine demandsForRequests_keeps ?_
    | with_reducible refine Keeps.ite ?_ ?_

theorem authFailed_keeps {s0 s : State} {k : Nat} (h : Keeps s0 s) : Keeps s0 (authFailed k s) := by
  unfold authFailed
  try dsimp only
  repeat' first
    | with_reducible assumption
    | with_reducible refine modKey_keeps ?_
    | with_reducible refine decideAll_keeps ?_
    | with_reducible refine checkHolds_keeps ?_
    | with_reducible refine refuseRequests_keeps ?_

theorem applyFix_keeps {s0 s : State} {k : Nat} {f : Fix} (h : Keeps s0 s) : Keeps s0 (applyFix k f s) := by
  unfold applyFix
  try dsimp only
  repeat' first
    | with_reducible assumption
    | with_reducible refine modKey_keeps ?_
    | with_reducible refine setBarred_keeps ?_
    | with_reducible refine keyEntry_keeps ?_
    | with_reducible refine decideAll_keeps ?_
    | with_reducible refine confirmHold_keeps ?_
    | with_reducible refine demandsForRequests_keeps ?_
    | with_reducible refine fixDemands_keeps ?_
    | with_reducible refine refuseRequests_keeps ?_
    | with_reducible refine Keeps.ite ?_ ?_
    | with_reducible refine Keeps.foldl _ _ (fun _ _ _ => ?_) ?_

/-! ## RosterOps -/

theorem mirrorEntry_keeps {s0 s : State} {handle : Nat} (h : Keeps s0 s) : Keeps s0 (mirrorEntry handle s) := by
  unfold mirrorEntry
  try dsimp only
  repeat' first
    | with_reducible assumption
    | with_reducible refine mirrorChange_keeps ?_

theorem putEntry_keeps {s0 s : State} {e : Entry} (h : Keeps s0 s) : Keeps s0 (putEntry e s) := by
  unfold putEntry
  try dsimp only
  repeat' first
    | with_reducible assumption
    | with_reducible refine modRoster_keeps ?_
    | with_reducible refine mirrorEntry_keeps ?_

theorem modEntry_keeps {s0 s : State} {handle : Nat} {f : Entry → Entry} (h : Keeps s0 s) : Keeps s0 (modEntry handle f s) := by
  unfold modEntry
  try dsimp only
  repeat' first
    | with_reducible assumption
    | with_reducible refine putEntry_keeps ?_
    | with_reducible refine Keeps.ite ?_ ?_
    | split

theorem freeEntry_keeps {s0 s : State} {handle : Nat} (h : Keeps s0 s) : Keeps s0 (freeEntry handle s) := by
  unfold freeEntry
  try dsimp only
  repeat' first
    | with_reducible assumption
    | with_reducible refine modRoster_keeps ?_
    | with_reducible refine mirrorEntry_keeps ?_

theorem savePinned_keeps {s0 s : State} (h : Keeps s0 s) : Keeps s0 (savePinned s) := by
  unfold savePinned
  try dsimp only
  repeat' first
    | with_reducible assumption
    | with_reducible refine modNv_keeps ?_ (fun _ h => h) (fun _ h => h)

theorem sightEntry_keeps {s0 s : State} {handle route revs : Nat} {sweep desc : Option Word} (h : Keeps s0 s) : Keeps s0 (sightEntry handle route revs sweep desc s) := by
  unfold sightEntry
  try dsimp only
  repeat' first
    | with_reducible assumption
    | with_reducible refine modEntry_keeps ?_

theorem missEntry_keeps {s0 s : State} {handle : Nat} (h : Keeps s0 s) : Keeps s0 (missEntry handle s) := by
  unfold missEntry
  try dsimp only
  repeat' first
    | with_reducible assumption
    | with_reducible refine modEntry_keeps ?_

theorem sweepSights_keeps {s0 s : State} {uid : Dword} {route revs : Nat} {sweep : Option Word} {desc : Option Word} (h : Keeps s0 s) : Keeps s0 (sweepSights uid route revs sweep desc s).1 := by
  unfold sweepSights
  try dsimp only
  repeat' first
    | with_reducible assumption
    | with_reducible refine modRoster_keeps ?_
    | with_reducible refine putEntry_keeps ?_
    | with_reducible refine sightEntry_keeps ?_
    | with_reducible refine Keeps.ite ?_ ?_
    | split

theorem countMisses_keeps {s0 s : State} {route mask : Nat} {number : Word} (h : Keeps s0 s) : Keeps s0 (countMisses route mask number s) := by
  unfold countMisses
  try dsimp only
  repeat' first
    | with_reducible assumption
    | with_reducible refine missEntry_keeps ?_
    | with_reducible refine Keeps.ite ?_ ?_
    | with_reducible refine Keeps.foldl _ _ (fun _ _ _ => ?_) ?_

theorem compactRoster_keeps {s0 s : State} (h : Keeps s0 s) : Keeps s0 (compactRoster s).1 := by
  unfold compactRoster
  try dsimp only
  repeat' first
    | with_reducible assumption
    | with_reducible refine freeEntry_keeps ?_
    | with_reducible refine Keeps.ite ?_ ?_
    | with_reducible refine Keeps.foldl _ _ (fun _ _ _ => ?_) ?_

/-! ## Services -/

theorem defineSvc_keeps {s0 s : State} {n : Nat} (h : Keeps s0 s) : Keeps s0 (defineSvc n s) := by
  unfold defineSvc
  try dsimp only
  repeat' first
    | with_reducible assumption
    | with_reducible refine modSched_keeps ?_

theorem defineSaved_keeps {s0 s : State} (h : Keeps s0 s) : Keeps s0 (defineSaved s) := by
  unfold defineSaved
  try dsimp only
  repeat' first
    | with_reducible assumption
    | with_reducible refine defineSvc_keeps ?_
    | with_reducible refine Keeps.ite ?_ ?_
    | with_reducible refine Keeps.foldl _ _ (fun _ _ _ => ?_) ?_

theorem deferSvc_keeps {s0 s : State} {svc : Nat} (h : Keeps s0 s) : Keeps s0 (deferSvc svc s) := by
  unfold deferSvc
  try dsimp only
  repeat' first
    | with_reducible assumption
    | with_reducible refine modSvc_keeps ?_

theorem jumpOver_keeps {s0 s : State} {n : Nat} {p q : Int} (h : Keeps s0 s) : Keeps s0 (jumpOver n p q s) := by
  unfold jumpOver
  try dsimp only
  repeat' first
    | with_reducible assumption
    | with_reducible refine raise_keeps ?_
    | with_reducible refine skipEntries_keeps ?_
    | with_reducible refine deferSvc_keeps ?_
    | with_reducible refine modTb_keeps ?_ (fun _ => rfl) (fun _ => rfl)
    | with_reducible refine Keeps.ite ?_ ?_
    | with_reducible refine Keeps.foldl _ _ (fun _ _ _ => ?_) ?_

theorem execAngleEdge_keeps {s0 s : State} {src : Nat} {edge : PinEdge} {forward : Bool} {dated : Nat} (h : Keeps s0 s) : Answers s0 (execAngleEdge src edge forward dated s) := by
  unfold execAngleEdge
  try dsimp only
  repeat' first
    | with_reducible assumption
    | with_reducible refine modSrc_keeps ?_
    | with_reducible refine tickEdges_keeps ?_
    | with_reducible refine advanceTo_keeps ?_
    | with_reducible refine actSrc_keeps ?_
    | with_reducible refine skipEntries_keeps ?_
    | with_reducible refine retreat_keeps ?_
    | with_reducible refine speedDecides_keeps ?_
    | with_reducible refine Answers.next ?_
    | with_reducible refine Keeps.ite ?_ ?_
    | with_reducible refine Answers.ite ?_ ?_

theorem execAngleStall_keeps {s0 s : State} {src : Nat} (h : Keeps s0 s) : Answers s0 (execAngleStall src s) := by
  unfold execAngleStall
  try dsimp only
  repeat' first
    | with_reducible assumption
    | with_reducible refine advanceTo_keeps ?_
    | with_reducible refine actSrc_keeps ?_
    | with_reducible refine speedDecides_keeps ?_
    | with_reducible refine Answers.next ?_
    | with_reducible refine Keeps.ite ?_ ?_
    | with_reducible refine Answers.ite ?_ ?_

theorem execAngleIndexEdge_keeps {s0 s : State} {src : Nat} {rising : Bool} {dated : Nat} (h : Keeps s0 s) : Answers s0 (execAngleIndexEdge src rising dated s) := by
  unfold execAngleIndexEdge
  try dsimp only
  repeat' first
    | with_reducible assumption
    | with_reducible refine modSrc_keeps ?_
    | with_reducible refine advanceTo_keeps ?_
    | with_reducible refine actSrc_keeps ?_
    | with_reducible refine skipEntries_keeps ?_
    | with_reducible refine jumpOver_keeps ?_
    | with_reducible refine Answers.next ?_
    | with_reducible refine Keeps.ite ?_ ?_
    | with_reducible refine Answers.ite ?_ ?_

/-! ## Image -/

theorem modBank_keeps {s0 s : State} {b : Bool} {f : Bank → Bank} (h : Keeps s0 s) : Keeps s0 (modBank b f s) := by
  unfold modBank
  try dsimp only
  repeat' first
    | with_reducible assumption
    | with_reducible refine modNv_keeps ?_ (fun _ h => h) (fun _ h => h)
    | with_reducible refine Keeps.ite ?_ ?_
    | split

theorem drawFlash_keeps {s0 s : State} (h : Keeps s0 s) : Keeps s0 (drawFlash s) := by
  unfold drawFlash
  try dsimp only
  repeat' first
    | with_reducible assumption
    | with_reducible refine bumpNonce_keeps ?_
    | with_reducible refine aesJob_keeps ?_

theorem writeBoot_keeps {s0 s : State} {bank trial : Bool} {count : Nat} {previous : Bool} (h : Keeps s0 s) :
    Keeps s0 (writeBoot bank trial count previous s) := by
  unfold writeBoot
  dsimp only
  exact drawFlash_keeps (modNv_keeps h (fun _ w => by split <;> exact w) (fun _ w => by split <;> exact w))

theorem setStage_keeps {s0 s : State} {st : Nat} (h : Keeps s0 s) : Keeps s0 (setStage st s) := by
  unfold setStage
  try dsimp only
  repeat' first
    | with_reducible assumption
    | with_reducible refine modNv_keeps ?_ (fun _ h => h) (fun _ h => h)

theorem postStage_keeps {s0 s : State} (h : Keeps s0 s) : Keeps s0 (postStage s) := by
  unfold postStage
  try dsimp only
  repeat' first
    | with_reducible assumption
    | with_reducible refine postEvent_keeps ?_

theorem verifyBody_keeps {s0 s : State} (h : Keeps s0 s) : Keeps s0 (verifyBody s).1 := by
  unfold verifyBody
  try dsimp only
  repeat' first
    | with_reducible assumption
    | with_reducible refine modBank_keeps ?_
    | with_reducible refine setStage_keeps ?_
    | with_reducible refine modNv_keeps ?_ (fun _ h => h) (fun _ h => h)
    | with_reducible refine modNv_keeps ?_ (fun _ h => h) (fun _ h => by simpa using h)
    | with_reducible refine Keeps.ite ?_ ?_
    | split

theorem modArea_keeps {s0 s : State} {b : Bool} {f : Area → Area} (h : Keeps s0 s) : Keeps s0 (modArea b f s) := by
  unfold modArea
  try dsimp only
  repeat' first
    | with_reducible assumption
    | with_reducible refine modNv_keeps ?_ (fun _ h => h) (fun _ h => h)
    | with_reducible refine Keeps.ite ?_ ?_
    | split

theorem loadItems_keeps {s0 s : State} {items : Cells} (h : Keeps s0 s) : Keeps s0 (loadItems items s) := by
  unfold loadItems
  try dsimp only
  repeat' first
    | with_reducible assumption
    | with_reducible refine setLive_keeps ?_
    | with_reducible refine Keeps.ite ?_ ?_
    | with_reducible refine Keeps.foldl _ _ (fun _ _ _ => ?_) ?_

/-! ## ChainSource -/

theorem sendChain_keeps {s0 s : State} {dest op : Nat} {pl : List Byte} (h : Keeps s0 s) : Keeps s0 (sendChain dest op pl s) := by
  unfold sendChain
  try dsimp only
  repeat' first
    | with_reducible assumption
    | with_reducible refine sendMessage_keeps ?_
    | with_reducible refine Keeps.ite ?_ ?_

theorem offerChain_keeps {s0 s : State} {dest : Nat} (h : Keeps s0 s) : Keeps s0 (offerChain dest s) := by
  unfold offerChain
  try dsimp only
  repeat' first
    | with_reducible assumption
    | with_reducible refine modUpd_keeps ?_
    | with_reducible refine sendChain_keeps ?_

theorem dataTo_keeps {s0 s : State} {dest off : Nat} (h : Keeps s0 s) : Keeps s0 (dataTo dest off s) := by
  unfold dataTo
  try dsimp only
  repeat' first
    | with_reducible assumption
    | with_reducible refine modUpd_keeps ?_
    | with_reducible refine sendChain_keeps ?_
    | with_reducible refine Keeps.ite ?_ ?_

theorem execChainOfferTimer_keeps {s0 s : State} (h : Keeps s0 s) : Answers s0 (execChainOfferTimer s) := by
  unfold execChainOfferTimer
  try dsimp only
  repeat' first
    | with_reducible assumption
    | with_reducible refine modUpd_keeps ?_
    | with_reducible refine advanceTo_keeps ?_
    | with_reducible refine offerChain_keeps ?_
    | with_reducible refine Answers.next ?_
    | with_reducible refine Keeps.ite ?_ ?_
    | with_reducible refine Answers.ite ?_ ?_

theorem chainReply_keeps {s0 s : State} {src op : Nat} {pl : List Byte} (h : Keeps s0 s) : Keeps s0 (chainReply src op pl s) := by
  unfold chainReply
  try dsimp only
  repeat' first
    | with_reducible assumption
    | with_reducible refine dataTo_keeps ?_
    | with_reducible refine Keeps.ite ?_ ?_

/-! ## Reset -/

theorem radioOff_keeps {s0 s : State} (h : Keeps s0 s) : Keeps s0 (radioOff s) := by
  unfold radioOff
  try dsimp only
  repeat' first
    | with_reducible assumption
    | with_reducible refine modRadio_keeps ?_

theorem stopWork_keeps {s0 s : State} (h : Keeps s0 s) : Keeps s0 (stopWork s) := by
  unfold stopWork
  try dsimp only
  repeat' first
    | with_reducible assumption
    | with_reducible refine modSched_keeps ?_
    | with_reducible refine modIsl_keeps ?_
    | with_reducible refine modProx_keeps ?_
    | with_reducible refine modSec_keeps ?_
    | with_reducible refine radioOff_keeps ?_

theorem failHeld_keeps {s0 s : State} (h : Keeps s0 s) : Keeps s0 (failHeld s) := by
  unfold failHeld
  try dsimp only
  repeat' first
    | with_reducible assumption
    | with_reducible refine modTwin_keeps ?_
    | with_reducible refine completeWhere_keeps ?_
    | with_reducible refine modPort_keeps ?_ (fun _ => rfl)

theorem patrolCut_keeps {s0 s : State} (h : Keeps s0 s) : Keeps s0 (patrolCut s) := by
  unfold patrolCut
  try dsimp only
  repeat' first
    | with_reducible assumption
    | with_reducible refine modNv_keeps ?_ (fun _ h => h) (fun _ h => h)
    | with_reducible refine modNv_keeps ?_ (fun _ h => h) (fun _ h => by simpa using h)
    | with_reducible refine Keeps.ite ?_ ?_

theorem failDevice_keeps {s0 s : State} {code arg : Nat} (h : Keeps s0 s) : Keeps s0 (failDevice code arg s) := by
  unfold failDevice
  try dsimp only
  repeat' first
    | with_reducible assumption
    | with_reducible refine modDev_keeps ?_
    | with_reducible refine modPwr_keeps ?_
    | with_reducible refine modTwin_keeps ?_
    | with_reducible refine modBus_keeps ?_
    | with_reducible refine modMnt_keeps ?_
    | with_reducible refine logFault_keeps ?_
    | with_reducible refine sendTwinUp_keeps ?_
    | with_reducible refine locksStatic_keeps ?_
    | with_reducible refine stopWork_keeps ?_
    | with_reducible refine failHeld_keeps ?_
    | with_reducible refine patrolCut_keeps ?_
    | with_reducible refine Keeps.ite ?_ ?_
    | split

theorem corruptSlot_keeps {s0 s : State} {slot : Nat} (h : Keeps s0 s) : Keeps s0 (corruptSlot slot s) := by
  unfold corruptSlot
  try dsimp only
  repeat' first
    | with_reducible assumption
    | with_reducible refine postEvent_keeps ?_
    | with_reducible refine failDevice_keeps ?_
    | with_reducible refine Keeps.ite ?_ ?_

theorem tellKey_keeps {s0 s : State} {status : Nat} (h : Keeps s0 s) : Keeps s0 (tellKey status s) := by
  unfold tellKey
  try dsimp only
  repeat' first
    | with_reducible assumption
    | with_reducible refine corruptSlot_keeps ?_
    | with_reducible refine Keeps.ite ?_ ?_

theorem resetDevice_keeps {s0 s : State} {causes : Nat} (h : Keeps s0 s) : Keeps s0 (resetDevice causes s) := by
  have hp := patrolCut_keeps h
  refine ⟨hp.1, fun w => ?_⟩
  obtain ⟨⟨-, b⟩, -, -, -, e, -⟩ := hp.2 w
  exact ⟨⟨rfl, b⟩, rfl, rfl, by rw [← e]; exact List.length_map _, e, rfl, rfl, rfl⟩

theorem destroyReturned_keeps {s0 s : State} (h : Keeps s0 s) : Keeps s0 (destroyReturned s) := by
  unfold destroyReturned
  try dsimp only
  repeat' first
    | with_reducible assumption
    | with_reducible refine modIsl_keeps ?_
    | with_reducible refine modNv_keeps ?_ (fun _ h => h) (fun _ h => h)
    | with_reducible refine modNv_keeps ?_ (fun _ h => h) (fun _ h => by simpa using h)

theorem applyTransition_keeps {s0 s : State} {target : Nat} (h : Keeps s0 s) : Keeps s0 (applyTransition target s) := by
  unfold applyTransition
  try dsimp only
  repeat' first
    | with_reducible assumption
    | with_reducible refine destroyReturned_keeps ?_
    | with_reducible refine modNv_keeps ?_ (fun _ h => h) (fun _ h => h)
    | with_reducible refine modNv_keeps ?_ (fun _ h => h) (fun _ h => by simpa using h)
    | with_reducible refine Keeps.ite ?_ ?_

theorem transition_keeps {s0 s : State} {target : Nat} (h : Keeps s0 s) : Keeps s0 (transition target s) := by
  unfold transition
  try dsimp only
  repeat' first
    | with_reducible assumption
    | with_reducible refine locksStatic_keeps ?_
    | with_reducible refine resetDevice_keeps ?_
    | with_reducible refine applyTransition_keeps ?_
    | with_reducible refine modNv_keeps ?_ (fun _ h => h) (fun _ h => h)

theorem watchdogReset_keeps {s0 s : State} {code arg : Nat} (h : Keeps s0 s) : Keeps s0 (watchdogReset code arg s) := by
  unfold watchdogReset
  try dsimp only
  repeat' first
    | with_reducible assumption
    | with_reducible refine logFault_keeps ?_
    | with_reducible refine resetDevice_keeps ?_
    | with_reducible refine modNv_keeps ?_ (fun _ h => h) (fun _ h => h)

/-! ## ParamOps -/

theorem takePwrConf_keeps {s0 s : State} (h : Keeps s0 s) : Keeps s0 (takePwrConf s) := by
  unfold takePwrConf
  try dsimp only
  repeat' first
    | with_reducible assumption
    | with_reducible refine modPwr_keeps ?_

theorem takeConf_keeps {s0 s : State} (h : Keeps s0 s) : Keeps s0 (takeConf s) := by
  unfold takeConf
  try dsimp only
  repeat' first
    | with_reducible assumption
    | with_reducible refine modRadio_keeps ?_

theorem beginWindows_keeps {s0 s : State} (h : Keeps s0 s) : Keeps s0 (beginWindows s) := by
  unfold beginWindows
  try dsimp only
  repeat' first
    | with_reducible assumption
    | with_reducible refine modRadio_keeps ?_
    | with_reducible refine takeConf_keeps ?_
    | with_reducible refine Keeps.ite ?_ ?_

theorem radioRest_keeps {s0 s : State} (h : Keeps s0 s) : Keeps s0 (radioRest s) := by
  unfold radioRest
  try dsimp only
  repeat' first
    | with_reducible assumption
    | with_reducible refine modRadio_keeps ?_

theorem wakeRadio_keeps {s0 s : State} (h : Keeps s0 s) : Keeps s0 (wakeRadio s) := by
  unfold wakeRadio
  try dsimp only
  repeat' first
    | with_reducible assumption
    | with_reducible refine takeConf_keeps ?_
    | with_reducible refine radioRest_keeps ?_
    | with_reducible refine Keeps.ite ?_ ?_

theorem addressParam_keeps {s0 s : State} {id : Nat} (h : Keeps s0 s) : Keeps s0 (addressParam id s) := by
  unfold addressParam
  try dsimp only
  repeat' first
    | with_reducible assumption
    | with_reducible refine wakeRadio_keeps ?_
    | with_reducible refine Keeps.ite ?_ ?_

theorem paramEffect_keeps {s0 s : State} {id : Nat} {v : Word} (h : Keeps s0 s) : Keeps s0 (paramEffect id v s) := by
  unfold paramEffect
  try dsimp only
  repeat' first
    | with_reducible assumption
    | with_reducible refine modDev_keeps ?_
    | with_reducible refine modIsl_keeps ?_
    | with_reducible refine modLine_keeps ?_
    | with_reducible refine busRestart_keeps ?_
    | with_reducible refine cancelOutput_keeps ?_
    | with_reducible refine radioRest_keeps ?_
    | with_reducible refine setLive_keeps ?_
    | with_reducible refine Keeps.ite ?_ ?_
    | split

theorem applyParam_keeps {s0 s : State} {id : Nat} {v : Word} (h : Keeps s0 s) : Keeps s0 (applyParam id v s) := by
  unfold applyParam
  try dsimp only
  repeat' first
    | with_reducible assumption
    | with_reducible refine paramEffect_keeps ?_
    | with_reducible refine setLive_keeps ?_

theorem paramWrite_keeps {s0 s : State} {id : Nat} {v : Word} (h : Keeps s0 s) : Keeps s0 (paramWrite id v s).1 := by
  unfold paramWrite
  try dsimp only
  repeat' first
    | with_reducible assumption
    | with_reducible refine modStaged_keeps ?_
    | with_reducible refine modLine_keeps ?_
    | with_reducible refine mirrorChange_keeps ?_
    | with_reducible refine beginWindows_keeps ?_
    | with_reducible refine applyParam_keeps ?_
    | with_reducible refine Keeps.ite ?_ ?_
    | split

theorem applyStaged_keeps {s0 s : State} {p : Nat → Bool} (h : Keeps s0 s) : Keeps s0 (applyStaged p s) := by
  unfold applyStaged
  try dsimp only
  repeat' first
    | with_reducible assumption
    | with_reducible refine modStaged_keeps ?_
    | with_reducible refine applyParam_keeps ?_
    | with_reducible refine Keeps.ite ?_ ?_
    | with_reducible refine Keeps.foldl _ _ (fun _ _ _ => ?_) ?_

/-! ## Cmd -/

theorem ringError_keeps {s0 s : State} {r cause : Nat} (h : Keeps s0 s) : Keeps s0 (ringError r cause s) := by
  unfold ringError
  try dsimp only
  repeat' first
    | with_reducible assumption
    | with_reducible refine modRing_keeps ?_
    | with_reducible refine raise_keeps ?_
    | with_reducible refine modPort_keeps ?_ (fun _ => rfl)

theorem takeHead_keeps {s0 s : State} {r : Nat} (h : Keeps s0 s) : Keeps s0 (takeHead r s) := by
  unfold takeHead
  try dsimp only
  repeat' first
    | with_reducible assumption
    | with_reducible refine modRing_keeps ?_
    | with_reducible refine modPort_keeps ?_ (fun _ => rfl)

theorem settleFrom_keeps {s0 s : State} {n : Nat} (h : Keeps s0 s) : Keeps s0 (settleFrom n s) := by
  induction n generalizing s with
  | zero => exact h
  | succ n ih =>
    unfold settleFrom
    split
    · exact h
    · split
      · exact ih (ringError_keeps h)
      · split
        · exact h
        · exact ih (done_keeps (takeHead_keeps h))

theorem settle_keeps {s0 s : State} (h : Keeps s0 s) : Keeps s0 (settle s) := by
  unfold settle
  try dsimp only
  repeat' first
    | with_reducible assumption
    | with_reducible refine settleFrom_keeps ?_

theorem runCmd_keeps {s0 s : State} {ring op : Nat} {buf : Held → State → Bool} {extra : Held → State → List (Nat × Nat)}
    {body : Held → State → State} (hb : ∀ hd s, Keeps s0 s → Keeps s0 (body hd s)) (h : Keeps s0 s) :
    Keeps s0 (runCmd ring op buf extra body s) := by
  unfold runCmd
  dsimp only
  have ht := takeHead_keeps (r := ring) h
  repeat' first
    | with_reducible assumption
    | with_reducible refine settle_keeps ?_
    | with_reducible refine Keeps.ite ?_ ?_
    | with_reducible refine done_keeps ?_
    | with_reducible refine hb _ _ ?_
    | with_reducible refine modPort_keeps ?_ (fun _ => rfl)
    | split

theorem cmdPlain_keeps {s0 s : State} {ring op : Nat} {body : Held → State → State} (hb : ∀ hd s, Keeps s0 s → Keeps s0 (body hd s))
    (h : Keeps s0 s) : Answers s0 (cmdPlain ring op body s) := Answers.next (runCmd_keeps hb h)

theorem cmdBuf_keeps {s0 s : State} {ring op : Nat} {body : Held → State → State} (hb : ∀ hd s, Keeps s0 s → Keeps s0 (body hd s))
    (h : Keeps s0 s) : Answers s0 (cmdBuf ring op body s) := Answers.next (runCmd_keeps hb h)

theorem doneBytes_keeps {s0 s : State} {hd : Held} {bs : List Byte} {w4 w5 w6 : Word} (h : Keeps s0 s) : Keeps s0 (doneBytes hd bs w4 w5 w6 s) := by
  unfold doneBytes
  try dsimp only
  repeat' first
    | with_reducible assumption
    | with_reducible refine winWrite_keeps ?_
    | with_reducible refine finish_keeps ?_
    | with_reducible refine done_keeps ?_
    | with_reducible refine Keeps.ite ?_ ?_

/-! ## Registers -/

theorem regRead_keeps {s0 s : State} {a : Nat} (h : Keeps s0 s) : Keeps s0 (regRead a s).1 := by
  unfold regRead
  try dsimp only
  repeat' first
    | with_reducible assumption
    | with_reducible refine modPwr_keeps ?_
    | with_reducible refine modTwin_keeps ?_
    | with_reducible refine modPort_keeps ?_ (fun _ => rfl)
    | with_reducible refine Keeps.ite ?_ ?_
    | split

theorem doorbell_keeps {s0 s : State} {r v : Nat} (h : Keeps s0 s) : Keeps s0 (doorbell r v s) := by
  unfold doorbell
  try dsimp only
  repeat' first
    | with_reducible assumption
    | with_reducible refine modRing_keeps ?_
    | with_reducible refine ringError_keeps ?_
    | with_reducible refine settle_keeps ?_
    | with_reducible refine Keeps.ite ?_ ?_

theorem angleCtrlWrite_keeps {s0 s : State} {n v : Nat} (h : Keeps s0 s) : Keeps s0 (angleCtrlWrite n v s) := by
  unfold angleCtrlWrite
  try dsimp only
  repeat' first
    | with_reducible assumption
    | with_reducible refine modSrc_keeps ?_
    | with_reducible refine actSrc_keeps ?_
    | with_reducible refine enableSource_keeps ?_
    | with_reducible refine speedDecides_keeps ?_
    | with_reducible refine Keeps.ite ?_ ?_

theorem hostResetWrite_keeps {s0 s : State} {v : Nat} (h : Keeps s0 s) : Keeps s0 (hostResetWrite v s) := by
  unfold hostResetWrite
  try dsimp only
  repeat' first
    | with_reducible assumption
    | with_reducible refine resetDevice_keeps ?_
    | with_reducible refine Keeps.ite ?_ ?_

theorem portWrite_rings (a v : Nat) (p : Port) : (portWrite a v p).rings.length = p.rings.length := by
  unfold portWrite
  repeat' first
    | rfl
    | split

theorem regWrite_keeps {s0 s : State} {a : Nat} {d : Half} (h : Keeps s0 s) : Keeps s0 (regWrite a d s) := by
  unfold regWrite
  try dsimp only
  repeat' first
    | with_reducible assumption
    | exact modPort_keeps (by assumption) (fun p => portWrite_rings _ _ p)
    | with_reducible refine modDev_keeps ?_
    | with_reducible refine modPwr_keeps ?_
    | with_reducible refine modTwin_keeps ?_
    | with_reducible refine modIlk_keeps ?_
    | with_reducible refine modSrc_keeps ?_
    | with_reducible refine modTmr_keeps ?_
    | with_reducible refine doorbell_keeps ?_
    | with_reducible refine angleCtrlWrite_keeps ?_
    | with_reducible refine hostResetWrite_keeps ?_
    | with_reducible refine modPort_keeps ?_ (fun _ => rfl)
    | with_reducible refine modTb_keeps ?_ (fun _ => rfl) (fun _ => rfl)
    | with_reducible refine Keeps.ite ?_ ?_
    | split

theorem refuseAccess_keeps {s0 s : State} {a : Nat} {write : Bool} (h : Keeps s0 s) : Keeps s0 (refuseAccess a write s) := by
  unfold refuseAccess
  try dsimp only
  repeat' first
    | with_reducible assumption
    | with_reducible refine modPort_keeps ?_ (fun _ => rfl)

theorem hostWriteWord_keeps {s0 s : State} {idx : Nat} {lo hi : Half} (h : Keeps s0 s) : Keeps s0 (hostWriteWord idx lo hi s) := by
  unfold hostWriteWord
  try dsimp only
  repeat' first
    | with_reducible assumption
    | with_reducible refine winWrite_keeps ?_
    | with_reducible refine refuseAccess_keeps ?_
    | with_reducible refine Keeps.ite ?_ ?_

theorem hostReadWord_keeps {s0 s : State} {idx : Nat} (h : Keeps s0 s) : Keeps s0 (hostReadWord idx s).1 := by
  unfold hostReadWord
  try dsimp only
  repeat' first
    | with_reducible assumption
    | with_reducible refine refuseAccess_keeps ?_
    | with_reducible refine modPort_keeps ?_ (fun _ => rfl)
    | with_reducible refine Keeps.ite ?_ ?_
    | split

/-! ## Results -/

theorem fillBuffer_keeps {s0 s : State} {hd : Held} {bs : List Byte} (h : Keeps s0 s) : Keeps s0 (fillBuffer hd bs s) := by
  unfold fillBuffer
  try dsimp only
  repeat' first
    | with_reducible assumption
    | with_reducible refine winWrite_keeps ?_
    | with_reducible refine modPort_keeps ?_ (fun _ => rfl)

theorem closeFull_keeps {s0 s : State} {hd : Held} (h : Keeps s0 s) : Keeps s0 (closeFull hd s) := by
  unfold closeFull
  try dsimp only
  repeat' first
    | with_reducible assumption
    | with_reducible refine done_keeps ?_
    | with_reducible refine finishMirrored_keeps ?_
    | with_reducible refine Keeps.ite ?_ ?_

theorem offerTo_keeps {s0 s : State} {l : List Held} {bs : List Byte} (h : Keeps s0 s) : Keeps s0 (offerTo l bs s).1 := by
  induction l generalizing s with
  | nil => exact h
  | cons x xs ih =>
    unfold offerTo
    split
    · exact fillBuffer_keeps h
    · exact ih (closeFull_keeps h)

theorem writeResults_keeps {s0 s : State} {seq0 svc ring : Nat} {ws : List Word} (h : Keeps s0 s) : Keeps s0 (writeResults seq0 svc ring ws s) := by
  unfold writeResults
  try dsimp only
  repeat' first
    | with_reducible assumption
    | with_reducible refine finishMirrored_keeps ?_
    | with_reducible refine modSvc_keeps ?_
    | with_reducible refine offerTo_keeps ?_
    | with_reducible refine Keeps.fst (by assumption) (offerTo_keeps ?_)
    | with_reducible refine Keeps.ite ?_ ?_
    | split

theorem openResults_keeps {s0 s : State} {svc startClk ring : Nat} (h : Keeps s0 s) : Keeps s0 (openResults svc startClk ring s) := by
  unfold openResults
  try dsimp only
  repeat' first
    | with_reducible assumption
    | with_reducible refine modSched_keeps ?_

theorem gather_keeps {s0 s : State} {svc startClk : Nat} {ws : List Word} (h : Keeps s0 s) : Keeps s0 (gather svc startClk ws s) := by
  unfold gather
  try dsimp only
  repeat' first
    | with_reducible assumption
    | with_reducible refine modSched_keeps ?_

theorem flushResults_keeps {s0 s : State} {svc startClk : Nat} (h : Keeps s0 s) : Keeps s0 (flushResults svc startClk s) := by
  unfold flushResults
  try dsimp only
  repeat' first
    | with_reducible assumption
    | with_reducible refine modSched_keeps ?_
    | with_reducible refine writeResults_keeps ?_
    | with_reducible refine Keeps.ite ?_ ?_
    | split

/-! ## Carrier -/

theorem modBlock_keeps {s0 s : State} {svc : Nat} {f : Block → Block} (h : Keeps s0 s) : Keeps s0 (modBlock svc f s) := by
  unfold modBlock
  try dsimp only
  repeat' first
    | with_reducible assumption
    | with_reducible refine modSched_keeps ?_

theorem atStart_keeps {s0 s : State} {b : Block} (h : Keeps s0 s) : Keeps s0 (atStart b s) := by
  unfold atStart
  try dsimp only
  repeat' first
    | with_reducible assumption
    | with_reducible refine Keeps.ite ?_ ?_
    | split
    | (have hh := ‹Keeps s0 _›; exact Keeps.same hh rfl rfl rfl rfl rfl rfl rfl rfl)

theorem startOf_keeps {s0 s : State} {svc : Nat} (h : Keeps s0 s) : Keeps s0 (startOf svc s) :=
  Keeps.getD _ _ (fun _ => h.same rfl rfl rfl rfl rfl rfl rfl rfl) h

theorem setFlag_keeps {s0 s : State} {l bit : Nat} (h : Keeps s0 s) : Keeps s0 (setFlag l bit s) := by
  unfold setFlag
  try dsimp only
  repeat' first
    | with_reducible assumption
    | with_reducible refine modLine_keeps ?_

theorem quenchLine_keeps {s0 s : State} {b : Block} {l : Nat} (h : Keeps s0 s) : Keeps s0 (quenchLine b s l) := by
  unfold quenchLine
  split
  · exact setFlag_keeps h
  · split
    · exact h
    · exact setFlag_keeps h

theorem quenchFlags_keeps {s0 s : State} {b : Block} (h : Keeps s0 s) : Keeps s0 (quenchFlags b s) := by
  unfold quenchFlags
  try dsimp only
  repeat' first
    | with_reducible assumption
    | with_reducible refine quenchLine_keeps ?_
    | with_reducible refine Keeps.ite ?_ ?_
    | with_reducible refine Keeps.foldl _ _ (fun _ _ _ => ?_) ?_

theorem judgeBursts_keeps {s0 s : State} {b : Block} {x : Nat} (h : Keeps s0 s) : Keeps s0 (judgeBursts b x s) := by
  unfold judgeBursts
  try dsimp only
  repeat' first
    | with_reducible assumption
    | with_reducible refine done_keeps ?_
    | with_reducible refine modBlock_keeps ?_
    | with_reducible refine quenchLine_keeps ?_
    | with_reducible refine Keeps.ite ?_ ?_
    | with_reducible refine Keeps.foldl _ _ (fun _ _ _ => ?_) ?_

theorem endQuench_keeps {s0 s : State} {b : Block} (h : Keeps s0 s) : Keeps s0 (endQuench b s) := by
  unfold endQuench
  try dsimp only
  repeat' first
    | with_reducible assumption
    | with_reducible refine quenchFlags_keeps ?_
    | with_reducible refine judgeBursts_keeps ?_
    | with_reducible refine Keeps.ite ?_ ?_

theorem setVbat_keeps {s0 s : State} {mv : Nat} (h : Keeps s0 s) : Keeps s0 (setVbat mv s) := by
  unfold setVbat
  try dsimp only
  repeat' first
    | with_reducible assumption
    | with_reducible refine modDev_keeps ?_
    | with_reducible refine quenchLine_keeps ?_
    | with_reducible refine judgeBursts_keeps ?_
    | with_reducible refine Keeps.ite ?_ ?_
    | with_reducible refine Keeps.foldl _ _ (fun _ _ _ => ?_) ?_

theorem sendFrame_keeps {s0 s : State} {svc : Nat} {bits : List Bool} (h : Keeps s0 s) : Keeps s0 (sendFrame svc bits s) := by
  unfold sendFrame
  try dsimp only
  repeat' first
    | with_reducible assumption
    | with_reducible refine used_keeps ?_
    | with_reducible refine modBlock_keeps ?_
    | with_reducible refine quenchFlags_keeps ?_
    | with_reducible refine Keeps.ite ?_ ?_
    | split

/-! ## Exchange -/

theorem takeHandle_keeps {s0 s : State} (h : Keeps s0 s) : Keeps s0 (takeHandle s).1 := by
  unfold takeHandle
  try dsimp only
  repeat' first
    | with_reducible assumption
    | with_reducible refine modSched_keeps ?_

theorem barHandle_keeps {s0 s : State} {hd : Nat} (h : Keeps s0 s) : Keeps s0 (barHandle hd s) := by
  unfold barHandle
  try dsimp only
  repeat' first
    | with_reducible assumption
    | with_reducible refine modSched_keeps ?_

theorem closeExchange_keeps {s0 s : State} {svc status : Nat} (h : Keeps s0 s) : Keeps s0 (closeExchange svc status s) := by
  unfold closeExchange
  try dsimp only
  repeat' first
    | with_reducible assumption
    | with_reducible refine modBlock_keeps ?_

theorem opFailed_keeps {s0 s : State} {svc : Nat} {c : AirCmd} {status : Nat} (h : Keeps s0 s) : Keeps s0 (opFailed svc c status s) := by
  unfold opFailed
  try dsimp only
  repeat' first
    | with_reducible assumption
    | with_reducible refine modBlock_keeps ?_

theorem send_keeps {s0 s : State} {svc : Nat} {c : AirCmd} {attempt : Nat} (h : Keeps s0 s) : Keeps s0 (send svc c attempt s) := by
  unfold send
  try dsimp only
  repeat' first
    | with_reducible assumption
    | with_reducible refine modBlock_keeps ?_
    | with_reducible refine sendFrame_keeps ?_

theorem issue_keeps {s0 s : State} {svc : Nat} {c : AirCmd} (h : Keeps s0 s) : Keeps s0 (issue svc c s) := by
  unfold issue
  try dsimp only
  repeat' first
    | with_reducible assumption
    | with_reducible refine used_keeps ?_
    | with_reducible refine closeExchange_keeps ?_
    | with_reducible refine opFailed_keeps ?_
    | with_reducible refine send_keeps ?_
    | with_reducible refine Keeps.ite ?_ ?_
    | split

theorem freshRb_keeps {s0 s : State} {sent : List Word} (h : Keeps s0 s) : Keeps s0 (freshRb sent s).2 := by
  unfold freshRb
  split <;> exact used_keeps h

theorem takeRb_keeps {s0 s : State} {svc : Nat} {b : Block} (h : Keeps s0 s) : Keeps s0 (takeRb svc b s) :=
  modBlock_keeps (freshRb_keeps h)

theorem withKey_keeps {s0 s : State} {svc : Nat} {b : Block} {uid : Dword} {go : State → State} (hb : ∀ s, Keeps s0 s → Keeps s0 (go s)) (h : Keeps s0 s) : Keeps s0 (withKey svc b uid go s) := by
  unfold withKey
  try dsimp only
  repeat' first
    | with_reducible assumption
    | with_reducible refine hb _ ?_
    | with_reducible refine tellKey_keeps ?_
    | with_reducible refine modBlock_keeps ?_
    | with_reducible refine closeExchange_keeps ?_
    | with_reducible refine Keeps.ite ?_ ?_
    | split

theorem issueAuth1_keeps {s0 s : State} {svc : Nat} {slow : Bool} (h : Keeps s0 s) : Keeps s0 (issueAuth1 svc slow s) := by
  unfold issueAuth1
  try dsimp only
  repeat' first
    | with_reducible assumption
    | with_reducible refine issue_keeps ?_
    | with_reducible refine takeRb_keeps ?_
    | with_reducible refine withKey_keeps (fun _ _ => ?_) ?_
    | with_reducible refine Keeps.ite ?_ ?_
    | split

theorem issueAuth2_keeps {s0 s : State} {svc : Nat} {confirm slow : Bool} (h : Keeps s0 s) : Keeps s0 (issueAuth2 svc confirm slow s) := by
  unfold issueAuth2
  try dsimp only
  repeat' first
    | with_reducible assumption
    | with_reducible refine used_keeps ?_
    | with_reducible refine modBlock_keeps ?_
    | with_reducible refine sendFrame_keeps ?_
    | with_reducible refine closeExchange_keeps ?_
    | with_reducible refine issue_keeps ?_
    | with_reducible refine Keeps.ite ?_ ?_
    | split

theorem issueChain_keeps {s0 s : State} {svc op : Nat} {pl : List Byte} {slow : Bool} (h : Keeps s0 s) : Keeps s0 (issueChain svc op pl slow s) := by
  unfold issueChain
  try dsimp only
  repeat' first
    | with_reducible assumption
    | with_reducible refine modSec_keeps ?_
    | with_reducible refine closeExchange_keeps ?_
    | with_reducible refine issue_keeps ?_
    | with_reducible refine Keeps.ite ?_ ?_
    | split

theorem readStep_keeps {s0 s : State} {svc : Nat} (h : Keeps s0 s) : Keeps s0 (readStep svc s) := by
  unfold readStep
  try dsimp only
  repeat' first
    | with_reducible assumption
    | with_reducible refine modBlock_keeps ?_
    | with_reducible refine startOf_keeps ?_
    | with_reducible refine issue_keeps ?_
    | with_reducible refine Keeps.ite ?_ ?_

theorem measureStep_keeps {s0 s : State} {svc : Nat} (h : Keeps s0 s) : Keeps s0 (measureStep svc s) := by
  unfold measureStep
  try dsimp only
  repeat' first
    | with_reducible assumption
    | with_reducible refine modBlock_keeps ?_
    | with_reducible refine startOf_keeps ?_
    | with_reducible refine closeExchange_keeps ?_
    | with_reducible refine issue_keeps ?_
    | with_reducible refine Keeps.ite ?_ ?_

theorem afterWalk_keeps {s0 s : State} {svc : Nat} {b : Block} {slow : Bool} (h : Keeps s0 s) : Keeps s0 (afterWalk svc b slow s) := by
  unfold afterWalk
  try dsimp only
  repeat' first
    | with_reducible assumption
    | with_reducible refine modBlock_keeps ?_
    | with_reducible refine closeExchange_keeps ?_
    | with_reducible refine issueAuth1_keeps ?_
    | with_reducible refine Keeps.ite ?_ ?_
    | split

theorem walkOn_keeps {s0 s : State} {svc : Nat} (h : Keeps s0 s) : Keeps s0 (walkOn svc s) := by
  unfold walkOn
  try dsimp only
  repeat' first
    | with_reducible assumption
    | with_reducible refine modBlock_keeps ?_
    | with_reducible refine takeHandle_keeps ?_
    | with_reducible refine Keeps.fst (by assumption) (takeHandle_keeps ?_)
    | with_reducible refine closeExchange_keeps ?_
    | with_reducible refine send_keeps ?_
    | with_reducible refine issue_keeps ?_
    | with_reducible refine afterWalk_keeps ?_
    | with_reducible refine Keeps.ite ?_ ?_
    | split

theorem walkReply_keeps {s0 s : State} {svc p : Nat} {pre : List Bool} {reply : Option (List RBit)} (h : Keeps s0 s) : Keeps s0 (walkReply svc p pre reply s) := by
  unfold walkReply
  try dsimp only
  repeat' first
    | with_reducible assumption
    | with_reducible refine modBlock_keeps ?_
    | with_reducible refine walkOn_keeps ?_

theorem retry_keeps {s0 s : State} {svc : Nat} {c : AirCmd} (h : Keeps s0 s) : ∀ t, retry svc c s = some t → Keeps s0 t := by
  unfold retry
  intro t ht
  split at ht
  · cases ht
  · split at ht
    · cases ht
    · dsimp only at ht
      split at ht
      all_goals
        split at ht
        · cases ht
        · cases ht
          first
            | exact send_keeps (takeRb_keeps h)
            | exact send_keeps h

theorem assignReply_keeps {s0 s : State} {svc : Nat} {c : AirCmd} {uid : Dword} {hd : Nat} {o : Outcome} (h : Keeps s0 s) : Keeps s0 (assignReply svc c uid hd o s) := by
  unfold assignReply
  try dsimp only
  repeat' first
    | with_reducible assumption
    | with_reducible refine modBlock_keeps ?_
    | with_reducible refine barHandle_keeps ?_
    | with_reducible refine closeExchange_keeps ?_
    | with_reducible refine opFailed_keeps ?_
    | with_reducible refine issue_keeps ?_
    | with_reducible refine readStep_keeps ?_
    | with_reducible refine measureStep_keeps ?_
    | with_reducible refine walkOn_keeps ?_
    | with_reducible refine Keeps.ite ?_ ?_
    | split

theorem auth1Reply_keeps {s0 s : State} {svc : Nat} {bits : List Bool} (h : Keeps s0 s) : Keeps s0 (auth1Reply svc bits s) := by
  unfold auth1Reply
  try dsimp only
  repeat' first
    | with_reducible assumption
    | with_reducible refine modBlock_keeps ?_
    | with_reducible refine closeExchange_keeps ?_
    | with_reducible refine issue_keeps ?_
    | with_reducible refine issueAuth2_keeps ?_
    | with_reducible refine Keeps.ite ?_ ?_
    | split

theorem chainStep_keeps {s0 s : State} {svc : Nat} (h : Keeps s0 s) : Keeps s0 (chainStep svc s) := by
  unfold chainStep
  try dsimp only
  repeat' first
    | with_reducible assumption
    | with_reducible refine modBlock_keeps ?_
    | with_reducible refine closeExchange_keeps ?_
    | with_reducible refine issueChain_keeps ?_
    | with_reducible refine Keeps.ite ?_ ?_
    | split

theorem statusReply_keeps {s0 s : State} {svc : Nat} {c : AirCmd} {bits : List Bool} (h : Keeps s0 s) : Keeps s0 (statusReply svc c bits s) := by
  unfold statusReply
  try dsimp only
  repeat' first
    | with_reducible assumption
    | with_reducible refine modSec_keeps ?_
    | with_reducible refine modUpd_keeps ?_
    | with_reducible refine modBlock_keeps ?_
    | with_reducible refine atStart_keeps ?_
    | with_reducible refine closeExchange_keeps ?_
    | with_reducible refine issue_keeps ?_
    | with_reducible refine issueAuth1_keeps ?_
    | with_reducible refine issueChain_keeps ?_
    | with_reducible refine measureStep_keeps ?_
    | with_reducible refine chainStep_keeps ?_
    | with_reducible refine Keeps.ite ?_ ?_
    | split

theorem failedReply_keeps {s0 s : State} {svc : Nat} {c : AirCmd} {o : Outcome} (h : Keeps s0 s) : Keeps s0 (failedReply svc c o s) := by
  unfold failedReply
  try dsimp only
  repeat' first
    | with_reducible assumption
    | with_reducible refine modSvc_keeps ?_
    | with_reducible refine modBlock_keeps ?_
    | with_reducible refine closeExchange_keeps ?_
    | with_reducible refine opFailed_keeps ?_
    | with_reducible refine measureStep_keeps ?_
    | with_reducible refine Keeps.ite ?_ ?_
    | split

theorem commandOutcome_keeps {s0 s : State} {svc : Nat} {c : AirCmd} {reply : Option (List RBit)} (h : Keeps s0 s) :
    Keeps s0 (commandOutcome svc c reply s) := by
  unfold commandOutcome
  dsimp only
  split
  · exact walkReply_keeps h
  · split
    · rename_i t ht
      exact retry_keeps h _ (Option.ite_none_right_eq_some.1 ht).2
    · split
      · exact assignReply_keeps h
      · exact auth1Reply_keeps h
      · exact auth1Reply_keeps h
      · exact statusReply_keeps h
      · exact failedReply_keeps h

theorem sendWake_keeps {s0 s : State} {svc code : Nat} (h : Keeps s0 s) : Keeps s0 (sendWake svc code s) := by
  unfold sendWake
  try dsimp only
  repeat' first
    | with_reducible assumption
    | with_reducible refine used_keeps ?_
    | with_reducible refine modBlock_keeps ?_
    | with_reducible refine sendFrame_keeps ?_

theorem beginExchange_keeps {s0 s : State} {svc : Nat} (h : Keeps s0 s) : Keeps s0 (beginExchange svc s) := by
  unfold beginExchange
  try dsimp only
  repeat' first
    | with_reducible assumption
    | with_reducible refine modSvc_keeps ?_
    | with_reducible refine modBlock_keeps ?_
    | with_reducible refine takeHandle_keeps ?_
    | with_reducible refine Keeps.fst (by assumption) (takeHandle_keeps ?_)
    | with_reducible refine closeExchange_keeps ?_
    | with_reducible refine issue_keeps ?_
    | with_reducible refine withKey_keeps (fun _ _ => ?_) ?_
    | with_reducible refine walkOn_keeps ?_
    | with_reducible refine sendWake_keeps ?_
    | with_reducible refine Keeps.ite ?_ ?_
    | split

theorem execReplyWindowClose_keeps {s0 s : State} {svc : Nat} {rx : List RxChannel} (h : Keeps s0 s) : Answers s0 (execReplyWindowClose svc rx s) := by
  unfold execReplyWindowClose
  try dsimp only
  repeat' first
    | with_reducible assumption
    | with_reducible refine used_keeps ?_
    | with_reducible refine advanceTo_keeps ?_
    | with_reducible refine modBlock_keeps ?_
    | with_reducible refine commandOutcome_keeps ?_
    | with_reducible refine Answers.next ?_
    | with_reducible refine Keeps.ite ?_ ?_
    | with_reducible refine Answers.ite ?_ ?_
    | split

/-! ## Wake -/

theorem replayWake_keeps {s0 s : State} {bits : BitVec 5} (h : Keeps s0 s) : Keeps s0 (replayWake bits s) := by
  unfold replayWake
  try dsimp only
  repeat' first
    | with_reducible assumption
    | with_reducible refine modPwr_keeps ?_
    | with_reducible refine raiseWake_keeps ?_
    | with_reducible refine postEvent_keeps ?_

theorem startWake_keeps {s0 s : State} {step : Nat} {bits : BitVec 5} {replayed : Bool} (h : Keeps s0 s) : Keeps s0 (startWake step bits replayed s) := by
  unfold startWake
  try dsimp only
  repeat' first
    | with_reducible assumption
    | with_reducible refine modDev_keeps ?_
    | with_reducible refine modPwr_keeps ?_

theorem wakeEvent_keeps {s0 s : State} {src : Nat} (h : Keeps s0 s) : Keeps s0 (wakeEvent src s) := by
  unfold wakeEvent
  try dsimp only
  repeat' first
    | with_reducible assumption
    | with_reducible refine modPwr_keeps ?_
    | with_reducible refine raiseWake_keeps ?_
    | with_reducible refine replayWake_keeps ?_
    | with_reducible refine startWake_keeps ?_
    | with_reducible refine Keeps.ite ?_ ?_
    | split

/-! ## Radio -/

theorem abortSlice_keeps {s0 s : State} (h : Keeps s0 s) : Keeps s0 (abortSlice s) := by
  unfold abortSlice
  try dsimp only
  repeat' first
    | with_reducible assumption
    | with_reducible refine modRadio_keeps ?_

theorem execBgCalInterval_keeps {s0 s : State} (h : Keeps s0 s) : Answers s0 (execBgCalInterval s) := by
  unfold execBgCalInterval
  try dsimp only
  repeat' first
    | with_reducible assumption
    | with_reducible refine modRadio_keeps ?_
    | with_reducible refine advanceTo_keeps ?_
    | with_reducible refine Answers.next ?_
    | with_reducible refine Keeps.ite ?_ ?_
    | with_reducible refine Answers.ite ?_ ?_

theorem endItem_keeps {s0 s : State} (h : Keeps s0 s) : Keeps s0 (endItem s) := by
  unfold endItem
  try dsimp only
  repeat' first
    | with_reducible assumption
    | with_reducible refine modRadio_keeps ?_

theorem execBgCalSliceEnd_keeps {s0 s : State} (h : Keeps s0 s) : Answers s0 (execBgCalSliceEnd s) := by
  unfold execBgCalSliceEnd
  try dsimp only
  repeat' first
    | with_reducible assumption
    | with_reducible refine modRadio_keeps ?_
    | with_reducible refine completeWhere_keeps ?_
    | with_reducible refine endItem_keeps ?_
    | with_reducible refine Answers.next ?_
    | with_reducible refine Keeps.ite ?_ ?_
    | with_reducible refine Answers.ite ?_ ?_

theorem execPreambleDetected_keeps {s0 s : State} (h : Keeps s0 s) : Answers s0 (execPreambleDetected s) := by
  unfold execPreambleDetected
  try dsimp only
  repeat' first
    | with_reducible assumption
    | with_reducible refine modRadio_keeps ?_
    | with_reducible refine modPwr_keeps ?_
    | with_reducible refine abortSlice_keeps ?_
    | with_reducible refine Answers.next ?_
    | with_reducible refine Keeps.ite ?_ ?_
    | with_reducible refine Answers.ite ?_ ?_

theorem coexFall_keeps {s0 s : State} (h : Keeps s0 s) : Keeps s0 (coexFall s) := by
  unfold coexFall
  try dsimp only
  repeat' first
    | with_reducible assumption
    | with_reducible refine modRadio_keeps ?_

theorem tellRequest_keeps {s0 s : State} {q : TxReq} {status : Nat} (h : Keeps s0 s) : Keeps s0 (tellRequest q status s) := by
  unfold tellRequest
  try dsimp only
  repeat' first
    | with_reducible assumption
    | with_reducible refine done_keeps ?_
    | with_reducible refine Keeps.ite ?_ ?_
    | split

theorem countOutcome_keeps {s0 s : State} {status : Nat} (h : Keeps s0 s) : Keeps s0 (countOutcome status s) := by
  unfold countOutcome
  try dsimp only
  repeat' first
    | with_reducible assumption
    | with_reducible refine modRadio_keeps ?_
    | with_reducible refine Keeps.ite ?_ ?_

theorem startHead_keeps {s0 s : State} (h : Keeps s0 s) : Keeps s0 (startHead s) := by
  unfold startHead
  try dsimp only
  repeat' first
    | with_reducible assumption
    | with_reducible refine modRadio_keeps ?_
    | with_reducible refine takeConf_keeps ?_
    | with_reducible refine abortSlice_keeps ?_
    | with_reducible refine Keeps.ite ?_ ?_
    | split

theorem nextOp_keeps {s0 s : State} (h : Keeps s0 s) : Keeps s0 (nextOp s) := by
  unfold nextOp
  try dsimp only
  repeat' first
    | with_reducible assumption
    | with_reducible refine modRadio_keeps ?_
    | with_reducible refine beginWindows_keeps ?_
    | with_reducible refine radioRest_keeps ?_
    | with_reducible refine startHead_keeps ?_
    | with_reducible refine Keeps.ite ?_ ?_

theorem endPacket_keeps {s0 s : State} {status : Nat} (h : Keeps s0 s) : Keeps s0 (endPacket status s) := by
  unfold endPacket
  try dsimp only
  repeat' first
    | with_reducible assumption
    | with_reducible refine tellRequest_keeps ?_
    | with_reducible refine countOutcome_keeps ?_
    | with_reducible refine nextOp_keeps ?_
    | with_reducible refine Keeps.ite ?_ ?_
    | split

theorem receiving_keeps {s0 s : State} (h : Keeps s0 s) : Keeps s0 (receiving s) := by
  unfold receiving
  try dsimp only
  repeat' first
    | with_reducible assumption
    | with_reducible refine modRadio_keeps ?_
    | with_reducible refine Keeps.ite ?_ ?_

theorem takeRequest_keeps {s0 s : State} {q : TxReq} (h : Keeps s0 s) : Keeps s0 (takeRequest q s) := by
  unfold takeRequest
  try dsimp only
  repeat' first
    | with_reducible assumption
    | with_reducible refine modRadio_keeps ?_
    | with_reducible refine beginWindows_keeps ?_
    | with_reducible refine startHead_keeps ?_
    | with_reducible refine receiving_keeps ?_
    | with_reducible refine Keeps.ite ?_ ?_

theorem execCoexGrantRise_keeps {s0 s : State} (h : Keeps s0 s) : Answers s0 (execCoexGrantRise s) := by
  unfold execCoexGrantRise
  try dsimp only
  repeat' first
    | with_reducible assumption
    | with_reducible refine modRadio_keeps ?_
    | with_reducible refine Answers.next ?_

theorem noteDuty_keeps {s0 s : State} {us : Nat} (h : Keeps s0 s) : Keeps s0 (noteDuty us s) := by
  unfold noteDuty
  try dsimp only
  repeat' first
    | with_reducible assumption
    | with_reducible refine modProx_keeps ?_

theorem recordDuty_keeps {s0 s : State} {us : Nat} (h : Keeps s0 s) : Keeps s0 (recordDuty us s) := by
  unfold recordDuty
  try dsimp only
  repeat' first
    | with_reducible assumption
    | with_reducible refine noteDuty_keeps ?_
    | with_reducible refine Keeps.ite ?_ ?_

theorem onAir_keeps {s0 s : State} (h : Keeps s0 s) : Keeps s0 (onAir s) := by
  unfold onAir
  try dsimp only
  repeat' first
    | with_reducible assumption
    | with_reducible refine modRadio_keeps ?_

theorem dutyCut_keeps {s0 s : State} (h : Keeps s0 s) : Keeps s0 (dutyCut s) := by
  unfold dutyCut
  try dsimp only
  repeat' first
    | with_reducible assumption
    | with_reducible refine recordDuty_keeps ?_
    | with_reducible refine Keeps.ite ?_ ?_
    | split

theorem stopCw_keeps {s0 s : State} (h : Keeps s0 s) : Keeps s0 (stopCw s) := by
  unfold stopCw
  try dsimp only
  repeat' first
    | with_reducible assumption
    | with_reducible refine endPacket_keeps ?_
    | with_reducible refine dutyCut_keeps ?_

theorem execRadioCwEnd_keeps {s0 s : State} (h : Keeps s0 s) : Answers s0 (execRadioCwEnd s) := by
  unfold execRadioCwEnd
  try dsimp only
  repeat' first
    | with_reducible assumption
    | with_reducible refine advanceTo_keeps ?_
    | with_reducible refine stopCw_keeps ?_
    | with_reducible refine Answers.next ?_
    | with_reducible refine Keeps.ite ?_ ?_
    | with_reducible refine Answers.ite ?_ ?_
    | split

theorem radioStop_keeps {s0 s : State} {hd : Held} (h : Keeps s0 s) : Keeps s0 (radioStop hd s) := by
  unfold radioStop
  try dsimp only
  repeat' first
    | with_reducible assumption
    | with_reducible refine done_keeps ?_
    | with_reducible refine stopCw_keeps ?_
    | with_reducible refine Keeps.ite ?_ ?_

theorem execRadioStop_keeps {s0 s : State} {ring : Nat} (h : Keeps s0 s) : Answers s0 (execRadioStop ring s) := by
  unfold execRadioStop
  try dsimp only
  repeat' first
    | with_reducible assumption
    | with_reducible refine cmdPlain_keeps (fun _ _ _ => ?_) ?_
    | with_reducible refine radioStop_keeps ?_

theorem radioCal_keeps {s0 s : State} {hd : Held} (h : Keeps s0 s) : Keeps s0 (radioCal hd s) := by
  unfold radioCal
  try dsimp only
  repeat' first
    | with_reducible assumption
    | with_reducible refine modRadio_keeps ?_
    | with_reducible refine done_keeps ?_
    | with_reducible refine setKind_keeps ?_
    | with_reducible refine wakeRadio_keeps ?_
    | with_reducible refine Keeps.ite ?_ ?_

theorem execRadioCal_keeps {s0 s : State} {ring : Nat} (h : Keeps s0 s) : Answers s0 (execRadioCal ring s) := by
  unfold execRadioCal
  try dsimp only
  repeat' first
    | with_reducible assumption
    | with_reducible refine cmdPlain_keeps (fun _ _ _ => ?_) ?_
    | with_reducible refine radioCal_keeps ?_

theorem radioCw_keeps {s0 s : State} {hd : Held} (h : Keeps s0 s) : Keeps s0 (radioCw hd s) := by
  unfold radioCw
  try dsimp only
  repeat' first
    | with_reducible assumption
    | with_reducible refine done_keeps ?_
    | with_reducible refine setKind_keeps ?_
    | with_reducible refine takeRequest_keeps ?_
    | with_reducible refine Keeps.ite ?_ ?_

theorem execRadioCw_keeps {s0 s : State} {ring : Nat} (h : Keeps s0 s) : Answers s0 (execRadioCw ring s) := by
  unfold execRadioCw
  try dsimp only
  repeat' first
    | with_reducible assumption
    | with_reducible refine cmdPlain_keeps (fun _ _ _ => ?_) ?_
    | with_reducible refine radioCw_keeps ?_

/-! ## Prox -/

theorem completeDemands_keeps {s0 s : State} {svc start status : Nat} {w5 : Word} (h : Keeps s0 s) : Keeps s0 (completeDemands svc start status w5 s) := by
  unfold completeDemands
  try dsimp only
  repeat' first
    | with_reducible assumption
    | with_reducible refine completeWhere_keeps ?_

theorem endSeq_keeps {s0 s : State} {q : ZtSeq} {status : Nat} {withFix : Bool} (h : Keeps s0 s) : Keeps s0 (endSeq q status withFix s) := by
  unfold endSeq
  try dsimp only
  repeat' first
    | with_reducible assumption
    | with_reducible refine modProx_keeps ?_
    | with_reducible refine completeWhere_keeps ?_
    | with_reducible refine flushResults_keeps ?_
    | with_reducible refine completeDemands_keeps ?_
    | with_reducible refine Keeps.ite ?_ ?_

theorem postRelay_keeps {s0 s : State} {slot : Nat} {f : FixParts} {got : RangeGot} (h : Keeps s0 s) : Keeps s0 (postRelay slot f got s) := by
  unfold postRelay
  try dsimp only
  repeat' first
    | with_reducible assumption
    | with_reducible refine modProx_keeps ?_
    | with_reducible refine postEvent_keeps ?_

theorem completeFix_keeps {s0 s : State} {q : ZtSeq} {status : Nat} {got : RangeGot} (h : Keeps s0 s) : Keeps s0 (completeFix q status got s) := by
  unfold completeFix
  try dsimp only
  repeat' first
    | with_reducible assumption
    | with_reducible refine modProx_keeps ?_
    | with_reducible refine modKey_keeps ?_
    | with_reducible refine applyFix_keeps ?_
    | with_reducible refine gather_keeps ?_
    | with_reducible refine endSeq_keeps ?_
    | with_reducible refine postRelay_keeps ?_
    | with_reducible refine Keeps.ite ?_ ?_

theorem endHead_keeps {s0 s : State} {status : Nat} (h : Keeps s0 s) : Keeps s0 (endHead status s) := by
  unfold endHead
  try dsimp only
  repeat' first
    | with_reducible assumption
    | with_reducible refine tellRequest_keeps ?_
    | with_reducible refine countOutcome_keeps ?_
    | with_reducible refine nextOp_keeps ?_
    | with_reducible refine endSeq_keeps ?_
    | with_reducible refine completeFix_keeps ?_
    | with_reducible refine Keeps.ite ?_ ?_
    | split

theorem refuseHeld_keeps {s0 s : State} (h : Keeps s0 s) : Keeps s0 (refuseHeld s) := by
  unfold refuseHeld
  try dsimp only
  repeat' first
    | with_reducible assumption
    | with_reducible refine noteDuty_keeps ?_
    | with_reducible refine endHead_keeps ?_
    | with_reducible refine Keeps.ite ?_ ?_
    | split

theorem holdRadio_keeps {s0 s : State} (h : Keeps s0 s) : Keeps s0 (holdRadio s) := by
  unfold holdRadio
  try dsimp only
  repeat' first
    | with_reducible assumption
    | with_reducible refine refuseHeld_keeps ?_
    | with_reducible refine Keeps.ite ?_ ?_
    | with_reducible refine Keeps.foldl _ _ (fun _ _ _ => ?_) ?_

theorem modSeq_keeps {s0 s : State} {id : Nat} {f : ZtSeq → ZtSeq} (h : Keeps s0 s) : Keeps s0 (modSeq id f s) := by
  unfold modSeq
  try dsimp only
  repeat' first
    | with_reducible assumption
    | with_reducible refine modProx_keeps ?_

/-! ## Sched -/

theorem meets_keeps {s0 s : State} {n : Nat} {target : Int} (h : Keeps s0 s) : ∀ t, meets s n target = some t → Keeps s0 t := by
  unfold meets
  intro t ht
  split at ht
  · cases ht; exact h
  · split at ht
    · cases ht
    · dsimp only at ht
      split at ht
      · cases ht; exact advanceTo_keeps h
      · cases ht

theorem countRefusal_keeps {s0 s : State} {why : Nat} (h : Keeps s0 s) : Keeps s0 (countRefusal why s) := by
  unfold countRefusal
  try dsimp only
  repeat' first
    | with_reducible assumption
    | with_reducible refine modPwr_keeps ?_
    | with_reducible refine raise_keeps ?_
    | with_reducible refine Keeps.ite ?_ ?_

theorem modCand_keeps {s0 s : State} {c : Cand} {f : Cand → Cand} (h : Keeps s0 s) : Keeps s0 (modCand c f s) := by
  unfold modCand
  try dsimp only
  repeat' first
    | with_reducible assumption
    | with_reducible refine modSched_keeps ?_

theorem decideCand_keeps {s0 s : State} {c : Cand} (h : Keeps s0 s) : Keeps s0 (decideCand c s) := by
  unfold decideCand
  try dsimp only
  repeat' first
    | with_reducible assumption
    | with_reducible refine countRefusal_keeps ?_
    | with_reducible refine modCand_keeps ?_
    | with_reducible refine Keeps.ite ?_ ?_
    | with_reducible refine Keeps.foldl _ _ (fun _ _ _ => ?_) ?_
    | split

theorem decideWaiting_keeps {s0 s : State} (h : Keeps s0 s) : Keeps s0 (decideWaiting s) := by
  unfold decideWaiting
  try dsimp only
  repeat' first
    | with_reducible assumption
    | with_reducible refine decideCand_keeps ?_
    | with_reducible refine Keeps.ite ?_ ?_
    | with_reducible refine Keeps.foldl _ _ (fun _ _ _ => ?_) ?_

theorem renewCands_keeps {s0 s : State} (h : Keeps s0 s) : Keeps s0 (renewCands s) := by
  unfold renewCands
  try dsimp only
  repeat' first
    | with_reducible assumption
    | with_reducible refine modSched_keeps ?_

theorem failDemands_keeps {s0 s : State} {svc status : Nat} (h : Keeps s0 s) : Keeps s0 (failDemands svc status s) := by
  unfold failDemands
  try dsimp only
  repeat' first
    | with_reducible assumption
    | with_reducible refine completeWhere_keeps ?_
    | with_reducible refine modSvc_keeps ?_

theorem skipLines_keeps {s0 s : State} (h : Keeps s0 s) : Keeps s0 (skipLines s) := by
  unfold skipLines
  try dsimp only
  repeat' first
    | with_reducible assumption
    | with_reducible refine modMnt_keeps ?_

theorem armAt_keeps {s0 s u : State} {n angle t : Nat} {target : Int} (h : Keeps s0 s) (e : armAt s n angle = some (target, t, u)) : Keeps s0 u := by
  unfold armAt at e
  dsimp only at e
  split at e
  · cases e
  · rw [Option.map_eq_some_iff] at e
    obtain ⟨_, -, e⟩ := e
    cases e
    exact advanceTo_keeps h

theorem armSweep_keeps {s0 s : State} {opp : Nat} (h : Keeps s0 s) : Keeps s0 (armSweep opp s) := by
  unfold armSweep
  try dsimp only
  repeat' first
    | with_reducible assumption
    | exact armAt_keeps (skipLines_keeps (by assumption)) (by assumption)
    | with_reducible refine modSched_keeps ?_
    | with_reducible refine skipLines_keeps ?_
    | with_reducible refine Keeps.ite ?_ ?_
    | split

theorem execEntryArm_keeps {s0 s : State} {svc opp : Nat} (h : Keeps s0 s) : Answers s0 (execEntryArm svc opp s) := by
  unfold execEntryArm
  try dsimp only
  repeat' first
    | with_reducible assumption
    | exact armAt_keeps (by assumption) (by assumption)
    | with_reducible refine modSched_keeps ?_
    | with_reducible refine used_keeps ?_
    | with_reducible refine failDemands_keeps ?_
    | with_reducible refine armSweep_keeps ?_
    | with_reducible refine Answers.next ?_
    | with_reducible refine Keeps.ite ?_ ?_
    | with_reducible refine Answers.ite ?_ ?_
    | split

theorem ledgerQuantities_keeps {s0 s : State} {k : Nat} (h : Keeps s0 s) : Keeps s0 (ledgerQuantities k s) := by
  unfold ledgerQuantities
  try dsimp only
  repeat' first
    | with_reducible assumption
    | with_reducible refine modPwr_keeps ?_

theorem heatLimit_keeps {s0 s : State} (h : Keeps s0 s) : Keeps s0 (heatLimit s) := by
  unfold heatLimit
  try dsimp only
  repeat' first
    | with_reducible assumption
    | with_reducible refine modPwr_keeps ?_
    | with_reducible refine postEvent_keeps ?_
    | with_reducible refine Keeps.ite ?_ ?_

theorem ledgerTick_keeps {s0 s : State} {sensors : List Int} {vbatMv : Nat} (h : Keeps s0 s) : Keeps s0 (ledgerTick sensors vbatMv s) := by
  unfold ledgerTick
  try dsimp only
  repeat' first
    | with_reducible assumption
    | with_reducible refine modDev_keeps ?_
    | with_reducible refine modPwr_keeps ?_
    | with_reducible refine advanceTo_keeps ?_
    | with_reducible refine takePwrConf_keeps ?_
    | with_reducible refine setVbat_keeps ?_
    | with_reducible refine decideWaiting_keeps ?_
    | with_reducible refine renewCands_keeps ?_
    | with_reducible refine ledgerQuantities_keeps ?_
    | with_reducible refine heatLimit_keeps ?_
    | with_reducible refine Keeps.ite ?_ ?_

theorem execAdmissionFinal_keeps {s0 s : State} {svc : Nat} (h : Keeps s0 s) : Answers s0 (execAdmissionFinal svc s) := by
  unfold execAdmissionFinal
  try dsimp only
  repeat' first
    | with_reducible assumption
    | with_reducible refine modSched_keeps ?_
    | with_reducible refine advanceTo_keeps ?_
    | with_reducible refine decideWaiting_keeps ?_
    | with_reducible refine renewCands_keeps ?_
    | with_reducible refine Answers.next ?_
    | with_reducible refine Keeps.ite ?_ ?_
    | with_reducible refine Answers.ite ?_ ?_
    | split

theorem setLate_keeps {s0 s : State} {n : Nat} (h : Keeps s0 s) : Keeps s0 (setLate n s) := by
  unfold setLate
  try dsimp only
  repeat' first
    | with_reducible assumption
    | with_reducible refine raise_keeps ?_
    | with_reducible refine modTb_keeps ?_ (fun _ => rfl) (fun _ => rfl)

theorem startListen_keeps {s0 s : State} {svc : Nat} (h : Keeps s0 s) : Keeps s0 (startListen svc s) := by
  unfold startListen
  try dsimp only
  repeat' first
    | with_reducible assumption
    | with_reducible refine modRadio_keeps ?_
    | with_reducible refine openResults_keeps ?_
    | with_reducible refine Keeps.ite ?_ ?_
    | split

theorem startBlock_keeps {s0 s : State} {c : Cand} (h : Keeps s0 s) : Keeps s0 (startBlock c s) := by
  unfold startBlock
  try dsimp only
  repeat' first
    | with_reducible assumption
    | with_reducible refine modSched_keeps ?_
    | with_reducible refine modRoster_keeps ?_
    | with_reducible refine modSec_keeps ?_
    | with_reducible refine captureTrig_keeps ?_
    | with_reducible refine advanceTo_keeps ?_
    | with_reducible refine modSvc_keeps ?_
    | with_reducible refine beginExchange_keeps ?_
    | with_reducible refine startListen_keeps ?_
    | with_reducible refine Keeps.ite ?_ ?_

theorem dropCand_keeps {s0 s : State} {c : Cand} (h : Keeps s0 s) : Keeps s0 (dropCand c s) := by
  unfold dropCand
  try dsimp only
  repeat' first
    | with_reducible assumption
    | with_reducible refine modSched_keeps ?_

theorem crossCand_keeps {s0 s : State} {c : Cand} {n : Nat} (h : Keeps s0 s) : Keeps s0 (crossCand c n s) := by
  unfold crossCand
  try dsimp only
  repeat' first
    | with_reducible assumption
    | with_reducible refine deferSvc_keeps ?_
    | with_reducible refine applyStaged_keeps ?_
    | with_reducible refine failDemands_keeps ?_
    | with_reducible refine setLate_keeps ?_
    | with_reducible refine startBlock_keeps ?_
    | with_reducible refine dropCand_keeps ?_
    | with_reducible refine Keeps.ite ?_ ?_

theorem crossSweep_keeps {s0 s : State} {opp : Nat} (h : Keeps s0 s) : Keeps s0 (crossSweep opp s) := by
  unfold crossSweep
  try dsimp only
  repeat' first
    | with_reducible assumption
    | exact meets_keeps (by assumption) _ (Option.ite_none_right_eq_some.1 (by assumption)).2
    | with_reducible refine modSched_keeps ?_
    | with_reducible refine captureTrig_keeps ?_
    | with_reducible refine advanceTo_keeps ?_
    | with_reducible refine meets_keeps ?_ _ (by assumption)
    | with_reducible refine dropCand_keeps ?_
    | with_reducible refine Keeps.ite ?_ ?_
    | split

theorem execEntryCrossing_keeps {s0 s : State} {svc opp : Nat} (h : Keeps s0 s) : Answers s0 (execEntryCrossing svc opp s) := by
  unfold execEntryCrossing
  try dsimp only
  repeat' first
    | with_reducible assumption
    | with_reducible refine Keeps.getD _ _ (fun _ => ?_) ?_
    | exact meets_keeps (by assumption) _ (by assumption)
    | with_reducible refine modSvc_keeps ?_
    | with_reducible refine deferSvc_keeps ?_
    | with_reducible refine meets_keeps ?_ _ (by assumption)
    | with_reducible refine failDemands_keeps ?_
    | with_reducible refine setLate_keeps ?_
    | with_reducible refine dropCand_keeps ?_
    | with_reducible refine crossCand_keeps ?_
    | with_reducible refine crossSweep_keeps ?_
    | with_reducible refine Answers.next ?_
    | with_reducible refine Keeps.ite ?_ ?_
    | with_reducible refine Answers.ite ?_ ?_
    | split

/-! ## IslandMem -/

theorem startNext_keeps {s0 s : State} (h : Keeps s0 s) : Keeps s0 (startNext s) := by
  unfold startNext
  try dsimp only
  repeat' first
    | with_reducible assumption
    | with_reducible refine modIsl_keeps ?_
    | with_reducible refine complete_keeps ?_
    | with_reducible refine Keeps.ite ?_ ?_
    | split

theorem queueWrites_keeps {s0 s : State} {l : List StagedBlk} (h : Keeps s0 s) : Keeps s0 (queueWrites l s) := by
  unfold queueWrites
  try dsimp only
  repeat' first
    | with_reducible assumption
    | with_reducible refine modIsl_keeps ?_
    | with_reducible refine startNext_keeps ?_

theorem applyNext_keeps {s0 s : State} (h : Keeps s0 s) : Keeps s0 (applyNext s) := by
  unfold applyNext
  try dsimp only
  repeat' first
    | with_reducible assumption
    | with_reducible refine modIsl_keeps ?_
    | with_reducible refine Keeps.ite ?_ ?_
    | split

theorem execIslandCommitComplete_keeps {s0 s : State} (h : Keeps s0 s) : Answers s0 (execIslandCommitComplete s) := by
  unfold execIslandCommitComplete
  try dsimp only
  repeat' first
    | with_reducible assumption
    | with_reducible refine modIsl_keeps ?_
    | with_reducible refine startNext_keeps ?_
    | with_reducible refine applyNext_keeps ?_
    | with_reducible refine Answers.next ?_
    | with_reducible refine Keeps.ite ?_ ?_
    | with_reducible refine Answers.ite ?_ ?_

theorem execXpmApplied_keeps {s0 s : State} (h : Keeps s0 s) : Answers s0 (execXpmApplied s) := by
  unfold execXpmApplied
  try dsimp only
  repeat' first
    | with_reducible assumption
    | with_reducible refine modIsl_keeps ?_
    | with_reducible refine postEvent_keeps ?_
    | with_reducible refine Answers.next ?_
    | with_reducible refine Keeps.ite ?_ ?_
    | with_reducible refine Answers.ite ?_ ?_
    | with_reducible refine Keeps.foldl _ _ (fun _ _ _ => ?_) ?_
    | split

theorem stageOne_keeps {s0 s : State} {rest : List StagedBlk} {r : Nat × Nat} (h : Keeps s0 s) : Keeps s0 (stageOne rest s r) := by
  unfold stageOne
  dsimp only
  exact Keeps.ite (modIsl_keeps h) (Keeps.ite (complete_keeps (modIsl_keeps h)) (complete_keeps h))

theorem stageRest_keeps {s0 s : State} (h : Keeps s0 s) : Keeps s0 (stageRest s) :=
  Keeps.foldl _ _ (fun _ _ hs => stageOne_keeps hs) (modIsl_keeps h)

theorem postSessions_keeps {s0 s : State} (h : Keeps s0 s) : Keeps s0 (postSessions s) := by
  unfold postSessions
  try dsimp only
  repeat' first
    | with_reducible assumption
    | with_reducible refine modIsl_keeps ?_
    | with_reducible refine postEvent_keeps ?_
    | with_reducible refine Keeps.ite ?_ ?_
    | with_reducible refine Keeps.foldl _ _ (fun _ _ _ => ?_) ?_

theorem enrolHitch_keeps {s0 s : State} {usage owner : Nat} {key : List Byte} (h : Keeps s0 s) : Keeps s0 (enrolHitch usage owner key s) := by
  unfold enrolHitch
  try dsimp only
  repeat' first
    | with_reducible assumption
    | with_reducible refine modIsl_keeps ?_
    | with_reducible refine writeSlot_keeps ?_
    | with_reducible refine Keeps.ite ?_ ?_

theorem settleEnrolWait_keeps {s0 s : State} (h : Keeps s0 s) : Keeps s0 (settleEnrolWait s) := by
  unfold settleEnrolWait
  try dsimp only
  repeat' first
    | with_reducible assumption
    | with_reducible refine modIsl_keeps ?_
    | with_reducible refine writeSlot_keeps ?_
    | with_reducible refine Keeps.ite ?_ ?_
    | split

theorem afterSession_keeps {s0 s : State} (h : Keeps s0 s) : Keeps s0 (afterSession s) := by
  unfold afterSession
  try dsimp only
  repeat' first
    | with_reducible assumption
    | with_reducible refine applyNext_keeps ?_
    | with_reducible refine postSessions_keeps ?_
    | with_reducible refine settleEnrolWait_keeps ?_
    | with_reducible refine Keeps.ite ?_ ?_

theorem writeOwnBlock_keeps {s0 s : State} {blk : Nat} {v : Word} (h : Keeps s0 s) : Keeps s0 (writeOwnBlock blk v s) := by
  unfold writeOwnBlock
  try dsimp only
  repeat' first
    | with_reducible assumption
    | with_reducible refine modIsl_keeps ?_
    | with_reducible refine queueWrites_keeps ?_
    | with_reducible refine Keeps.ite ?_ ?_

theorem refreshOwnBlocks_keeps {s0 s : State} (h : Keeps s0 s) : Keeps s0 (refreshOwnBlocks s) := by
  unfold refreshOwnBlocks
  try dsimp only
  repeat' first
    | with_reducible assumption
    | with_reducible refine writeOwnBlock_keeps ?_
    | with_reducible refine Keeps.ite ?_ ?_

/-! ## Update -/

theorem acceptHeader_keeps {s0 s : State} {blob : List Byte} (h : Keeps s0 s) : Keeps s0 (acceptHeader blob s) := by
  unfold acceptHeader
  try dsimp only
  repeat' first
    | with_reducible assumption
    | with_reducible refine modBank_keeps ?_
    | with_reducible refine setStage_keeps ?_
    | with_reducible refine refreshOwnBlocks_keeps ?_
    | with_reducible refine modNv_keeps ?_ (fun _ h => h) (fun _ h => h)
    | with_reducible refine modNv_keeps ?_ (fun _ h => h) (fun _ h => by simpa using h)
    | with_reducible refine Keeps.ite ?_ ?_

theorem takeHeader_keeps {s0 s : State} {blob : List Byte} (h : Keeps s0 s) : Keeps s0 (takeHeader blob s).1 := by
  unfold takeHeader
  try dsimp only
  repeat' first
    | with_reducible assumption
    | with_reducible refine acceptHeader_keeps ?_
    | with_reducible refine Keeps.ite ?_ ?_
    | split

theorem takePiece_keeps {s0 s : State} {key : List Byte} {i : Nat} {bs : List Byte} (h : Keeps s0 s) : Keeps s0 (takePiece key i bs s).1 := by
  unfold takePiece
  try dsimp only
  repeat' first
    | with_reducible assumption
    | with_reducible refine modSec_keeps ?_
    | with_reducible refine modUpd_keeps ?_
    | with_reducible refine modBank_keeps ?_
    | with_reducible refine setStage_keeps ?_
    | with_reducible refine postStage_keeps ?_
    | with_reducible refine refreshOwnBlocks_keeps ?_
    | with_reducible refine modNv_keeps ?_ (fun _ h => h) (fun _ h => h)
    | with_reducible refine modNv_keeps ?_ (fun _ h => h) (fun _ h => by simpa using h)
    | with_reducible refine Keeps.ite ?_ ?_
    | split

theorem confirmImage_keeps {s0 s : State} (h : Keeps s0 s) : Keeps s0 (confirmImage s) := by
  unfold confirmImage
  try dsimp only
  repeat' first
    | with_reducible assumption
    | with_reducible refine modUpd_keeps ?_
    | with_reducible refine postEvent_keeps ?_
    | with_reducible refine burnSecver_keeps ?_
    | with_reducible refine writeBoot_keeps ?_
    | with_reducible refine setStage_keeps ?_
    | with_reducible refine refreshOwnBlocks_keeps ?_

theorem abandonImage_keeps {s0 s : State} (h : Keeps s0 s) : Keeps s0 (abandonImage s) := by
  unfold abandonImage
  try dsimp only
  repeat' first
    | with_reducible assumption
    | with_reducible refine setStage_keeps ?_
    | with_reducible refine refreshOwnBlocks_keeps ?_
    | with_reducible refine modNv_keeps ?_ (fun _ h => h) (fun _ h => h)

theorem endVerify_keeps {s0 s : State} (h : Keeps s0 s) : Keeps s0 (endVerify s).1 := by
  unfold endVerify
  try dsimp only
  repeat' first
    | with_reducible assumption
    | with_reducible refine done_keeps ?_
    | with_reducible refine verifyBody_keeps ?_
    | with_reducible refine Keeps.fst (by assumption) (verifyBody_keeps ?_)
    | with_reducible refine refreshOwnBlocks_keeps ?_
    | with_reducible refine abandonImage_keeps ?_
    | with_reducible refine Keeps.ite ?_ ?_
    | with_reducible refine Keeps.foldl _ _ (fun _ _ _ => ?_) ?_
    | split

theorem execAutoConfirm_keeps {s0 s : State} (h : Keeps s0 s) : Answers s0 (execAutoConfirm s) := by
  unfold execAutoConfirm
  try dsimp only
  repeat' first
    | with_reducible assumption
    | with_reducible refine advanceTo_keeps ?_
    | with_reducible refine retire_keeps ?_
    | with_reducible refine confirmImage_keeps ?_
    | with_reducible refine Answers.next ?_
    | with_reducible refine Keeps.ite ?_ ?_
    | with_reducible refine Answers.ite ?_ ?_

theorem activateImage_keeps {s0 s : State} (h : Keeps s0 s) : Keeps s0 (activateImage s) := by
  unfold activateImage
  try dsimp only
  repeat' first
    | with_reducible assumption
    | with_reducible refine writeBoot_keeps ?_
    | with_reducible refine setStage_keeps ?_
    | with_reducible refine modArea_keeps ?_
    | with_reducible refine resetDevice_keeps ?_
    | with_reducible refine modNv_keeps ?_ (fun _ h => h) (fun _ h => h)

/-! ## Jobs -/

theorem modJob_keeps {s0 s : State} {id : Nat} {f : Job → Job} (h : Keeps s0 s) : Keeps s0 (modJob id f s) := by
  unfold modJob
  try dsimp only
  repeat' first
    | with_reducible assumption
    | with_reducible refine modSec_keeps ?_

theorem dropJob_keeps {s0 s : State} {id : Nat} (h : Keeps s0 s) : Keeps s0 (dropJob id s) := by
  unfold dropJob
  try dsimp only
  repeat' first
    | with_reducible assumption
    | with_reducible refine modSec_keeps ?_

theorem openQuarantine_keeps {s0 s : State} {hd : Held} (h : Keeps s0 s) : Keeps s0 (openQuarantine hd s) := by
  unfold openQuarantine
  try dsimp only
  repeat' first
    | with_reducible assumption
    | with_reducible refine modPort_keeps ?_ (fun _ => rfl)
    | with_reducible refine Keeps.ite ?_ ?_

theorem refuseJob_keeps {s0 s : State} {j : Job} {status : Nat} (h : Keeps s0 s) : Keeps s0 (refuseJob j status s) := by
  unfold refuseJob
  try dsimp only
  repeat' first
    | with_reducible assumption
    | with_reducible refine complete_keeps ?_
    | with_reducible refine dropJob_keeps ?_
    | with_reducible refine openQuarantine_keeps ?_
    | with_reducible refine Keeps.ite ?_ ?_
    | split

theorem refuseRestore_keeps {s0 s : State} (h : Keeps s0 s) : Keeps s0 (refuseRestore s) := by
  unfold refuseRestore
  try dsimp only
  repeat' first
    | with_reducible assumption
    | with_reducible refine modSec_keeps ?_

theorem runJob_keeps {s0 s : State} {j : Job} {key : List Byte} (h : Keeps s0 s) : Keeps s0 (runJob j key s) := by
  unfold runJob
  try dsimp only
  repeat' first
    | with_reducible assumption
    | with_reducible refine modSec_keeps ?_
    | with_reducible refine bumpNonce_keeps ?_
    | with_reducible refine modJob_keeps ?_
    | with_reducible refine Keeps.ite ?_ ?_

theorem loadKey_keeps {s0 s : State} {j : Job} {a : Dword} {key : List Byte} (h : Keeps s0 s) : Keeps s0 (loadKey j a key s) := by
  unfold loadKey
  try dsimp only
  repeat' first
    | with_reducible assumption
    | with_reducible refine retire_keeps ?_
    | with_reducible refine refuseJob_keeps ?_
    | with_reducible refine refuseRestore_keeps ?_
    | with_reducible refine runJob_keeps ?_
    | with_reducible refine Keeps.ite ?_ ?_
    | split

theorem startJob_keeps {s0 s : State} {j : Job} (h : Keeps s0 s) : Keeps s0 (startJob j s) := by
  unfold startJob
  try dsimp only
  repeat' first
    | with_reducible assumption
    | with_reducible refine retire_keeps ?_
    | with_reducible refine corruptSlot_keeps ?_
    | with_reducible refine refuseJob_keeps ?_
    | with_reducible refine refuseRestore_keeps ?_
    | with_reducible refine runJob_keeps ?_
    | with_reducible refine loadKey_keeps ?_
    | with_reducible refine Keeps.ite ?_ ?_
    | split

theorem pumpJobs_keeps {s0 s : State} (h : Keeps s0 s) : Keeps s0 (pumpJobs s) := by
  unfold pumpJobs
  try dsimp only
  repeat' first
    | with_reducible assumption
    | with_reducible refine startJob_keeps ?_
    | with_reducible refine Keeps.ite ?_ ?_
    | with_reducible refine Keeps.foldl _ _ (fun _ _ _ => ?_) ?_

theorem addJob_keeps {s0 s : State} {pk : Bool} {parts slot ring idx opcode : Nat} {unit : Option (Nat × List Byte)} (h : Keeps s0 s) : Keeps s0 (addJob pk parts slot ring idx opcode unit s) := by
  unfold addJob
  try dsimp only
  repeat' first
    | with_reducible assumption
    | with_reducible refine modSec_keeps ?_
    | with_reducible refine pumpJobs_keeps ?_

theorem submitJob_keeps {s0 s : State} {pk : Bool} {parts slot : Nat} {hd : Held} (h : Keeps s0 s) : Keeps s0 (submitJob pk parts slot hd s) := by
  unfold submitJob
  try dsimp only
  repeat' first
    | with_reducible assumption
    | with_reducible refine setKind_keeps ?_
    | with_reducible refine addJob_keeps ?_

theorem inTurn_keeps {s0 s : State} {hd : Held} {act : Held → State → State} (hb : ∀ hd s, Keeps s0 s → Keeps s0 (act hd s)) (h : Keeps s0 s) :
    Keeps s0 (inTurn hd act s) := Keeps.ite (hb _ _ h) (submitJob_keeps h)

theorem destroyNow_keeps {s0 s : State} {hd : Held} {slot : Nat} (h : Keeps s0 s) : Keeps s0 (destroyNow hd slot s) := by
  unfold destroyNow
  try dsimp only
  repeat' first
    | with_reducible assumption
    | with_reducible refine done_keeps ?_
    | with_reducible refine finishMirrored_keeps ?_
    | with_reducible refine destroySlot_keeps ?_
    | with_reducible refine Keeps.ite ?_ ?_

theorem settleDestroys_keeps {s0 s : State} (h : Keeps s0 s) : Keeps s0 (settleDestroys s) := by
  unfold settleDestroys
  try dsimp only
  repeat' first
    | with_reducible assumption
    | with_reducible refine destroyNow_keeps ?_
    | with_reducible refine Keeps.ite ?_ ?_
    | with_reducible refine Keeps.foldl _ _ (fun _ _ _ => ?_) ?_
    | split

theorem writeStored_keeps {s0 s : State} {slot : Nat} {wrapped : List Byte} (h : Keeps s0 s) : Keeps s0 (writeStored slot wrapped s) := by
  unfold writeStored
  try dsimp only
  repeat' first
    | with_reducible assumption
    | with_reducible refine raiseGen_keeps ?_
    | with_reducible refine dropRecord_keeps ?_
    | with_reducible refine modNv_keeps ?_ (fun _ h => h) (fun _ h => h)
    | with_reducible refine modNv_keeps ?_ (fun _ h => h) (fun _ h => by simpa using h)
    | with_reducible refine Keeps.ite ?_ ?_
    | split

theorem storeSlot_keeps {s0 s : State} {slot : Nat} {wrapped : List Byte} (h : Keeps s0 s) : Keeps s0 (storeSlot slot wrapped s) := by
  unfold storeSlot
  try dsimp only
  repeat' first
    | with_reducible assumption
    | with_reducible refine modSec_keeps ?_
    | with_reducible refine writeStored_keeps ?_
    | with_reducible refine Keeps.ite ?_ ?_

theorem settleStores_keeps {s0 s : State} (h : Keeps s0 s) : Keeps s0 (settleStores s) := by
  unfold settleStores
  try dsimp only
  repeat' first
    | with_reducible assumption
    | with_reducible refine modSec_keeps ?_
    | with_reducible refine writeStored_keeps ?_
    | with_reducible refine Keeps.ite ?_ ?_
    | with_reducible refine Keeps.foldl _ _ (fun _ _ _ => ?_) ?_

theorem endSelftest_keeps {s0 s : State} {fails : BitVec 12} {hd : Held} (h : Keeps s0 s) : Keeps s0 (endSelftest fails hd s) := by
  unfold endSelftest
  try dsimp only
  repeat' first
    | with_reducible assumption
    | with_reducible refine done1_keeps ?_
    | with_reducible refine failDevice_keeps ?_
    | with_reducible refine Keeps.ite ?_ ?_
    | split

theorem settleSelftests_keeps {s0 s : State} (h : Keeps s0 s) : Keeps s0 (settleSelftests s) := by
  unfold settleSelftests
  try dsimp only
  repeat' first
    | with_reducible assumption
    | with_reducible refine endSelftest_keeps ?_
    | with_reducible refine Keeps.ite ?_ ?_
    | with_reducible refine Keeps.foldl _ _ (fun _ _ _ => ?_) ?_
    | split

theorem freed_keeps {s0 s : State} (h : Keeps s0 s) : Keeps s0 (freed s) := by
  unfold freed
  try dsimp only
  repeat' first
    | with_reducible assumption
    | with_reducible refine sendWaiting_keeps ?_
    | with_reducible refine pumpJobs_keeps ?_
    | with_reducible refine settleDestroys_keeps ?_
    | with_reducible refine settleStores_keeps ?_
    | with_reducible refine settleSelftests_keeps ?_

theorem beginVerify_keeps {s0 s : State} {ring idx : Nat} (h : Keeps s0 s) : Keeps s0 (beginVerify ring idx s) := by
  unfold beginVerify
  try dsimp only
  repeat' first
    | with_reducible assumption
    | with_reducible refine setStage_keeps ?_
    | with_reducible refine refreshOwnBlocks_keeps ?_
    | with_reducible refine addJob_keeps ?_

theorem verifyTarget_keeps {s0 s : State} (h : Keeps s0 s) : Keeps s0 (verifyTarget s) := by
  unfold verifyTarget
  try dsimp only
  repeat' first
    | with_reducible assumption
    | with_reducible refine beginVerify_keeps ?_
    | with_reducible refine Keeps.ite ?_ ?_

theorem chainActivate_keeps {s0 s : State} (h : Keeps s0 s) : Keeps s0 (chainActivate s) := by
  unfold chainActivate
  try dsimp only
  repeat' first
    | with_reducible assumption
    | with_reducible refine activateImage_keeps ?_
    | with_reducible refine Keeps.ite ?_ ?_

/-! ## Fob -/

theorem wantTx_keeps {s0 s : State} {kind slot seq : Nat} {arg : Word} {deadline : Nat} (h : Keeps s0 s) : Keeps s0 (wantTx kind slot seq arg deadline s) := by
  unfold wantTx
  try dsimp only
  repeat' first
    | with_reducible assumption
    | with_reducible refine modRadio_keeps ?_

theorem dropWant_keeps {s0 s : State} {q : TxReq} (h : Keeps s0 s) : Keeps s0 (dropWant q s) := by
  unfold dropWant
  try dsimp only
  repeat' first
    | with_reducible assumption
    | with_reducible refine modRadio_keeps ?_

theorem retireSlot_keeps {s0 s : State} {k : Nat} (h : Keeps s0 s) : Keeps s0 (retireSlot k s) := by
  unfold retireSlot
  try dsimp only
  repeat' first
    | with_reducible assumption
    | with_reducible refine modKeyNv_keeps ?_
    | with_reducible refine retire_keeps ?_
    | with_reducible refine mirrorChange_keeps ?_
    | with_reducible refine decideAll_keeps ?_
    | with_reducible refine checkHolds_keeps ?_
    | with_reducible refine modNv_keeps ?_ (fun _ h => h) (fun _ h => h)
    | with_reducible refine modNv_keeps ?_ (fun _ h => h) (fun _ h => by simpa using h)
    | with_reducible refine Keeps.ite ?_ ?_

theorem reserveDl_keeps {s0 s : State} {k : Nat} (h : Keeps s0 s) : Keeps s0 (reserveDl k s) := by
  unfold reserveDl
  try dsimp only
  repeat' first
    | with_reducible assumption
    | with_reducible refine modSec_keeps ?_
    | with_reducible refine Keeps.ite ?_ ?_

theorem refuseWant_keeps {s0 s : State} {q : TxReq} {status : Nat} (h : Keeps s0 s) : Keeps s0 (refuseWant q status s) := by
  unfold refuseWant
  try dsimp only
  repeat' first
    | with_reducible assumption
    | with_reducible refine endSeq_keeps ?_
    | with_reducible refine dropWant_keeps ?_
    | with_reducible refine Keeps.ite ?_ ?_
    | split

theorem retakeCw_keeps {s0 s : State} {q : TxReq} (h : Keeps s0 s) : Keeps s0 (retakeCw q s) := by
  unfold retakeCw
  try dsimp only
  repeat' first
    | with_reducible assumption
    | with_reducible refine takeRequest_keeps ?_
    | with_reducible refine dropWant_keeps ?_

theorem execRadioTxRequest_keeps {s0 s : State} (h : Keeps s0 s) : Answers s0 (execRadioTxRequest s) := by
  unfold execRadioTxRequest
  try dsimp only
  repeat' first
    | with_reducible assumption
    | with_reducible refine tellKey_keeps ?_
    | with_reducible refine takeRequest_keeps ?_
    | with_reducible refine freed_keeps ?_
    | with_reducible refine dropWant_keeps ?_
    | with_reducible refine retireSlot_keeps ?_
    | with_reducible refine reserveDl_keeps ?_
    | with_reducible refine refuseWant_keeps ?_
    | with_reducible refine retakeCw_keeps ?_
    | with_reducible refine Answers.next ?_
    | with_reducible refine Keeps.ite ?_ ?_
    | with_reducible refine Answers.ite ?_ ?_
    | split

theorem inSynth_keeps {s0 s : State} {f : TxReq → State → State} (hb : ∀ q s, Keeps s0 s → Keeps s0 (f q s)) (h : Keeps s0 s) :
    Answers s0 (inSynth f s) := by
  unfold inSynth
  split
  · exact Answers.next h
  · exact Answers.ite (Answers.next h) (Answers.ite (Answers.next (freed_keeps (endHead_keeps h))) (Answers.next (freed_keeps (hb _ _ h))))

theorem relock_keeps {s0 s : State} (h : Keeps s0 s) : Keeps s0 (relock s) := by
  unfold relock
  try dsimp only
  repeat' first
    | with_reducible assumption
    | with_reducible refine modRadio_keeps ?_

theorem execSynthLock_keeps {s0 s : State} (h : Keeps s0 s) : Answers s0 (execSynthLock s) := by
  unfold execSynthLock
  try dsimp only
  repeat' first
    | with_reducible assumption
    | with_reducible refine modRadio_keeps ?_
    | with_reducible refine inSynth_keeps (fun _ _ _ => ?_) ?_
    | with_reducible refine relock_keeps ?_
    | with_reducible refine Answers.next ?_
    | with_reducible refine Keeps.ite ?_ ?_
    | with_reducible refine Answers.ite ?_ ?_

theorem rampPacket_keeps {s0 s : State} {q : TxReq} (h : Keeps s0 s) : Keeps s0 (rampPacket q s) := by
  unfold rampPacket
  try dsimp only
  repeat' first
    | with_reducible assumption
    | with_reducible refine modRadio_keeps ?_
    | with_reducible refine modKey_keeps ?_
    | with_reducible refine tellKey_keeps ?_
    | with_reducible refine onAir_keeps ?_
    | with_reducible refine endHead_keeps ?_
    | with_reducible refine retireSlot_keeps ?_
    | with_reducible refine reserveDl_keeps ?_
    | with_reducible refine Keeps.ite ?_ ?_
    | split

theorem rampCw_keeps {s0 s : State} {q : TxReq} (h : Keeps s0 s) : Keeps s0 (rampCw q s) := by
  unfold rampCw
  try dsimp only
  repeat' first
    | with_reducible assumption
    | with_reducible refine modRadio_keeps ?_
    | with_reducible refine onAir_keeps ?_

theorem execPaRampStart_keeps {s0 s : State} (h : Keeps s0 s) : Answers s0 (execPaRampStart s) := by
  unfold execPaRampStart
  try dsimp only
  repeat' first
    | with_reducible assumption
    | with_reducible refine advanceTo_keeps ?_
    | with_reducible refine endHead_keeps ?_
    | with_reducible refine inSynth_keeps (fun _ _ _ => ?_) ?_
    | with_reducible refine rampPacket_keeps ?_
    | with_reducible refine rampCw_keeps ?_
    | with_reducible refine Answers.next ?_
    | with_reducible refine Keeps.ite ?_ ?_

theorem execTxEnd_keeps {s0 s : State} (h : Keeps s0 s) : Answers s0 (execTxEnd s) := by
  unfold execTxEnd
  try dsimp only
  repeat' first
    | with_reducible assumption
    | with_reducible refine modRadio_keeps ?_
    | with_reducible refine advanceTo_keeps ?_
    | with_reducible refine coexFall_keeps ?_
    | with_reducible refine endPacket_keeps ?_
    | with_reducible refine recordDuty_keeps ?_
    | with_reducible refine modSeq_keeps ?_
    | with_reducible refine Answers.next ?_
    | with_reducible refine Keeps.ite ?_ ?_
    | with_reducible refine Answers.ite ?_ ?_
    | split

theorem execTxDeadlineExpiry_keeps {s0 s : State} (h : Keeps s0 s) : Answers s0 (execTxDeadlineExpiry s) := by
  unfold execTxDeadlineExpiry
  try dsimp only
  repeat' first
    | with_reducible assumption
    | with_reducible refine advanceTo_keeps ?_
    | with_reducible refine endHead_keeps ?_
    | with_reducible refine inSynth_keeps (fun _ _ _ => ?_) ?_

theorem execCoexWaitExpiry_keeps {s0 s : State} (h : Keeps s0 s) : Answers s0 (execCoexWaitExpiry s) := by
  unfold execCoexWaitExpiry
  try dsimp only
  repeat' first
    | with_reducible assumption
    | with_reducible refine advanceTo_keeps ?_
    | with_reducible refine endHead_keeps ?_
    | with_reducible refine inSynth_keeps (fun _ _ _ => ?_) ?_
    | with_reducible refine Answers.next ?_
    | with_reducible refine Keeps.ite ?_ ?_

theorem undoRamp_keeps {s0 s : State} (h : Keeps s0 s) : Keeps s0 (undoRamp s) := by
  unfold undoRamp
  try dsimp only
  repeat' first
    | with_reducible assumption
    | with_reducible refine modRadio_keeps ?_
    | with_reducible refine modKey_keeps ?_
    | with_reducible refine Keeps.ite ?_ ?_
    | split

theorem execCoexGrantFall_keeps {s0 s : State} (h : Keeps s0 s) : Answers s0 (execCoexGrantFall s) := by
  unfold execCoexGrantFall
  try dsimp only
  repeat' first
    | with_reducible assumption
    | with_reducible refine modRadio_keeps ?_
    | with_reducible refine dutyCut_keeps ?_
    | with_reducible refine endHead_keeps ?_
    | with_reducible refine freed_keeps ?_
    | with_reducible refine undoRamp_keeps ?_
    | with_reducible refine Answers.next ?_
    | with_reducible refine Keeps.ite ?_ ?_
    | with_reducible refine Answers.ite ?_ ?_

theorem countUnlock_keeps {s0 s : State} (h : Keeps s0 s) : Keeps s0 (countUnlock s) := by
  unfold countUnlock
  try dsimp only
  repeat' first
    | with_reducible assumption
    | with_reducible refine modRadio_keeps ?_

theorem loseTone_keeps {s0 s : State} (h : Keeps s0 s) : Keeps s0 (loseTone s) := by
  unfold loseTone
  try dsimp only
  repeat' first
    | with_reducible assumption
    | with_reducible refine modRadio_keeps ?_
    | with_reducible refine countUnlock_keeps ?_

theorem execLockLoss_keeps {s0 s : State} (h : Keeps s0 s) : Answers s0 (execLockLoss s) := by
  unfold execLockLoss
  try dsimp only
  repeat' first
    | with_reducible assumption
    | with_reducible refine modRadio_keeps ?_
    | with_reducible refine dutyCut_keeps ?_
    | with_reducible refine endHead_keeps ?_
    | with_reducible refine freed_keeps ?_
    | with_reducible refine countUnlock_keeps ?_
    | with_reducible refine loseTone_keeps ?_
    | with_reducible refine Answers.next ?_
    | with_reducible refine Keeps.ite ?_ ?_
    | with_reducible refine Answers.ite ?_ ?_

theorem execRangingExchange_keeps {s0 s : State} {devDelayPs : Nat} (h : Keeps s0 s) : Answers s0 (execRangingExchange devDelayPs s) := by
  unfold execRangingExchange
  try dsimp only
  repeat' first
    | with_reducible assumption
    | with_reducible refine modProx_keeps ?_
    | with_reducible refine modRadio_keeps ?_
    | with_reducible refine advanceTo_keeps ?_
    | with_reducible refine onAir_keeps ?_
    | with_reducible refine endHead_keeps ?_
    | with_reducible refine inSynth_keeps (fun _ _ _ => ?_) ?_
    | with_reducible refine Answers.next ?_
    | with_reducible refine Keeps.ite ?_ ?_

theorem execRangingEnd_keeps {s0 s : State} {tones : List Tone} (h : Keeps s0 s) : Answers s0 (execRangingEnd tones s) := by
  unfold execRangingEnd
  try dsimp only
  repeat' first
    | with_reducible assumption
    | with_reducible refine modRadio_keeps ?_
    | with_reducible refine modKey_keeps ?_
    | with_reducible refine advanceTo_keeps ?_
    | with_reducible refine nextOp_keeps ?_
    | with_reducible refine recordDuty_keeps ?_
    | with_reducible refine completeFix_keeps ?_
    | with_reducible refine freed_keeps ?_
    | with_reducible refine Answers.next ?_
    | with_reducible refine Keeps.ite ?_ ?_
    | with_reducible refine Answers.ite ?_ ?_
    | split

theorem wantResync_keeps {s0 s : State} {k : Nat} (h : Keeps s0 s) : Keeps s0 (wantResync k s) := by
  unfold wantResync
  try dsimp only
  repeat' first
    | with_reducible assumption
    | with_reducible refine modKey_keeps ?_
    | with_reducible refine wantTx_keeps ?_
    | with_reducible refine Keeps.ite ?_ ?_

theorem refuseFob_keeps {s0 s : State} {k : Nat} (h : Keeps s0 s) : Keeps s0 (refuseFob k s) := by
  unfold refuseFob
  try dsimp only
  repeat' first
    | with_reducible assumption
    | with_reducible refine modKey_keeps ?_

theorem settleWindows_keeps {s0 s : State} {heard : List (Nat × Nat)} (h : Keeps s0 s) : Keeps s0 (settleWindows heard s) := by
  unfold settleWindows
  try dsimp only
  repeat' first
    | with_reducible assumption
    | with_reducible refine flushResults_keeps ?_
    | with_reducible refine Keeps.ite ?_ ?_
    | with_reducible refine Keeps.foldl _ _ (fun _ _ _ => ?_) ?_

theorem recordAnswer_keeps {s0 s : State} {k : Nat} {data : List Byte} {heard : List (Nat × Nat)} (h : Keeps s0 s) : Keeps s0 (recordAnswer k data heard s) := by
  unfold recordAnswer
  try dsimp only
  repeat' first
    | with_reducible assumption
    | with_reducible refine gather_keeps ?_
    | with_reducible refine Keeps.ite ?_ ?_
    | with_reducible refine Keeps.foldl _ _ (fun _ _ _ => ?_) ?_

theorem reportAccepted_keeps {s0 s : State} {q : ZtSeq} {clear plain : List Byte} {ended : Nat} (h : Keeps s0 s) : Keeps s0 (reportAccepted q clear plain ended s) := by
  unfold reportAccepted
  try dsimp only
  repeat' first
    | with_reducible assumption
    | with_reducible refine modRadio_keeps ?_
    | with_reducible refine startHead_keeps ?_
    | with_reducible refine nextOp_keeps ?_
    | with_reducible refine completeFix_keeps ?_
    | with_reducible refine endHead_keeps ?_
    | with_reducible refine modSeq_keeps ?_
    | with_reducible refine Keeps.ite ?_ ?_
    | split

theorem acceptFob_keeps {s0 s : State} {k : Nat} {ctr : Word} {type : Nat} {data : List Byte} {ended : Nat} {heard : List (Nat × Nat)} (h : Keeps s0 s) : Keeps s0 (acceptFob k ctr type data ended heard s) := by
  unfold acceptFob
  try dsimp only
  repeat' first
    | with_reducible assumption
    | with_reducible refine modKey_keeps ?_
    | with_reducible refine postEvent_keeps ?_
    | with_reducible refine fobHeard_keeps ?_
    | with_reducible refine wantTx_keeps ?_
    | with_reducible refine retireSlot_keeps ?_
    | with_reducible refine recordAnswer_keeps ?_
    | with_reducible refine reportAccepted_keeps ?_
    | with_reducible refine Keeps.ite ?_ ?_
    | split

theorem judgeFob_keeps {s0 s : State} {k : Nat} {ctr : Word} {type : Nat} {data : List Byte} (h : Keeps s0 s) : Keeps s0 (judgeFob k ctr type data s).1 := by
  unfold judgeFob
  try dsimp only
  repeat' first
    | with_reducible assumption
    | with_reducible refine modSec_keeps ?_
    | with_reducible refine modKey_keeps ?_
    | with_reducible refine demandForKey_keeps ?_
    | with_reducible refine wantResync_keeps ?_
    | with_reducible refine refuseFob_keeps ?_
    | with_reducible refine acceptFob_keeps ?_
    | with_reducible refine Keeps.ite ?_ ?_
    | split

theorem preambleOver_keeps {s0 s : State} (h : Keeps s0 s) : Keeps s0 (preambleOver s) := by
  unfold preambleOver
  try dsimp only
  repeat' first
    | with_reducible assumption
    | with_reducible refine modRadio_keeps ?_

theorem received_keeps {s0 s : State} {p : FobPacket} (h : Keeps s0 s) : Keeps s0 (received p s) := by
  unfold received
  try dsimp only
  repeat' first
    | with_reducible assumption
    | with_reducible refine modRadio_keeps ?_
    | with_reducible refine preambleOver_keeps ?_

theorem badMic_keeps {s0 s : State} (h : Keeps s0 s) : Keeps s0 (badMic s) := by
  unfold badMic
  try dsimp only
  repeat' first
    | with_reducible assumption
    | with_reducible refine modRadio_keeps ?_

theorem goodMic_keeps {s0 s : State} (h : Keeps s0 s) : Keeps s0 (goodMic s) := by
  unfold goodMic
  try dsimp only
  repeat' first
    | with_reducible assumption
    | with_reducible refine modRadio_keeps ?_

theorem fobMessage_keeps {s0 s : State} {p : FobPacket} {type clearLen : Nat} (h : Keeps s0 s) : Keeps s0 (fobMessage p type clearLen s) := by
  unfold fobMessage
  try dsimp only
  repeat' first
    | with_reducible assumption
    | with_reducible refine modKey_keeps ?_
    | with_reducible refine tellKey_keeps ?_
    | with_reducible refine beginWindows_keeps ?_
    | with_reducible refine judgeFob_keeps ?_
    | with_reducible refine Keeps.fst (by assumption) (judgeFob_keeps ?_)
    | with_reducible refine preambleOver_keeps ?_
    | with_reducible refine received_keeps ?_
    | with_reducible refine badMic_keeps ?_
    | with_reducible refine goodMic_keeps ?_
    | with_reducible refine Keeps.ite ?_ ?_
    | split

theorem execKpAnswer_keeps {s0 s : State} {pkt : FobPacket} (h : Keeps s0 s) : Answers s0 (execKpAnswer pkt s) := by
  unfold execKpAnswer
  try dsimp only
  repeat' first
    | with_reducible assumption
    | with_reducible refine fobMessage_keeps ?_
    | with_reducible refine Answers.next ?_
    | with_reducible refine Keeps.ite ?_ ?_
    | with_reducible refine Answers.ite ?_ ?_

theorem execFobData_keeps {s0 s : State} {pkt : FobPacket} (h : Keeps s0 s) : Answers s0 (execFobData pkt s) := by
  unfold execFobData
  try dsimp only
  repeat' first
    | with_reducible assumption
    | with_reducible refine fobMessage_keeps ?_
    | with_reducible refine Answers.next ?_
    | with_reducible refine Keeps.ite ?_ ?_
    | with_reducible refine Answers.ite ?_ ?_

theorem completeUnheard_keeps {s0 s : State} {q : ZtSeq} (h : Keeps s0 s) : Keeps s0 (completeUnheard q s) := by
  unfold completeUnheard
  try dsimp only
  repeat' first
    | with_reducible assumption
    | with_reducible refine nextOp_keeps ?_
    | with_reducible refine completeFix_keeps ?_

theorem reportHeard_keeps {s0 s : State} {q : ZtSeq} {pkt : FobPacket} (h : Keeps s0 s) : Keeps s0 (reportHeard q pkt s) := by
  unfold reportHeard
  try dsimp only
  repeat' first
    | with_reducible assumption
    | with_reducible refine modKey_keeps ?_
    | with_reducible refine tellKey_keeps ?_
    | with_reducible refine modSeq_keeps ?_
    | with_reducible refine judgeFob_keeps ?_
    | with_reducible refine Keeps.fst (by assumption) (judgeFob_keeps ?_)
    | with_reducible refine badMic_keeps ?_
    | with_reducible refine goodMic_keeps ?_
    | with_reducible refine completeUnheard_keeps ?_
    | with_reducible refine Keeps.ite ?_ ?_
    | split

theorem execZtReport_keeps {s0 s : State} {pkt : FobPacket} (h : Keeps s0 s) : Answers s0 (execZtReport pkt s) := by
  unfold execZtReport
  try dsimp only
  repeat' first
    | with_reducible assumption
    | with_reducible refine freed_keeps ?_
    | with_reducible refine preambleOver_keeps ?_
    | with_reducible refine received_keeps ?_
    | with_reducible refine reportHeard_keeps ?_
    | with_reducible refine Answers.next ?_
    | with_reducible refine Keeps.ite ?_ ?_
    | with_reducible refine Answers.ite ?_ ?_
    | split

theorem forgetPoll_keeps {s0 s : State} {q : ZtSeq} (h : Keeps s0 s) : Keeps s0 (forgetPoll q s) := by
  unfold forgetPoll
  try dsimp only
  repeat' first
    | with_reducible assumption
    | with_reducible refine modRadio_keeps ?_

theorem execReportAgeExpiry_keeps {s0 s : State} {slot : Nat} (h : Keeps s0 s) : Answers s0 (execReportAgeExpiry slot s) := by
  unfold execReportAgeExpiry
  try dsimp only
  repeat' first
    | with_reducible assumption
    | with_reducible refine advanceTo_keeps ?_
    | with_reducible refine countOutcome_keeps ?_
    | with_reducible refine endSeq_keeps ?_
    | with_reducible refine endHead_keeps ?_
    | with_reducible refine freed_keeps ?_
    | with_reducible refine completeUnheard_keeps ?_
    | with_reducible refine forgetPoll_keeps ?_
    | with_reducible refine Answers.next ?_
    | with_reducible refine Keeps.ite ?_ ?_
    | with_reducible refine Answers.ite ?_ ?_
    | split

theorem execKeyPollListenEnd_keeps {s0 s : State} (h : Keeps s0 s) : Answers s0 (execKeyPollListenEnd s) := by
  unfold execKeyPollListenEnd
  try dsimp only
  repeat' first
    | with_reducible assumption
    | with_reducible refine modRadio_keeps ?_
    | with_reducible refine advanceTo_keeps ?_
    | with_reducible refine radioRest_keeps ?_
    | with_reducible refine settleWindows_keeps ?_
    | with_reducible refine Answers.next ?_
    | with_reducible refine Keeps.ite ?_ ?_
    | with_reducible refine Answers.ite ?_ ?_
    | split

theorem markDone_keeps {s0 s : State} {f : FlashWork} (h : Keeps s0 s) : Keeps s0 (markDone f s) := by
  unfold markDone
  try dsimp only
  repeat' first
    | with_reducible assumption
    | with_reducible refine refuseFob_keeps ?_
    | with_reducible refine settleWindows_keeps ?_
    | with_reducible refine acceptFob_keeps ?_
    | with_reducible refine Keeps.ite ?_ ?_
    | split

theorem keyMarkWritten_keeps {s0 s : State} {f : FlashWork} (h : Keeps s0 s) : Keeps s0 (keyMarkWritten f s) := by
  unfold keyMarkWritten
  try dsimp only
  repeat' first
    | with_reducible assumption
    | with_reducible refine modSec_keeps ?_
    | with_reducible refine modKeyNv_keeps ?_
    | with_reducible refine mirrorChange_keeps ?_
    | with_reducible refine freed_keeps ?_
    | with_reducible refine markDone_keeps ?_
    | with_reducible refine modNv_keeps ?_ (fun _ h => h) (fun _ h => h)
    | with_reducible refine modNv_keeps ?_ (fun _ h => h) (fun _ h => by simpa using h)
    | with_reducible refine Keeps.ite ?_ ?_
    | with_reducible refine Keeps.foldl _ _ (fun _ _ _ => ?_) ?_
    | split

/-! ## Enrol -/

theorem putKeyNv_keeps {s0 s : State} {k : Nat} {n : KeyNv} (h : Keeps s0 s) : Keeps s0 (putKeyNv k n s) := by
  unfold putKeyNv
  try dsimp only
  repeat' first
    | with_reducible assumption
    | with_reducible refine modKeyNv_keeps ?_
    | with_reducible refine mirrorChange_keeps ?_

theorem enrolProved_keeps {s0 s : State} {hd : Held} {slot : Nat} {rights : BitVec 5} {uid : Dword} (h : Keeps s0 s) : Keeps s0 (enrolProved hd slot rights uid s) := by
  unfold enrolProved
  try dsimp only
  repeat' first
    | with_reducible assumption
    | with_reducible refine modKey_keeps ?_
    | with_reducible refine done_keeps ?_
    | with_reducible refine finishMirrored_keeps ?_
    | with_reducible refine decideAll_keeps ?_
    | with_reducible refine checkHolds_keeps ?_
    | with_reducible refine putKeyNv_keeps ?_
    | with_reducible refine Keeps.ite ?_ ?_
    | split

theorem recordProof_keeps {s0 s : State} {uid : Dword} (h : Keeps s0 s) : Keeps s0 (recordProof uid s) := by
  unfold recordProof
  try dsimp only
  repeat' first
    | with_reducible assumption
    | with_reducible refine modSched_keeps ?_

theorem settleEnrol_keeps {s0 s : State} {uid : Dword} {start status : Nat} {clean : Bool} (h : Keeps s0 s) : Keeps s0 (settleEnrol uid start status clean s) := by
  unfold settleEnrol
  try dsimp only
  repeat' first
    | with_reducible assumption
    | with_reducible refine done_keeps ?_
    | with_reducible refine enrolProved_keeps ?_
    | with_reducible refine Keeps.ite ?_ ?_
    | with_reducible refine Keeps.foldl _ _ (fun _ _ _ => ?_) ?_
    | split

theorem settleAhead_keeps {s0 s : State} {k : Nat} (h : Keeps s0 s) : Keeps s0 (settleAhead k s) := by
  unfold settleAhead
  try dsimp only
  repeat' first
    | with_reducible assumption
    | with_reducible refine modSec_keeps ?_
    | with_reducible refine modKey_keeps ?_
    | with_reducible refine acceptFob_keeps ?_
    | with_reducible refine Keeps.ite ?_ ?_
    | split

theorem keyAuthEnded_keeps {s0 s : State} {k start status shown : Nat} (h : Keeps s0 s) : Keeps s0 (keyAuthEnded k start status shown s) := by
  unfold keyAuthEnded
  try dsimp only
  repeat' first
    | with_reducible assumption
    | with_reducible refine completeWhere_keeps ?_
    | with_reducible refine authClean_keeps ?_
    | with_reducible refine authFailed_keeps ?_
    | with_reducible refine settleAhead_keeps ?_
    | with_reducible refine Keeps.ite ?_ ?_

/-! ## Blocks -/

theorem calStep_keeps {s0 s : State} {l item flag clk : Nat} {lo hi step : Int} (h : Keeps s0 s) : Keeps s0 (calStep l item flag clk lo hi step s) := by
  unfold calStep
  try dsimp only
  repeat' first
    | with_reducible assumption
    | with_reducible refine modLine_keeps ?_
    | with_reducible refine setFlag_keeps ?_
    | with_reducible refine setLive_keeps ?_
    | with_reducible refine Keeps.ite ?_ ?_

theorem execLiveCalStep_keeps {s0 s : State} {line boundary : Nat} {cur volt : Phasor} (h : Keeps s0 s) : Answers s0 (execLiveCalStep line boundary cur volt s) := by
  unfold execLiveCalStep
  try dsimp only
  repeat' first
    | with_reducible assumption
    | with_reducible refine modLine_keeps ?_
    | with_reducible refine advanceTo_keeps ?_
    | with_reducible refine atStart_keeps ?_
    | with_reducible refine calStep_keeps ?_
    | with_reducible refine Answers.next ?_
    | with_reducible refine Keeps.ite ?_ ?_
    | with_reducible refine Answers.ite ?_ ?_
    | split

theorem execHeadroomLimit_keeps {s0 s : State} {line cyc ma : Nat} (h : Keeps s0 s) : Answers s0 (execHeadroomLimit line cyc ma s) := by
  unfold execHeadroomLimit
  try dsimp only
  repeat' first
    | with_reducible assumption
    | with_reducible refine advanceTo_keeps ?_
    | with_reducible refine setFlag_keeps ?_
    | with_reducible refine Answers.next ?_
    | with_reducible refine Keeps.ite ?_ ?_
    | with_reducible refine Answers.ite ?_ ?_
    | split

theorem execLineFault_keeps {s0 s : State} {line : Nat} {obs : LineObs} (h : Keeps s0 s) : Answers s0 (execLineFault line obs s) := by
  unfold execLineFault
  try dsimp only
  repeat' first
    | with_reducible assumption
    | with_reducible refine modLine_keeps ?_
    | with_reducible refine postEvent_keeps ?_
    | with_reducible refine used_keeps ?_
    | with_reducible refine advanceTo_keeps ?_
    | with_reducible refine modBlock_keeps ?_
    | with_reducible refine quenchLine_keeps ?_
    | with_reducible refine Answers.next ?_
    | with_reducible refine Keeps.ite ?_ ?_
    | with_reducible refine Answers.ite ?_ ?_
    | split

theorem endDemands_keeps {s0 s : State} {seq0 status : Nat} {b : Block} (h : Keeps s0 s) : Keeps s0 (endDemands seq0 status b s) := by
  unfold endDemands
  try dsimp only
  repeat' first
    | with_reducible assumption
    | with_reducible refine finishMirrored_keeps ?_
    | with_reducible refine Keeps.ite ?_ ?_
    | with_reducible refine Keeps.foldl _ _ (fun _ _ _ => ?_) ?_

theorem endWithResults_keeps {s0 s : State} {seq0 : Nat} {b : Block} {ws : List Word} (h : Keeps s0 s) : Keeps s0 (endWithResults seq0 b ws s) := by
  unfold endWithResults
  try dsimp only
  repeat' first
    | with_reducible assumption
    | with_reducible refine writeResults_keeps ?_
    | with_reducible refine atStart_keeps ?_
    | with_reducible refine endDemands_keeps ?_

theorem supersede_keeps {s0 s : State} {old : ZtSeq} {svc : Nat} (h : Keeps s0 s) : Keeps s0 (supersede old svc s) := by
  unfold supersede
  try dsimp only
  repeat' first
    | with_reducible assumption
    | with_reducible refine modProx_keeps ?_
    | with_reducible refine flushResults_keeps ?_
    | with_reducible refine completeDemands_keeps ?_
    | with_reducible refine Keeps.ite ?_ ?_

theorem repoll_keeps {s0 s : State} {q : ZtSeq} {deadline : Nat} (h : Keeps s0 s) : Keeps s0 (repoll q deadline s) := by
  unfold repoll
  try dsimp only
  repeat' first
    | with_reducible assumption
    | with_reducible refine modRadio_keeps ?_

theorem addSeq_keeps {s0 s : State} {b : Block} {slot : Nat} (h : Keeps s0 s) : Keeps s0 (addSeq b slot s) := by
  unfold addSeq
  try dsimp only
  repeat' first
    | with_reducible assumption
    | with_reducible refine modProx_keeps ?_
    | with_reducible refine modSec_keeps ?_
    | with_reducible refine used_keeps ?_
    | with_reducible refine wantTx_keeps ?_
    | with_reducible refine forgetPoll_keeps ?_
    | with_reducible refine supersede_keeps ?_
    | with_reducible refine repoll_keeps ?_
    | with_reducible refine Keeps.ite ?_ ?_
    | split

theorem endZone_keeps {s0 s : State} {seq0 : Nat} {b : Block} (h : Keeps s0 s) : Keeps s0 (endZone seq0 b s) := by
  unfold endZone
  try dsimp only
  repeat' first
    | with_reducible assumption
    | with_reducible refine openResults_keeps ?_
    | with_reducible refine atStart_keeps ?_
    | with_reducible refine endWithResults_keeps ?_
    | with_reducible refine addSeq_keeps ?_
    | with_reducible refine Keeps.ite ?_ ?_
    | with_reducible refine Keeps.foldl _ _ (fun _ _ _ => ?_) ?_

theorem endAuth_keeps {s0 s : State} {seq0 : Nat} {b : Block} (h : Keeps s0 s) : Keeps s0 (endAuth seq0 b s) := by
  unfold endAuth
  try dsimp only
  repeat' first
    | with_reducible assumption
    | with_reducible refine recordProof_keeps ?_
    | with_reducible refine settleEnrol_keeps ?_
    | with_reducible refine keyAuthEnded_keeps ?_
    | with_reducible refine endDemands_keeps ?_
    | with_reducible refine Keeps.ite ?_ ?_
    | split

theorem sweepTag_keeps {s0 : State} {b : Block} {st : State × List Word} {f : (Dword × Nat × Word) × Nat} (h : Keeps s0 st.1) :
    Keeps s0 (sweepTag b st f).1 := by
  unfold sweepTag
  have := sweepSights_keeps (uid := f.1.1) (route := b.route) (revs := b.startRevs) (sweep := some st.1.roster.sweeps) (desc := some f.1.2.2) h
  dsimp only
  split <;> exact this

theorem endSweep_keeps {s0 s : State} {seq0 : Nat} {b : Block} (h : Keeps s0 s) : Keeps s0 (endSweep seq0 b s) := by
  unfold endSweep
  dsimp only
  generalize hp : List.foldl _ (s, []) b.found.zipIdx = p
  have hp1 : Keeps s0 p.1 := by
    rw [← hp]
    exact Keeps.foldlFst _ _ (fun p x hx => sweepTag_keeps hx) h
  refine endWithResults_keeps (Keeps.ite (countMisses_keeps ?_) ?_) <;> exact modSvc_keeps hp1

theorem endExchangeRead_keeps {s0 s : State} {seq0 : Nat} {b : Block} (h : Keeps s0 s) : Keeps s0 (endExchangeRead seq0 b s) := by
  unfold endExchangeRead
  try dsimp only
  repeat' first
    | with_reducible assumption
    | with_reducible refine modEntry_keeps ?_
    | with_reducible refine sightEntry_keeps ?_
    | with_reducible refine atStart_keeps ?_
    | with_reducible refine endWithResults_keeps ?_
    | with_reducible refine Keeps.ite ?_ ?_
    | split

theorem endPass_keeps {s0 s : State} {seq0 : Nat} {b : Block} {rx : List (Nat × List Phasor)} (h : Keeps s0 s) : Keeps s0 (endPass seq0 b rx s) := by
  unfold endPass
  try dsimp only
  repeat' first
    | with_reducible assumption
    | with_reducible refine modEntry_keeps ?_
    | with_reducible refine sightEntry_keeps ?_
    | with_reducible refine missEntry_keeps ?_
    | with_reducible refine atStart_keeps ?_
    | with_reducible refine endWithResults_keeps ?_
    | with_reducible refine Keeps.ite ?_ ?_

theorem coupledEntry_keeps {s0 s : State} {uid : Dword} (h : Keeps s0 s) : Keeps s0 (coupledEntry uid s).1 := by
  unfold coupledEntry
  try dsimp only
  repeat' first
    | with_reducible assumption
    | with_reducible refine modRoster_keeps ?_
    | with_reducible refine putEntry_keeps ?_
    | with_reducible refine Keeps.ite ?_ ?_
    | split

theorem endCoupling_keeps {s0 s : State} {seq0 : Nat} {b : Block} (h : Keeps s0 s) : Keeps s0 (endCoupling seq0 b s) := by
  unfold endCoupling
  try dsimp only
  repeat' first
    | with_reducible assumption
    | with_reducible refine modSvc_keeps ?_
    | with_reducible refine modEntry_keeps ?_
    | with_reducible refine sightEntry_keeps ?_
    | with_reducible refine sweepSights_keeps ?_
    | with_reducible refine Keeps.fst (by assumption) (sweepSights_keeps ?_)
    | with_reducible refine dataTo_keeps ?_
    | with_reducible refine endWithResults_keeps ?_
    | with_reducible refine coupledEntry_keeps ?_
    | with_reducible refine Keeps.fst (by assumption) (coupledEntry_keeps ?_)
    | with_reducible refine Keeps.ite ?_ ?_
    | with_reducible refine Keeps.foldl _ _ (fun _ _ _ => ?_) ?_
    | split

theorem hitchedSeen_keeps {s0 s : State} {hd : Nat} {b : Block} (h : Keeps s0 s) : Keeps s0 (hitchedSeen hd b s) := by
  unfold hitchedSeen
  try dsimp only
  repeat' first
    | with_reducible assumption
    | with_reducible refine modSvc_keeps ?_
    | with_reducible refine sightEntry_keeps ?_
    | with_reducible refine Keeps.ite ?_ ?_

theorem countUncouple_keeps {s0 s : State} {hd : Nat} {b : Block} (h : Keeps s0 s) : Keeps s0 (countUncouple hd b s) := by
  unfold countUncouple
  try dsimp only
  repeat' first
    | with_reducible assumption
    | with_reducible refine postEvent_keeps ?_
    | with_reducible refine modSvc_keeps ?_
    | with_reducible refine modEntry_keeps ?_
    | with_reducible refine atStart_keeps ?_
    | with_reducible refine Keeps.ite ?_ ?_

theorem endHitched_keeps {s0 s : State} {seq0 : Nat} {b : Block} (h : Keeps s0 s) : Keeps s0 (endHitched seq0 b s) := by
  unfold endHitched
  try dsimp only
  repeat' first
    | with_reducible assumption
    | with_reducible refine endWithResults_keeps ?_
    | with_reducible refine hitchedSeen_keeps ?_
    | with_reducible refine countUncouple_keeps ?_
    | with_reducible refine Keeps.ite ?_ ?_
    | split

theorem endSweepLine_keeps {s0 s : State} {b : Block} {er : List Int} {ep : Int} (h : Keeps s0 s) : Keeps s0 (endSweepLine b er ep s) := by
  unfold endSweepLine
  try dsimp only
  repeat' first
    | with_reducible assumption
    | with_reducible refine modMnt_keeps ?_
    | with_reducible refine setFlag_keeps ?_
    | with_reducible refine setLive_keeps ?_
    | with_reducible refine Keeps.ite ?_ ?_
    | with_reducible refine Keeps.foldl _ _ (fun _ _ _ => ?_) ?_
    | split

theorem endCaptures_keeps {s0 s : State} {b : Block} {samples : List (Nat × Nat × List Nat)} (h : Keeps s0 s) : Keeps s0 (endCaptures b samples s) := by
  unfold endCaptures
  try dsimp only
  repeat' first
    | with_reducible assumption
    | with_reducible refine doneBytes_keeps ?_
    | with_reducible refine Keeps.ite ?_ ?_
    | with_reducible refine Keeps.foldl _ _ (fun _ _ _ => ?_) ?_
    | split

theorem endByType_keeps {s0 s : State} {seq0 : Nat} {b : Block} {m : BlockMeas} (h : Keeps s0 s) : Keeps s0 (endByType seq0 b m s) := by
  unfold endByType
  try dsimp only
  repeat' first
    | with_reducible assumption
    | with_reducible refine atStart_keeps ?_
    | with_reducible refine endDemands_keeps ?_
    | with_reducible refine endZone_keeps ?_
    | with_reducible refine endAuth_keeps ?_
    | with_reducible refine endSweep_keeps ?_
    | with_reducible refine endExchangeRead_keeps ?_
    | with_reducible refine endPass_keeps ?_
    | with_reducible refine endCoupling_keeps ?_
    | with_reducible refine endHitched_keeps ?_
    | with_reducible refine endSweepLine_keeps ?_
    | with_reducible refine Keeps.ite ?_ ?_
    | split

theorem spanOver_keeps {s0 s : State} {svc : Nat} (h : Keeps s0 s) : Keeps s0 (spanOver svc s) := by
  unfold spanOver
  try dsimp only
  repeat' first
    | with_reducible assumption
    | with_reducible refine used_keeps ?_
    | with_reducible refine modBlock_keeps ?_
    | with_reducible refine commandOutcome_keeps ?_
    | with_reducible refine Keeps.ite ?_ ?_
    | split

theorem applyBlockEnd_keeps {s0 s : State} {svc : Nat} {meas : BlockMeas} (h : Keeps s0 s) : Keeps s0 (applyBlockEnd svc meas s) := by
  unfold applyBlockEnd
  try dsimp only
  repeat' first
    | with_reducible assumption
    | with_reducible refine modSched_keeps ?_
    | with_reducible refine applyStaged_keeps ?_
    | with_reducible refine endQuench_keeps ?_
    | with_reducible refine endCaptures_keeps ?_
    | with_reducible refine endByType_keeps ?_
    | with_reducible refine spanOver_keeps ?_
    | with_reducible refine Keeps.ite ?_ ?_
    | split

theorem applyEnded_keeps {s0 s : State} {l : List Nat} (h : Keeps s0 s) : Keeps s0 (applyEnded l s) := by
  induction l generalizing s with
  | nil => exact h
  | cons n rest ih =>
    unfold applyEnded
    split
    · split
      · exact ih (Keeps.ite (applyBlockEnd_keeps h) h)
      · exact ih h
    · exact ih h

theorem execBlockEnd_keeps {s0 s : State} {svc : Nat} {meas : BlockMeas} (h : Keeps s0 s) : Answers s0 (execBlockEnd svc meas s) := by
  unfold execBlockEnd
  try dsimp only
  repeat' first
    | with_reducible assumption
    | with_reducible refine advanceTo_keeps ?_
    | with_reducible refine modBlock_keeps ?_
    | with_reducible refine freed_keeps ?_
    | with_reducible refine applyBlockEnd_keeps ?_
    | with_reducible refine applyEnded_keeps ?_
    | with_reducible refine Answers.next ?_
    | with_reducible refine Keeps.ite ?_ ?_
    | with_reducible refine Answers.ite ?_ ?_
    | split

/-! ## CryptoCmds -/

theorem useSlot_keeps {s0 s : State} {slot bit : Nat} {ec : Bool} {hd : Held} {refuse : Nat → State → State} {go : State → State}
    (hr : ∀ st s, Keeps s0 s → Keeps s0 (refuse st s)) (hg : ∀ s, Keeps s0 s → Keeps s0 (go s)) (h : Keeps s0 s) :
    Keeps s0 (useSlot slot bit ec hd refuse go s) := by
  unfold useSlot
  refine Keeps.ite (hg _ h) ?_
  split
  · exact hr _ _ h
  · exact hg _ h

theorem refuseSlot_keeps {s0 s : State} {slot status : Nat} {hd : Held} (h : Keeps s0 s) : Keeps s0 (refuseSlot slot status hd s) := by
  unfold refuseSlot
  try dsimp only
  repeat' first
    | with_reducible assumption
    | with_reducible refine done_keeps ?_
    | with_reducible refine corruptSlot_keeps ?_
    | with_reducible refine Keeps.ite ?_ ?_

theorem keyCmac_keeps {s0 s : State} {hd : Held} (h : Keeps s0 s) : Keeps s0 (keyCmac hd s) := by
  unfold keyCmac
  try dsimp only
  repeat' first
    | with_reducible assumption
    | with_reducible refine useSlot_keeps (fun _ _ _ => ?_) (fun _ _ => ?_) ?_
    | with_reducible refine done_keeps ?_
    | with_reducible refine refuseRestore_keeps ?_
    | with_reducible refine submitJob_keeps ?_
    | with_reducible refine useSlot_keeps ?_
    | with_reducible refine refuseSlot_keeps ?_
    | with_reducible refine Keeps.ite ?_ ?_

theorem endCmac_keeps {s0 s : State} {j : Job} {hd : Held} (h : Keeps s0 s) : Keeps s0 (endCmac j hd s) := by
  unfold endCmac
  try dsimp only
  repeat' first
    | with_reducible assumption
    | with_reducible refine modSec_keeps ?_
    | with_reducible refine winWrite_keeps ?_
    | with_reducible refine done_keeps ?_
    | with_reducible refine Keeps.ite ?_ ?_

theorem execKeyCmac_keeps {s0 s : State} {ring : Nat} (h : Keeps s0 s) : Answers s0 (execKeyCmac ring s) := by
  unfold execKeyCmac
  try dsimp only
  repeat' first
    | with_reducible assumption
    | with_reducible refine runCmd_keeps (fun _ _ _ => ?_) ?_
    | with_reducible refine keyCmac_keeps ?_
    | with_reducible refine Answers.next ?_

theorem keyCcmEnc_keeps {s0 s : State} {hd : Held} (h : Keeps s0 s) : Keeps s0 (keyCcmEnc hd s) := by
  unfold keyCcmEnc
  try dsimp only
  repeat' first
    | with_reducible assumption
    | with_reducible refine useSlot_keeps (fun _ _ _ => ?_) (fun _ _ => ?_) ?_
    | with_reducible refine done_keeps ?_
    | with_reducible refine retire_keeps ?_
    | with_reducible refine submitJob_keeps ?_
    | with_reducible refine useSlot_keeps ?_
    | with_reducible refine refuseSlot_keeps ?_
    | with_reducible refine Keeps.ite ?_ ?_
    | split

theorem endCcmEnc_keeps {s0 s : State} {j : Job} {hd : Held} (h : Keeps s0 s) : Keeps s0 (endCcmEnc j hd s) := by
  unfold endCcmEnc
  try dsimp only
  repeat' first
    | with_reducible assumption
    | with_reducible refine winWrite_keeps ?_
    | with_reducible refine done1_keeps ?_

theorem execKeyCcmEnc_keeps {s0 s : State} {ring : Nat} (h : Keeps s0 s) : Answers s0 (execKeyCcmEnc ring s) := by
  unfold execKeyCcmEnc
  try dsimp only
  repeat' first
    | with_reducible assumption
    | with_reducible refine runCmd_keeps (fun _ _ _ => ?_) ?_
    | with_reducible refine keyCcmEnc_keeps ?_
    | with_reducible refine Answers.next ?_

theorem keyCcmDec_keeps {s0 s : State} {hd : Held} (h : Keeps s0 s) : Keeps s0 (keyCcmDec hd s) := by
  unfold keyCcmDec
  try dsimp only
  repeat' first
    | with_reducible assumption
    | with_reducible refine useSlot_keeps (fun _ _ _ => ?_) (fun _ _ => ?_) ?_
    | with_reducible refine done_keeps ?_
    | with_reducible refine submitJob_keeps ?_
    | with_reducible refine useSlot_keeps ?_
    | with_reducible refine refuseSlot_keeps ?_
    | with_reducible refine modPort_keeps ?_ (fun _ => rfl)
    | with_reducible refine Keeps.ite ?_ ?_
    | split

theorem endCcmDec_keeps {s0 s : State} {j : Job} {hd : Held} (h : Keeps s0 s) : Keeps s0 (endCcmDec j hd s) := by
  unfold endCcmDec
  try dsimp only
  repeat' first
    | with_reducible assumption
    | with_reducible refine modSec_keeps ?_
    | with_reducible refine winWrite_keeps ?_
    | with_reducible refine done_keeps ?_
    | with_reducible refine done1_keeps ?_
    | with_reducible refine modPort_keeps ?_ (fun _ => rfl)
    | with_reducible refine Keeps.ite ?_ ?_
    | split

theorem execKeyCcmDec_keeps {s0 s : State} {ring : Nat} (h : Keeps s0 s) : Answers s0 (execKeyCcmDec ring s) := by
  unfold execKeyCcmDec
  try dsimp only
  repeat' first
    | with_reducible assumption
    | with_reducible refine runCmd_keeps (fun _ _ _ => ?_) ?_
    | with_reducible refine keyCcmDec_keeps ?_
    | with_reducible refine Answers.next ?_

theorem keySha_keeps {s0 s : State} {hd : Held} (h : Keeps s0 s) : Keeps s0 (keySha hd s) := by
  unfold keySha
  try dsimp only
  repeat' first
    | with_reducible assumption
    | with_reducible refine done_keeps ?_
    | with_reducible refine submitJob_keeps ?_
    | with_reducible refine Keeps.ite ?_ ?_

theorem endSha_keeps {s0 s : State} {hd : Held} (h : Keeps s0 s) : Keeps s0 (endSha hd s) := by
  unfold endSha
  try dsimp only
  repeat' first
    | with_reducible assumption
    | with_reducible refine winWrite_keeps ?_
    | with_reducible refine done_keeps ?_

theorem execKeySha_keeps {s0 s : State} {ring : Nat} (h : Keeps s0 s) : Answers s0 (execKeySha ring s) := by
  unfold execKeySha
  try dsimp only
  repeat' first
    | with_reducible assumption
    | with_reducible refine runCmd_keeps (fun _ _ _ => ?_) ?_
    | with_reducible refine keySha_keeps ?_
    | with_reducible refine Answers.next ?_

theorem keySign_keeps {s0 s : State} {hd : Held} (h : Keeps s0 s) : Keeps s0 (keySign hd s) := by
  unfold keySign
  try dsimp only
  repeat' first
    | with_reducible assumption
    | with_reducible refine useSlot_keeps (fun _ _ _ => ?_) (fun _ _ => ?_) ?_
    | with_reducible refine done_keeps ?_
    | with_reducible refine submitJob_keeps ?_
    | with_reducible refine useSlot_keeps ?_
    | with_reducible refine refuseSlot_keeps ?_
    | with_reducible refine Keeps.ite ?_ ?_

theorem signDigest_keeps {s0 s : State} {key digest : List Byte} (h : Keeps s0 s) : Keeps s0 (signDigest key digest s).1 := by
  unfold signDigest
  try dsimp only
  repeat' first
    | with_reducible assumption
    | with_reducible refine used_keeps ?_

theorem endSign_keeps {s0 s : State} {j : Job} {hd : Held} (h : Keeps s0 s) : Keeps s0 (endSign j hd s) := by
  unfold endSign
  try dsimp only
  repeat' first
    | with_reducible assumption
    | with_reducible refine winWrite_keeps ?_
    | with_reducible refine finish_keeps ?_
    | with_reducible refine signDigest_keeps ?_

theorem execKeySign_keeps {s0 s : State} {ring : Nat} (h : Keeps s0 s) : Answers s0 (execKeySign ring s) := by
  unfold execKeySign
  try dsimp only
  repeat' first
    | with_reducible assumption
    | with_reducible refine cmdBuf_keeps (fun _ _ _ => ?_) ?_
    | with_reducible refine keySign_keeps ?_

theorem keyVerify_keeps {s0 s : State} {hd : Held} (h : Keeps s0 s) : Keeps s0 (keyVerify hd s) := by
  unfold keyVerify
  try dsimp only
  repeat' first
    | with_reducible assumption
    | with_reducible refine done_keeps ?_
    | with_reducible refine submitJob_keeps ?_
    | with_reducible refine Keeps.ite ?_ ?_

theorem endKeyVerify_keeps {s0 s : State} {hd : Held} (h : Keeps s0 s) : Keeps s0 (endKeyVerify hd s) := by
  unfold endKeyVerify
  try dsimp only
  repeat' first
    | with_reducible assumption
    | with_reducible refine done_keeps ?_

theorem execKeyVerify_keeps {s0 s : State} {ring : Nat} (h : Keeps s0 s) : Answers s0 (execKeyVerify ring s) := by
  unfold execKeyVerify
  try dsimp only
  repeat' first
    | with_reducible assumption
    | with_reducible refine cmdBuf_keeps (fun _ _ _ => ?_) ?_
    | with_reducible refine keyVerify_keeps ?_

theorem keyXportOpen_keeps {s0 s : State} {hd : Held} (h : Keeps s0 s) : Keeps s0 (keyXportOpen hd s) := by
  unfold keyXportOpen
  try dsimp only
  repeat' first
    | with_reducible assumption
    | with_reducible refine done_keeps ?_
    | with_reducible refine submitJob_keeps ?_
    | with_reducible refine Keeps.ite ?_ ?_

theorem endXportOpen_keeps {s0 s : State} {j : Job} {hd : Held} (h : Keeps s0 s) : Keeps s0 (endXportOpen j hd s) := by
  unfold endXportOpen
  try dsimp only
  repeat' first
    | with_reducible assumption
    | with_reducible refine modSec_keeps ?_
    | with_reducible refine winWrite_keeps ?_
    | with_reducible refine finish_keeps ?_
    | with_reducible refine used_keeps ?_
    | with_reducible refine signDigest_keeps ?_

theorem execKeyXportOpen_keeps {s0 s : State} {ring : Nat} (h : Keeps s0 s) : Answers s0 (execKeyXportOpen ring s) := by
  unfold execKeyXportOpen
  try dsimp only
  repeat' first
    | with_reducible assumption
    | with_reducible refine cmdBuf_keeps (fun _ _ _ => ?_) ?_
    | with_reducible refine keyXportOpen_keeps ?_

theorem keyImport_keeps {s0 s : State} {hd : Held} (h : Keeps s0 s) : Keeps s0 (keyImport hd s) := by
  unfold keyImport
  try dsimp only
  repeat' first
    | with_reducible assumption
    | with_reducible refine modSec_keeps ?_
    | with_reducible refine done_keeps ?_
    | with_reducible refine submitJob_keeps ?_
    | with_reducible refine Keeps.ite ?_ ?_

theorem importUnder_keeps {s0 s : State} {d : Nat} {hd : Held} (h : Keeps s0 s) : Keeps s0 (importUnder d hd s) := by
  unfold importUnder
  try dsimp only
  repeat' first
    | with_reducible assumption
    | with_reducible refine done_keeps ?_
    | with_reducible refine finishMirrored_keeps ?_
    | with_reducible refine writeSlot_keeps ?_
    | with_reducible refine enrolHitch_keeps ?_
    | with_reducible refine Keeps.ite ?_ ?_
    | split

theorem endImport_keeps {s0 s : State} {hd : Held} (h : Keeps s0 s) : Keeps s0 (endImport hd s) := by
  unfold endImport
  try dsimp only
  repeat' first
    | with_reducible assumption
    | with_reducible refine modSec_keeps ?_
    | with_reducible refine done_keeps ?_
    | with_reducible refine importUnder_keeps ?_
    | with_reducible refine Keeps.ite ?_ ?_
    | split

theorem execKeyImport_keeps {s0 s : State} {ring : Nat} (h : Keeps s0 s) : Answers s0 (execKeyImport ring s) := by
  unfold execKeyImport
  try dsimp only
  repeat' first
    | with_reducible assumption
    | with_reducible refine cmdBuf_keeps (fun _ _ _ => ?_) ?_
    | with_reducible refine keyImport_keeps ?_

theorem keyGenerate_keeps {s0 s : State} {hd : Held} (h : Keeps s0 s) : Keeps s0 (keyGenerate hd s) := by
  unfold keyGenerate
  try dsimp only
  repeat' first
    | with_reducible assumption
    | with_reducible refine done_keeps ?_
    | with_reducible refine submitJob_keeps ?_
    | with_reducible refine Keeps.ite ?_ ?_

theorem endGenerate_keeps {s0 s : State} {hd : Held} (h : Keeps s0 s) : Keeps s0 (endGenerate hd s) := by
  unfold endGenerate
  try dsimp only
  repeat' first
    | with_reducible assumption
    | with_reducible refine winWrite_keeps ?_
    | with_reducible refine done_keeps ?_
    | with_reducible refine used_keeps ?_
    | with_reducible refine finishMirrored_keeps ?_
    | with_reducible refine writeSlot_keeps ?_
    | with_reducible refine Keeps.ite ?_ ?_

theorem execKeyGenerate_keeps {s0 s : State} {ring : Nat} (h : Keeps s0 s) : Answers s0 (execKeyGenerate ring s) := by
  unfold execKeyGenerate
  try dsimp only
  repeat' first
    | with_reducible assumption
    | with_reducible refine cmdBuf_keeps (fun _ _ _ => ?_) ?_
    | with_reducible refine keyGenerate_keeps ?_

theorem destroyOrWait_keeps {s0 s : State} {hd : Held} (h : Keeps s0 s) : Keeps s0 (destroyOrWait hd s) := by
  unfold destroyOrWait
  try dsimp only
  repeat' first
    | with_reducible assumption
    | with_reducible refine setKind_keeps ?_
    | with_reducible refine destroyNow_keeps ?_
    | with_reducible refine Keeps.ite ?_ ?_

theorem destroySigned_keeps {s0 s : State} {hd : Held} (h : Keeps s0 s) : Keeps s0 (destroySigned hd s) := by
  unfold destroySigned
  try dsimp only
  repeat' first
    | with_reducible assumption
    | with_reducible refine done_keeps ?_
    | with_reducible refine destroyOrWait_keeps ?_
    | with_reducible refine Keeps.ite ?_ ?_

theorem provision_keeps {s0 s : State} (h : Keeps s0 s) : Keeps s0 (provision s) := by
  unfold provision
  try dsimp only
  repeat' first
    | with_reducible assumption
    | with_reducible refine used_keeps ?_
    | with_reducible refine otpBurn_keeps ?_
    | with_reducible refine writeSlot_keeps ?_
    | with_reducible refine modNv_keeps ?_ (fun _ h => h) (fun _ h => h)

theorem finishTransition_keeps {s0 s : State} {target : Nat} (h : Keeps s0 s) : Keeps s0 (finishTransition target s) := by
  unfold finishTransition
  try dsimp only
  repeat' first
    | with_reducible assumption
    | with_reducible refine applyTransition_keeps ?_
    | with_reducible refine provision_keeps ?_
    | with_reducible refine Keeps.ite ?_ ?_

theorem lifecycleSigned_keeps {s0 s : State} {hd : Held} (h : Keeps s0 s) : Keeps s0 (lifecycleSigned hd s) := by
  unfold lifecycleSigned
  try dsimp only
  repeat' first
    | with_reducible assumption
    | with_reducible refine done_keeps ?_
    | with_reducible refine transition_keeps ?_
    | with_reducible refine Keeps.ite ?_ ?_

theorem headerSigned_keeps {s0 s : State} {hd : Held} (h : Keeps s0 s) : Keeps s0 (headerSigned hd s) := by
  unfold headerSigned
  try dsimp only
  repeat' first
    | with_reducible assumption
    | with_reducible refine done1_keeps ?_
    | with_reducible refine takeHeader_keeps ?_

theorem keyAttest_keeps {s0 s : State} {hd : Held} (h : Keeps s0 s) : Keeps s0 (keyAttest hd s) := by
  unfold keyAttest
  try dsimp only
  repeat' first
    | with_reducible assumption
    | with_reducible refine done_keeps ?_
    | with_reducible refine submitJob_keeps ?_
    | with_reducible refine Keeps.ite ?_ ?_

theorem makeReport_keeps {s0 s : State} {key challenge : List Byte} (h : Keeps s0 s) : Keeps s0 (makeReport key challenge s).1 := by
  unfold makeReport
  try dsimp only
  repeat' first
    | with_reducible assumption
    | with_reducible refine advanceCounter_keeps ?_
    | with_reducible refine signDigest_keeps ?_

theorem endAttest_keeps {s0 s : State} {j : Job} {hd : Held} (h : Keeps s0 s) : Keeps s0 (endAttest j hd s) := by
  unfold endAttest
  try dsimp only
  repeat' first
    | with_reducible assumption
    | with_reducible refine winWrite_keeps ?_
    | with_reducible refine finish_keeps ?_
    | with_reducible refine done_keeps ?_
    | with_reducible refine retire_keeps ?_
    | with_reducible refine makeReport_keeps ?_
    | with_reducible refine Keeps.fst (by assumption) (makeReport_keeps ?_)
    | with_reducible refine Keeps.ite ?_ ?_

theorem execKeyAttest_keeps {s0 s : State} {ring : Nat} (h : Keeps s0 s) : Answers s0 (execKeyAttest ring s) := by
  unfold execKeyAttest
  try dsimp only
  repeat' first
    | with_reducible assumption
    | with_reducible refine runCmd_keeps (fun _ _ _ => ?_) ?_
    | with_reducible refine keyAttest_keeps ?_
    | with_reducible refine Answers.next ?_

theorem endPiece_keeps {s0 s : State} {j : Job} {hd : Held} (h : Keeps s0 s) : Keeps s0 (endPiece j hd s) := by
  unfold endPiece
  try dsimp only
  repeat' first
    | with_reducible assumption
    | with_reducible refine done1_keeps ?_
    | with_reducible refine takePiece_keeps ?_
    | with_reducible refine Keeps.fst (by assumption) (takePiece_keeps ?_)
    | with_reducible refine verifyTarget_keeps ?_

theorem endChainPiece_keeps {s0 s : State} {j : Job} {i : Nat} {bs : List Byte} (h : Keeps s0 s) : Keeps s0 (endChainPiece j i bs s) := by
  unfold endChainPiece
  try dsimp only
  repeat' first
    | with_reducible assumption
    | with_reducible refine takePiece_keeps ?_
    | with_reducible refine Keeps.fst (by assumption) (takePiece_keeps ?_)
    | with_reducible refine verifyTarget_keeps ?_

theorem savePart_keeps {s0 s : State} {j : Job} (h : Keeps s0 s) : Keeps s0 (savePart j s) := by
  unfold savePart
  try dsimp only
  repeat' first
    | with_reducible assumption
    | with_reducible refine modSec_keeps ?_
    | with_reducible refine modJob_keeps ?_

theorem endCommand_keeps {s0 s : State} {j : Job} {hd : Held} (h : Keeps s0 s) : Keeps s0 (endCommand j hd s) := by
  unfold endCommand
  try dsimp only
  repeat' first
    | with_reducible assumption
    | with_reducible refine done_keeps ?_
    | with_reducible refine endVerify_keeps ?_
    | with_reducible refine Keeps.fst (by assumption) (endVerify_keeps ?_)
    | with_reducible refine endCmac_keeps ?_
    | with_reducible refine endCcmEnc_keeps ?_
    | with_reducible refine endCcmDec_keeps ?_
    | with_reducible refine endSha_keeps ?_
    | with_reducible refine endSign_keeps ?_
    | with_reducible refine endKeyVerify_keeps ?_
    | with_reducible refine endXportOpen_keeps ?_
    | with_reducible refine endImport_keeps ?_
    | with_reducible refine endGenerate_keeps ?_
    | with_reducible refine destroySigned_keeps ?_
    | with_reducible refine lifecycleSigned_keeps ?_
    | with_reducible refine headerSigned_keeps ?_
    | with_reducible refine endAttest_keeps ?_
    | with_reducible refine endPiece_keeps ?_
    | with_reducible refine Keeps.ite ?_ ?_
    | split

theorem endOwn_keeps {s0 s : State} {j : Job} (h : Keeps s0 s) : Keeps s0 (endOwn j s) := by
  unfold endOwn
  try dsimp only
  repeat' first
    | with_reducible assumption
    | with_reducible refine postStage_keeps ?_
    | with_reducible refine endVerify_keeps ?_
    | with_reducible refine Keeps.fst (by assumption) (endVerify_keeps ?_)
    | with_reducible refine chainActivate_keeps ?_
    | with_reducible refine endChainPiece_keeps ?_
    | with_reducible refine Keeps.ite ?_ ?_
    | split

theorem execEngineJobComplete_keeps {s0 s : State} {job : Nat} (h : Keeps s0 s) : Answers s0 (execEngineJobComplete job s) := by
  unfold execEngineJobComplete
  try dsimp only
  repeat' first
    | with_reducible assumption
    | with_reducible refine dropJob_keeps ?_
    | with_reducible refine freed_keeps ?_
    | with_reducible refine savePart_keeps ?_
    | with_reducible refine endCommand_keeps ?_
    | with_reducible refine endOwn_keeps ?_
    | with_reducible refine Answers.next ?_
    | with_reducible refine Keeps.ite ?_ ?_
    | with_reducible refine Answers.ite ?_ ?_
    | split

/-! ## Maint -/

theorem startResync_keeps {s0 s : State} (h : Keeps s0 s) : Keeps s0 (startResync s) := by
  unfold startResync
  try dsimp only
  repeat' first
    | with_reducible assumption
    | with_reducible refine modTwin_keeps ?_
    | with_reducible refine sendMirror_keeps ?_

theorem startActivity_keeps {s0 s : State} {a : Nat} {mask : BitVec 24} (h : Keeps s0 s) : Keeps s0 (startActivity a mask s) := by
  unfold startActivity
  try dsimp only
  repeat' first
    | with_reducible assumption
    | with_reducible refine modMnt_keeps ?_
    | with_reducible refine startResync_keeps ?_
    | with_reducible refine Keeps.ite ?_ ?_

theorem grantToken_keeps {s0 s : State} (h : Keeps s0 s) : Keeps s0 (grantToken s) := by
  unfold grantToken
  try dsimp only
  repeat' first
    | with_reducible assumption
    | with_reducible refine modMnt_keeps ?_
    | with_reducible refine startActivity_keeps ?_
    | with_reducible refine Keeps.ite ?_ ?_
    | split

theorem requestMaint_keeps {s0 s : State} {a : Nat} {mask : BitVec 24} {hd : Held} (h : Keeps s0 s) : Keeps s0 (requestMaint a mask hd s) := by
  unfold requestMaint
  try dsimp only
  repeat' first
    | with_reducible assumption
    | with_reducible refine modMnt_keeps ?_
    | with_reducible refine done_keeps ?_
    | with_reducible refine setKind_keeps ?_
    | with_reducible refine startActivity_keeps ?_
    | with_reducible refine Keeps.ite ?_ ?_

theorem deviceMaint_keeps {s0 s : State} {a : Nat} (h : Keeps s0 s) : Keeps s0 (deviceMaint a s) := by
  unfold deviceMaint
  try dsimp only
  repeat' first
    | with_reducible assumption
    | with_reducible refine modMnt_keeps ?_
    | with_reducible refine grantToken_keeps ?_
    | with_reducible refine Keeps.ite ?_ ?_

theorem endActivity_keeps {s0 s : State} {seq0 a status : Nat} {w4 w5 : Word} (h : Keeps s0 s) : Keeps s0 (endActivity seq0 a status w4 w5 s) := by
  unfold endActivity
  try dsimp only
  repeat' first
    | with_reducible assumption
    | with_reducible refine modMnt_keeps ?_
    | with_reducible refine postEvent_keeps ?_
    | with_reducible refine finishMirrored_keeps ?_
    | with_reducible refine grantToken_keeps ?_
    | with_reducible refine Keeps.ite ?_ ?_
    | with_reducible refine Keeps.foldl _ _ (fun _ _ _ => ?_) ?_

theorem endPatrol_keeps {s0 s : State} {r : PatrolResult} (h : Keeps s0 s) : Keeps s0 (endPatrol r s) := by
  unfold endPatrol
  try dsimp only
  repeat' first
    | with_reducible assumption
    | with_reducible refine modMnt_keeps ?_
    | with_reducible refine endActivity_keeps ?_
    | with_reducible refine modNv_keeps ?_ (fun _ h => h) (fun _ h => h)

theorem endCalSweep_keeps {s0 s : State} (h : Keeps s0 s) : Keeps s0 (endCalSweep s) := by
  unfold endCalSweep
  try dsimp only
  repeat' first
    | with_reducible assumption
    | with_reducible refine modMnt_keeps ?_
    | with_reducible refine skipLines_keeps ?_
    | with_reducible refine endActivity_keeps ?_
    | with_reducible refine Keeps.ite ?_ ?_

theorem answerResync_keeps {s0 s : State} {status : Nat} (h : Keeps s0 s) : Keeps s0 (answerResync status s) := by
  unfold answerResync
  try dsimp only
  repeat' first
    | with_reducible assumption
    | with_reducible refine modTwin_keeps ?_
    | with_reducible refine mirrorChange_keeps ?_
    | with_reducible refine Keeps.ite ?_ ?_

theorem endResync_keeps {s0 s : State} (h : Keeps s0 s) : Keeps s0 (endResync s) := by
  unfold endResync
  try dsimp only
  repeat' first
    | with_reducible assumption
    | with_reducible refine modTwin_keeps ?_
    | with_reducible refine endActivity_keeps ?_
    | with_reducible refine answerResync_keeps ?_
    | with_reducible refine Keeps.ite ?_ ?_

theorem endCompact_keeps {s0 s : State} (h : Keeps s0 s) : Keeps s0 (endCompact s) := by
  unfold endCompact
  try dsimp only
  repeat' first
    | with_reducible assumption
    | with_reducible refine modMnt_keeps ?_
    | with_reducible refine compactRoster_keeps ?_
    | with_reducible refine Keeps.fst (by assumption) (compactRoster_keeps ?_)
    | with_reducible refine endActivity_keeps ?_

theorem execMaintActivityEnd_keeps {s0 s : State} {patrol : PatrolResult} (h : Keeps s0 s) : Answers s0 (execMaintActivityEnd patrol s) := by
  unfold execMaintActivityEnd
  try dsimp only
  repeat' first
    | with_reducible assumption
    | with_reducible refine endPatrol_keeps ?_
    | with_reducible refine endCalSweep_keeps ?_
    | with_reducible refine endResync_keeps ?_
    | with_reducible refine endCompact_keeps ?_
    | with_reducible refine Answers.next ?_
    | with_reducible refine Keeps.ite ?_ ?_
    | with_reducible refine Answers.ite ?_ ?_
    | split

theorem advanceToElapsed_keeps {s0 s : State} {t : Nat} (h : Keeps s0 s) : Keeps s0 (advanceToElapsed t s) := by
  unfold advanceToElapsed
  try dsimp only
  repeat' first
    | with_reducible assumption
    | with_reducible refine advance_keeps ?_
    | with_reducible refine Keeps.ite ?_ ?_

theorem execPatrolHourlyCheck_keeps {s0 s : State} (h : Keeps s0 s) : Answers s0 (execPatrolHourlyCheck s) := by
  unfold execPatrolHourlyCheck
  try dsimp only
  repeat' first
    | with_reducible assumption
    | with_reducible refine modMnt_keeps ?_
    | with_reducible refine postEvent_keeps ?_
    | with_reducible refine deviceMaint_keeps ?_
    | with_reducible refine advanceToElapsed_keeps ?_
    | with_reducible refine Answers.next ?_
    | with_reducible refine Keeps.ite ?_ ?_
    | with_reducible refine Answers.ite ?_ ?_
    | split

theorem execElapsedTimeSave_keeps {s0 s : State} (h : Keeps s0 s) : Answers s0 (execElapsedTimeSave s) := by
  unfold execElapsedTimeSave
  try dsimp only
  repeat' first
    | with_reducible assumption
    | with_reducible refine modMnt_keeps ?_
    | with_reducible refine advanceToElapsed_keeps ?_
    | with_reducible refine modNv_keeps ?_ (fun _ h => h) (fun _ h => h)
    | with_reducible refine modNv_keeps ?_ (fun _ h => h) (fun _ h => by simpa using h)
    | with_reducible refine Answers.next ?_
    | with_reducible refine Keeps.ite ?_ ?_
    | with_reducible refine Answers.ite ?_ ?_

theorem execLedgerStep_keeps {s0 s : State} {sensors : List Int} {vbatMv : Nat} (h : Keeps s0 s) : Answers s0 (execLedgerStep sensors vbatMv s) := by
  unfold execLedgerStep
  try dsimp only
  repeat' first
    | with_reducible assumption
    | with_reducible refine standingDemands_keeps ?_
    | with_reducible refine ledgerTick_keeps ?_
    | with_reducible refine settleSelftests_keeps ?_
    | with_reducible refine chainActivate_keeps ?_
    | with_reducible refine Answers.next ?_
    | with_reducible refine Keeps.ite ?_ ?_

theorem execMaintRefresh_keeps {s0 s : State} {ring : Nat} (h : Keeps s0 s) : Answers s0 (execMaintRefresh ring s) := by
  unfold execMaintRefresh
  try dsimp only
  repeat' first
    | with_reducible assumption
    | with_reducible refine cmdPlain_keeps (fun _ _ _ => ?_) ?_
    | with_reducible refine requestMaint_keeps ?_

theorem maintCalSweep_keeps {s0 s : State} {hd : Held} (h : Keeps s0 s) : Keeps s0 (maintCalSweep hd s) := by
  unfold maintCalSweep
  try dsimp only
  repeat' first
    | with_reducible assumption
    | with_reducible refine done_keeps ?_
    | with_reducible refine requestMaint_keeps ?_
    | with_reducible refine Keeps.ite ?_ ?_

theorem execMaintCalSweep_keeps {s0 s : State} {ring : Nat} (h : Keeps s0 s) : Answers s0 (execMaintCalSweep ring s) := by
  unfold execMaintCalSweep
  try dsimp only
  repeat' first
    | with_reducible assumption
    | with_reducible refine cmdPlain_keeps (fun _ _ _ => ?_) ?_
    | with_reducible refine maintCalSweep_keeps ?_

theorem maintCancel_keeps {s0 s : State} {hd : Held} (h : Keeps s0 s) : Keeps s0 (maintCancel hd s) := by
  unfold maintCancel
  try dsimp only
  repeat' first
    | with_reducible assumption
    | with_reducible refine modMnt_keeps ?_
    | with_reducible refine done_keeps ?_
    | with_reducible refine done1_keeps ?_
    | with_reducible refine Keeps.ite ?_ ?_

theorem execMaintCancel_keeps {s0 s : State} {ring : Nat} (h : Keeps s0 s) : Answers s0 (execMaintCancel ring s) := by
  unfold execMaintCancel
  try dsimp only
  repeat' first
    | with_reducible assumption
    | with_reducible refine cmdPlain_keeps (fun _ _ _ => ?_) ?_
    | with_reducible refine maintCancel_keeps ?_

theorem maintStatus_keeps {s0 s : State} {hd : Held} (h : Keeps s0 s) : Keeps s0 (maintStatus hd s) := by
  unfold maintStatus
  try dsimp only
  repeat' first
    | with_reducible assumption
    | with_reducible refine finish_keeps ?_

theorem execMaintStatus_keeps {s0 s : State} {ring : Nat} (h : Keeps s0 s) : Answers s0 (execMaintStatus ring s) := by
  unfold execMaintStatus
  try dsimp only
  repeat' first
    | with_reducible assumption
    | with_reducible refine cmdPlain_keeps (fun _ _ _ => ?_) ?_
    | with_reducible refine maintStatus_keeps ?_

theorem execRosterCompact_keeps {s0 s : State} {ring : Nat} (h : Keeps s0 s) : Answers s0 (execRosterCompact ring s) := by
  unfold execRosterCompact
  try dsimp only
  repeat' first
    | with_reducible assumption
    | with_reducible refine cmdPlain_keeps (fun _ _ _ => ?_) ?_
    | with_reducible refine requestMaint_keeps ?_

/-! ## HostCmds -/

theorem sysReset_keeps {s0 s : State} {hd : Held} (h : Keeps s0 s) : Keeps s0 (sysReset hd s) := by
  unfold sysReset
  try dsimp only
  repeat' first
    | with_reducible assumption
    | with_reducible refine done_keeps ?_
    | with_reducible refine resetDevice_keeps ?_
    | with_reducible refine Keeps.ite ?_ ?_

theorem execSysReset_keeps {s0 s : State} {ring : Nat} (h : Keeps s0 s) : Answers s0 (execSysReset ring s) := by
  unfold execSysReset
  try dsimp only
  repeat' first
    | with_reducible assumption
    | with_reducible refine cmdPlain_keeps (fun _ _ _ => ?_) ?_
    | with_reducible refine sysReset_keeps ?_

theorem sysXpmRead_keeps {s0 s : State} {hd : Held} (h : Keeps s0 s) : Keeps s0 (sysXpmRead hd s) := by
  unfold sysXpmRead
  try dsimp only
  repeat' first
    | with_reducible assumption
    | with_reducible refine done_keeps ?_
    | with_reducible refine doneBytes_keeps ?_
    | with_reducible refine Keeps.ite ?_ ?_

theorem execSysXpmRead_keeps {s0 s : State} {ring : Nat} (h : Keeps s0 s) : Answers s0 (execSysXpmRead ring s) := by
  unfold execSysXpmRead
  try dsimp only
  repeat' first
    | with_reducible assumption
    | with_reducible refine cmdBuf_keeps (fun _ _ _ => ?_) ?_
    | with_reducible refine sysXpmRead_keeps ?_

theorem sysXpmWrite_keeps {s0 s : State} {hd : Held} (h : Keeps s0 s) : Keeps s0 (sysXpmWrite hd s) := by
  unfold sysXpmWrite
  try dsimp only
  repeat' first
    | with_reducible assumption
    | with_reducible refine modIsl_keeps ?_
    | with_reducible refine done_keeps ?_
    | with_reducible refine setKind_keeps ?_
    | with_reducible refine returnAreas_keeps ?_
    | with_reducible refine queueWrites_keeps ?_
    | with_reducible refine Keeps.ite ?_ ?_

theorem execSysXpmWrite_keeps {s0 s : State} {ring : Nat} (h : Keeps s0 s) : Answers s0 (execSysXpmWrite ring s) := by
  unfold execSysXpmWrite
  try dsimp only
  repeat' first
    | with_reducible assumption
    | with_reducible refine cmdBuf_keeps (fun _ _ _ => ?_) ?_
    | with_reducible refine sysXpmWrite_keeps ?_

theorem sysBusSend_keeps {s0 s : State} {hd : Held} (h : Keeps s0 s) : Keeps s0 (sysBusSend hd s) := by
  unfold sysBusSend
  try dsimp only
  repeat' first
    | with_reducible assumption
    | with_reducible refine done_keeps ?_
    | with_reducible refine setKind_keeps ?_
    | with_reducible refine queueTx_keeps ?_
    | with_reducible refine sendMessage_keeps ?_
    | with_reducible refine Keeps.ite ?_ ?_

theorem execSysBusSend_keeps {s0 s : State} {ring : Nat} (h : Keeps s0 s) : Answers s0 (execSysBusSend ring s) := by
  unfold execSysBusSend
  try dsimp only
  repeat' first
    | with_reducible assumption
    | with_reducible refine cmdBuf_keeps (fun _ _ _ => ?_) ?_
    | with_reducible refine sysBusSend_keeps ?_

theorem sysBusClaim_keeps {s0 s : State} {hd : Held} (h : Keeps s0 s) : Keeps s0 (sysBusClaim hd s) := by
  unfold sysBusClaim
  try dsimp only
  repeat' first
    | with_reducible assumption
    | with_reducible refine modBus_keeps ?_
    | with_reducible refine done_keeps ?_
    | with_reducible refine done1_keeps ?_
    | with_reducible refine setAddr_keeps ?_
    | with_reducible refine claimAddress_keeps ?_
    | with_reducible refine Keeps.ite ?_ ?_

theorem execSysBusClaim_keeps {s0 s : State} {ring : Nat} (h : Keeps s0 s) : Answers s0 (execSysBusClaim ring s) := by
  unfold execSysBusClaim
  try dsimp only
  repeat' first
    | with_reducible assumption
    | with_reducible refine cmdPlain_keeps (fun _ _ _ => ?_) ?_
    | with_reducible refine sysBusClaim_keeps ?_

theorem paramGet_keeps {s0 s : State} {hd : Held} (h : Keeps s0 s) : Keeps s0 (paramGet hd s) := by
  unfold paramGet
  try dsimp only
  repeat' first
    | with_reducible assumption
    | with_reducible refine done_keeps ?_
    | with_reducible refine done1_keeps ?_
    | with_reducible refine addressParam_keeps ?_
    | with_reducible refine Keeps.ite ?_ ?_
    | split

theorem execParamGet_keeps {s0 s : State} {ring : Nat} (h : Keeps s0 s) : Answers s0 (execParamGet ring s) := by
  unfold execParamGet
  try dsimp only
  repeat' first
    | with_reducible assumption
    | with_reducible refine cmdPlain_keeps (fun _ _ _ => ?_) ?_
    | with_reducible refine paramGet_keeps ?_

theorem afterParams_keeps {s0 s : State} (h : Keeps s0 s) : Keeps s0 (afterParams s) := by
  unfold afterParams
  try dsimp only
  repeat' first
    | with_reducible assumption
    | with_reducible refine decideAll_keeps ?_
    | with_reducible refine demandsForRequests_keeps ?_
    | with_reducible refine holdRadio_keeps ?_
    | with_reducible refine refreshOwnBlocks_keeps ?_

theorem paramSet_keeps {s0 s : State} {hd : Held} (h : Keeps s0 s) : Keeps s0 (paramSet hd s) := by
  unfold paramSet
  try dsimp only
  repeat' first
    | with_reducible assumption
    | with_reducible refine finishMirrored_keeps ?_
    | with_reducible refine addressParam_keeps ?_
    | with_reducible refine paramWrite_keeps ?_
    | with_reducible refine Keeps.fst (by assumption) (paramWrite_keeps ?_)
    | with_reducible refine afterParams_keeps ?_

theorem execParamSet_keeps {s0 s : State} {ring : Nat} (h : Keeps s0 s) : Answers s0 (execParamSet ring s) := by
  unfold execParamSet
  try dsimp only
  repeat' first
    | with_reducible assumption
    | with_reducible refine cmdPlain_keeps (fun _ _ _ => ?_) ?_
    | with_reducible refine paramSet_keeps ?_

theorem paramGetMany_keeps {s0 s : State} {hd : Held} (h : Keeps s0 s) : Keeps s0 (paramGetMany hd s) := by
  unfold paramGetMany
  try dsimp only
  repeat' first
    | with_reducible assumption
    | with_reducible refine done_keeps ?_
    | with_reducible refine wakeRadio_keeps ?_
    | with_reducible refine doneBytes_keeps ?_
    | with_reducible refine Keeps.ite ?_ ?_

theorem execParamGetMany_keeps {s0 s : State} {ring : Nat} (h : Keeps s0 s) : Answers s0 (execParamGetMany ring s) := by
  unfold execParamGetMany
  try dsimp only
  repeat' first
    | with_reducible assumption
    | with_reducible refine cmdBuf_keeps (fun _ _ _ => ?_) ?_
    | with_reducible refine paramGetMany_keeps ?_

theorem writePairs_keeps {s0 s : State} {l : List (Nat × Word)} {n : Nat} (h : Keeps s0 s) : Keeps s0 (writePairs l n s).1 := by
  induction l generalizing s n with
  | nil => exact h
  | cons x xs ih =>
    unfold writePairs
    have := paramWrite_keeps (id := x.1) (v := x.2) (addressParam_keeps (id := x.1) h)
    dsimp only
    split
    · exact ih this
    · exact this

theorem paramSetMany_keeps {s0 s : State} {hd : Held} (h : Keeps s0 s) : Keeps s0 (paramSetMany hd s) := by
  unfold paramSetMany
  try dsimp only
  repeat' first
    | with_reducible assumption
    | with_reducible refine done_keeps ?_
    | with_reducible refine finishMirrored_keeps ?_
    | with_reducible refine afterParams_keeps ?_
    | with_reducible refine writePairs_keeps ?_
    | with_reducible refine Keeps.fst (by assumption) (writePairs_keeps ?_)
    | with_reducible refine Keeps.ite ?_ ?_

theorem execParamSetMany_keeps {s0 s : State} {ring : Nat} (h : Keeps s0 s) : Answers s0 (execParamSetMany ring s) := by
  unfold execParamSetMany
  try dsimp only
  repeat' first
    | with_reducible assumption
    | with_reducible refine cmdBuf_keeps (fun _ _ _ => ?_) ?_
    | with_reducible refine paramSetMany_keeps ?_

theorem saveSettings_keeps {s0 s : State} (h : Keeps s0 s) : Keeps s0 (saveSettings s) := by
  unfold saveSettings
  try dsimp only
  repeat' first
    | with_reducible assumption
    | with_reducible refine drawFlash_keeps ?_
    | with_reducible refine modArea_keeps ?_

theorem paramSave_keeps {s0 s : State} {hd : Held} (h : Keeps s0 s) : Keeps s0 (paramSave hd s) := by
  unfold paramSave
  try dsimp only
  repeat' first
    | with_reducible assumption
    | with_reducible refine done_keeps ?_
    | with_reducible refine retire_keeps ?_
    | with_reducible refine mirrorChange_keeps ?_
    | with_reducible refine finishMirrored_keeps ?_
    | with_reducible refine saveSettings_keeps ?_
    | with_reducible refine Keeps.ite ?_ ?_

theorem execParamSave_keeps {s0 s : State} {ring : Nat} (h : Keeps s0 s) : Answers s0 (execParamSave ring s) := by
  unfold execParamSave
  try dsimp only
  repeat' first
    | with_reducible assumption
    | with_reducible refine cmdPlain_keeps (fun _ _ _ => ?_) ?_
    | with_reducible refine paramSave_keeps ?_

theorem ringSetup_keeps {s0 s : State} {hd : Held} (h : Keeps s0 s) : Keeps s0 (ringSetup hd s) := by
  unfold ringSetup
  try dsimp only
  repeat' first
    | with_reducible assumption
    | with_reducible refine modRing_keeps ?_
    | with_reducible refine done_keeps ?_
    | with_reducible refine Keeps.ite ?_ ?_

theorem execRingSetup_keeps {s0 s : State} {ring : Nat} (h : Keeps s0 s) : Answers s0 (execRingSetup ring s) := by
  unfold execRingSetup
  try dsimp only
  repeat' first
    | with_reducible assumption
    | with_reducible refine cmdPlain_keeps (fun _ _ _ => ?_) ?_
    | with_reducible refine ringSetup_keeps ?_

theorem ringPost_keeps {s0 s : State} {hd : Held} (h : Keeps s0 s) : Keeps s0 (ringPost hd s) := by
  unfold ringPost
  try dsimp only
  repeat' first
    | with_reducible assumption
    | with_reducible refine done_keeps ?_
    | with_reducible refine setKind_keeps ?_
    | with_reducible refine deliverEvent_keeps ?_
    | with_reducible refine modPort_keeps ?_ (fun _ => rfl)
    | with_reducible refine Keeps.ite ?_ ?_
    | split

theorem execRingPost_keeps {s0 s : State} {ring : Nat} (h : Keeps s0 s) : Answers s0 (execRingPost ring s) := by
  unfold execRingPost
  try dsimp only
  repeat' first
    | with_reducible assumption
    | with_reducible refine cmdBuf_keeps (fun _ _ _ => ?_) ?_
    | with_reducible refine ringPost_keeps ?_

theorem withdrawDemands_keeps {s0 s : State} {p : Nat → Bool} {slot : Nat} (h : Keeps s0 s) : Keeps s0 (withdrawDemands p slot s) := by
  unfold withdrawDemands
  try dsimp only
  repeat' first
    | with_reducible assumption
    | with_reducible refine modSched_keeps ?_

theorem cancelHeld_keeps {s0 s : State} {hd : Held} (h : Keeps s0 s) : ∀ t, cancelHeld hd s = some t → Keeps s0 t := by
  unfold cancelHeld
  intro t ht
  repeat' first
    | contradiction
    | cases ht
    | split at ht
  repeat' first
    | with_reducible assumption
    | with_reducible refine finish_keeps ?_
    | with_reducible refine done_keeps ?_
    | with_reducible refine decideAll_keeps ?_
    | with_reducible refine withdrawDemands_keeps ?_
    | with_reducible refine Keeps.ite ?_ ?_

theorem ringCancel_keeps {s0 s : State} {hd : Held} (h : Keeps s0 s) : Keeps s0 (ringCancel hd s) := by
  unfold ringCancel
  dsimp only
  refine Keeps.ite (done_keeps h) (done1_keeps ?_)
  refine Keeps.foldlFst _ _ (fun p x hp => ?_) h
  split
  · exact cancelHeld_keeps hp _ (by assumption)
  · exact hp

theorem execRingCancel_keeps {s0 s : State} {ring : Nat} (h : Keeps s0 s) : Answers s0 (execRingCancel ring s) := by
  unfold execRingCancel
  try dsimp only
  repeat' first
    | with_reducible assumption
    | with_reducible refine cmdPlain_keeps (fun _ _ _ => ?_) ?_
    | with_reducible refine ringCancel_keeps ?_

theorem diagTtRead_keeps {s0 s : State} {hd : Held} (h : Keeps s0 s) : Keeps s0 (diagTtRead hd s) := by
  unfold diagTtRead
  try dsimp only
  repeat' first
    | with_reducible assumption
    | with_reducible refine done_keeps ?_
    | with_reducible refine doneBytes_keeps ?_
    | with_reducible refine Keeps.ite ?_ ?_

theorem execDiagTtRead_keeps {s0 s : State} {ring : Nat} (h : Keeps s0 s) : Answers s0 (execDiagTtRead ring s) := by
  unfold execDiagTtRead
  try dsimp only
  repeat' first
    | with_reducible assumption
    | with_reducible refine cmdBuf_keeps (fun _ _ _ => ?_) ?_
    | with_reducible refine diagTtRead_keeps ?_

theorem diagCapture_keeps {s0 s : State} {hd : Held} (h : Keeps s0 s) : Keeps s0 (diagCapture hd s) := by
  unfold diagCapture
  try dsimp only
  repeat' first
    | with_reducible assumption
    | with_reducible refine done_keeps ?_
    | with_reducible refine setKind_keeps ?_
    | with_reducible refine Keeps.ite ?_ ?_

theorem execDiagCapture_keeps {s0 s : State} {ring : Nat} (h : Keeps s0 s) : Answers s0 (execDiagCapture ring s) := by
  unfold execDiagCapture
  try dsimp only
  repeat' first
    | with_reducible assumption
    | with_reducible refine cmdBuf_keeps (fun _ _ _ => ?_) ?_
    | with_reducible refine diagCapture_keeps ?_

theorem diagSelftest_keeps {s0 s : State} {fails : BitVec 12} {hd : Held} (h : Keeps s0 s) : Keeps s0 (diagSelftest fails hd s) := by
  unfold diagSelftest
  try dsimp only
  repeat' first
    | with_reducible assumption
    | with_reducible refine done_keeps ?_
    | with_reducible refine setKind_keeps ?_
    | with_reducible refine endSelftest_keeps ?_
    | with_reducible refine Keeps.ite ?_ ?_

theorem execDiagSelftest_keeps {s0 s : State} {ring : Nat} {fails : BitVec 12} (h : Keeps s0 s) : Answers s0 (execDiagSelftest ring fails s) := by
  unfold execDiagSelftest
  try dsimp only
  repeat' first
    | with_reducible assumption
    | with_reducible refine cmdPlain_keeps (fun _ _ _ => ?_) ?_
    | with_reducible refine diagSelftest_keeps ?_

theorem diagFaultLog_keeps {s0 s : State} {hd : Held} (h : Keeps s0 s) : Keeps s0 (diagFaultLog hd s) := by
  unfold diagFaultLog
  try dsimp only
  repeat' first
    | with_reducible assumption
    | with_reducible refine doneBytes_keeps ?_

theorem execDiagFaultLog_keeps {s0 s : State} {ring : Nat} (h : Keeps s0 s) : Answers s0 (execDiagFaultLog ring s) := by
  unfold execDiagFaultLog
  try dsimp only
  repeat' first
    | with_reducible assumption
    | with_reducible refine cmdBuf_keeps (fun _ _ _ => ?_) ?_
    | with_reducible refine diagFaultLog_keeps ?_

theorem diagEcho_keeps {s0 s : State} {hd : Held} (h : Keeps s0 s) : Keeps s0 (diagEcho hd s) := by
  unfold diagEcho
  try dsimp only
  repeat' first
    | with_reducible assumption
    | with_reducible refine finish_keeps ?_

theorem execDiagEcho_keeps {s0 s : State} {ring : Nat} (h : Keeps s0 s) : Answers s0 (execDiagEcho ring s) := by
  unfold execDiagEcho
  try dsimp only
  repeat' first
    | with_reducible assumption
    | with_reducible refine cmdPlain_keeps (fun _ _ _ => ?_) ?_
    | with_reducible refine diagEcho_keeps ?_

theorem pwrHeat_keeps {s0 s : State} {hd : Held} (h : Keeps s0 s) : Keeps s0 (pwrHeat hd s) := by
  unfold pwrHeat
  try dsimp only
  repeat' first
    | with_reducible assumption
    | with_reducible refine doneBytes_keeps ?_

theorem execPwrHeat_keeps {s0 s : State} {ring : Nat} (h : Keeps s0 s) : Answers s0 (execPwrHeat ring s) := by
  unfold execPwrHeat
  try dsimp only
  repeat' first
    | with_reducible assumption
    | with_reducible refine cmdBuf_keeps (fun _ _ _ => ?_) ?_
    | with_reducible refine pwrHeat_keeps ?_

/-! ## TwinLink -/

theorem linkAttempt_keeps {s0 s : State} (h : Keeps s0 s) : Keeps s0 (linkAttempt s) := by
  unfold linkAttempt
  try dsimp only
  repeat' first
    | with_reducible assumption
    | with_reducible refine modTwin_keeps ?_
    | with_reducible refine used_keeps ?_
    | with_reducible refine retire_keeps ?_
    | with_reducible refine bumpNonce_keeps ?_
    | with_reducible refine sendTwin_keeps ?_
    | with_reducible refine corruptSlot_keeps ?_
    | with_reducible refine Keeps.ite ?_ ?_

theorem linkGoesDown_keeps {s0 s : State} (h : Keeps s0 s) : Keeps s0 (linkGoesDown s) := by
  unfold linkGoesDown
  try dsimp only
  repeat' first
    | with_reducible assumption
    | with_reducible refine modTwin_keeps ?_
    | with_reducible refine raiseTwin_keeps ?_
    | with_reducible refine postEvent_keeps ?_
    | with_reducible refine Keeps.ite ?_ ?_

theorem restartTwin_keeps {s0 s : State} (h : Keeps s0 s) : Keeps s0 (restartTwin s) := by
  unfold restartTwin
  try dsimp only
  repeat' first
    | with_reducible assumption
    | with_reducible refine modTwin_keeps ?_
    | with_reducible refine linkAttempt_keeps ?_
    | with_reducible refine linkGoesDown_keeps ?_
    | with_reducible refine Keeps.ite ?_ ?_

theorem dropFrame_keeps {s0 s : State} {ccmFailed : Bool} (h : Keeps s0 s) : Keeps s0 (dropFrame ccmFailed s) := by
  unfold dropFrame
  try dsimp only
  repeat' first
    | with_reducible assumption
    | with_reducible refine modSec_keeps ?_
    | with_reducible refine modTwin_keeps ?_
    | with_reducible refine raise_keeps ?_
    | with_reducible refine raiseTwin_keeps ?_
    | with_reducible refine Keeps.ite ?_ ?_

theorem noteFrame_keeps {s0 s : State} {hd : FrameHdr} (h : Keeps s0 s) : Keeps s0 (noteFrame hd s) := by
  unfold noteFrame
  try dsimp only
  repeat' first
    | with_reducible assumption
    | with_reducible refine modTwin_keeps ?_

theorem takeFrame_keeps {s0 s : State} {type : Nat} {hd : FrameHdr} {body : State → State} (hb : ∀ s, Keeps s0 s → Keeps s0 (body s)) (h : Keeps s0 s) : Keeps s0 (takeFrame type hd body s) := by
  unfold takeFrame
  try dsimp only
  repeat' first
    | with_reducible assumption
    | with_reducible refine hb _ ?_
    | with_reducible refine aesJob_keeps ?_
    | with_reducible refine corruptSlot_keeps ?_
    | with_reducible refine dropFrame_keeps ?_
    | with_reducible refine noteFrame_keeps ?_
    | with_reducible refine Keeps.ite ?_ ?_

theorem takeWhole_keeps {s0 s : State} {type : Nat} {hd : FrameHdr} {body : State → State} (hb : ∀ s, Keeps s0 s → Keeps s0 (body s)) (h : Keeps s0 s) : Keeps s0 (takeWhole type hd body s) := by
  unfold takeWhole
  try dsimp only
  repeat' first
    | with_reducible assumption
    | with_reducible refine hb _ ?_
    | with_reducible refine takeFrame_keeps (fun _ _ => ?_) ?_
    | with_reducible refine Keeps.ite ?_ ?_

theorem releaseUpTo_keeps {s0 s : State} {seq : Nat} (h : Keeps s0 s) : Keeps s0 (releaseUpTo seq s) := by
  unfold releaseUpTo
  try dsimp only
  repeat' first
    | with_reducible assumption
    | with_reducible refine modSec_keeps ?_
    | with_reducible refine modTwin_keeps ?_
    | with_reducible refine complete_keeps ?_
    | with_reducible refine freed_keeps ?_
    | with_reducible refine markDone_keeps ?_
    | with_reducible refine Keeps.ite ?_ ?_
    | with_reducible refine Keeps.foldl _ _ (fun _ _ _ => ?_) ?_

theorem becomeSolo_keeps {s0 s : State} (h : Keeps s0 s) : Keeps s0 (becomeSolo s) := by
  unfold becomeSolo
  try dsimp only
  repeat' first
    | with_reducible assumption
    | with_reducible refine endResync_keeps ?_
    | with_reducible refine releaseUpTo_keeps ?_
    | with_reducible refine Keeps.ite ?_ ?_

theorem sendBacklog_keeps {s0 s : State} (h : Keeps s0 s) : Keeps s0 (sendBacklog s) := by
  unfold sendBacklog
  try dsimp only
  repeat' first
    | with_reducible assumption
    | with_reducible refine sendMirror_keeps ?_
    | with_reducible refine deviceMaint_keeps ?_
    | with_reducible refine Keeps.ite ?_ ?_
    | with_reducible refine Keeps.foldl _ _ (fun _ _ _ => ?_) ?_

/-! ## Power -/

theorem pwrSleep_keeps {s0 s : State} {hd : Held} (h : Keeps s0 s) : Keeps s0 (pwrSleep hd s) := by
  unfold pwrSleep
  try dsimp only
  repeat' first
    | with_reducible assumption
    | with_reducible refine modDev_keeps ?_
    | with_reducible refine modPwr_keeps ?_
    | with_reducible refine modTwin_keeps ?_
    | with_reducible refine done_keeps ?_
    | with_reducible refine setKind_keeps ?_
    | with_reducible refine Keeps.ite ?_ ?_

theorem execPwrSleep_keeps {s0 s : State} {ring : Nat} (h : Keeps s0 s) : Answers s0 (execPwrSleep ring s) := by
  unfold execPwrSleep
  try dsimp only
  repeat' first
    | with_reducible assumption
    | with_reducible refine cmdPlain_keeps (fun _ _ _ => ?_) ?_
    | with_reducible refine pwrSleep_keeps ?_

theorem abortEntry_keeps {s0 s : State} {id phase : Nat} (h : Keeps s0 s) : Keeps s0 (abortEntry id phase s) := by
  unfold abortEntry
  try dsimp only
  repeat' first
    | with_reducible assumption
    | with_reducible refine modDev_keeps ?_
    | with_reducible refine modPwr_keeps ?_
    | with_reducible refine modTwin_keeps ?_
    | with_reducible refine raise_keeps ?_
    | with_reducible refine completeWhere_keeps ?_
    | with_reducible refine settle_keeps ?_
    | with_reducible refine replayWake_keeps ?_
    | with_reducible refine freed_keeps ?_
    | with_reducible refine grantToken_keeps ?_
    | with_reducible refine restartTwin_keeps ?_
    | with_reducible refine Keeps.ite ?_ ?_

theorem execSleepPrepareTimeout_keeps {s0 s : State} (h : Keeps s0 s) : Answers s0 (execSleepPrepareTimeout s) := by
  unfold execSleepPrepareTimeout
  try dsimp only
  repeat' first
    | with_reducible assumption
    | with_reducible refine advanceTo_keeps ?_
    | with_reducible refine abortEntry_keeps ?_
    | with_reducible refine Answers.next ?_
    | with_reducible refine Keeps.ite ?_ ?_
    | with_reducible refine Answers.ite ?_ ?_
    | split

theorem asleepFrom_keeps {s0 s : State} {n : Nat} (h : Keeps s0 s) : Keeps s0 (asleepFrom n s) := by
  induction n generalizing s with
  | zero => exact h
  | succ n ih =>
    unfold asleepFrom
    split
    · exact h
    · split
      · exact ih (done_keeps (takeHead_keeps h))
      · exact ih (ringError_keeps h)

theorem enterSleep_keeps {s0 s : State} (h : Keeps s0 s) : Keeps s0 (enterSleep s) := by
  unfold enterSleep
  try dsimp only
  repeat' first
    | with_reducible assumption
    | with_reducible refine modDev_keeps ?_
    | with_reducible refine modSched_keeps ?_
    | with_reducible refine modRadio_keeps ?_
    | with_reducible refine modPwr_keeps ?_
    | with_reducible refine radioOff_keeps ?_
    | with_reducible refine startWake_keeps ?_
    | with_reducible refine modTb_keeps ?_ (fun _ => rfl) (fun _ => rfl)
    | with_reducible refine modTb_keeps ?_ (fun _ => by simp) (fun _ => by simp)
    | with_reducible refine Keeps.ite ?_ ?_

theorem commitRadio_keeps {s0 s : State} (h : Keeps s0 s) : Keeps s0 (commitRadio s) := by
  unfold commitRadio
  try dsimp only
  repeat' first
    | with_reducible assumption
    | with_reducible refine abortEntry_keeps ?_
    | with_reducible refine enterSleep_keeps ?_
    | with_reducible refine Keeps.ite ?_ ?_

theorem commitTwin_keeps {s0 s : State} (h : Keeps s0 s) : Keeps s0 (commitTwin s) := by
  unfold commitTwin
  try dsimp only
  repeat' first
    | with_reducible assumption
    | with_reducible refine modTwin_keeps ?_
    | with_reducible refine sendTwinUp_keeps ?_
    | with_reducible refine abortEntry_keeps ?_
    | with_reducible refine commitRadio_keeps ?_
    | with_reducible refine Keeps.ite ?_ ?_

theorem execSleepCommit_keeps {s0 s : State} (h : Keeps s0 s) : Answers s0 (execSleepCommit s) := by
  unfold execSleepCommit
  try dsimp only
  repeat' first
    | with_reducible assumption
    | with_reducible refine modDev_keeps ?_
    | with_reducible refine abortEntry_keeps ?_
    | with_reducible refine asleepFrom_keeps ?_
    | with_reducible refine commitTwin_keeps ?_
    | with_reducible refine Answers.next ?_
    | with_reducible refine Keeps.ite ?_ ?_
    | with_reducible refine Answers.ite ?_ ?_

theorem execSleepAck_keeps {s0 s : State} {hd : FrameHdr} {target : Nat} (h : Keeps s0 s) : Answers s0 (execSleepAck hd target s) := by
  unfold execSleepAck
  try dsimp only
  repeat' first
    | with_reducible assumption
    | with_reducible refine modTwin_keeps ?_
    | with_reducible refine takeWhole_keeps (fun _ _ => ?_) ?_
    | with_reducible refine abortEntry_keeps ?_
    | with_reducible refine commitRadio_keeps ?_
    | with_reducible refine Answers.next ?_
    | with_reducible refine Keeps.ite ?_ ?_

theorem execSleepAckTimeout_keeps {s0 s : State} (h : Keeps s0 s) : Answers s0 (execSleepAckTimeout s) := by
  unfold execSleepAckTimeout
  try dsimp only
  repeat' first
    | with_reducible assumption
    | with_reducible refine advanceTo_keeps ?_
    | with_reducible refine abortEntry_keeps ?_
    | with_reducible refine Answers.next ?_
    | with_reducible refine Keeps.ite ?_ ?_
    | with_reducible refine Answers.ite ?_ ?_
    | split

theorem execWakeSourceEvent_keeps {s0 s : State} {cause : WakeCause} (h : Keeps s0 s) : Answers s0 (execWakeSourceEvent cause s) := by
  unfold execWakeSourceEvent
  try dsimp only
  repeat' first
    | with_reducible assumption
    | with_reducible refine wakeEvent_keeps ?_
    | with_reducible refine Answers.next ?_
    | with_reducible refine Keeps.ite ?_ ?_
    | with_reducible refine Answers.ite ?_ ?_
    | split

theorem execWakeTimerExpiry_keeps {s0 s : State} (h : Keeps s0 s) : Answers s0 (execWakeTimerExpiry s) := by
  unfold execWakeTimerExpiry
  try dsimp only
  repeat' first
    | with_reducible assumption
    | with_reducible refine advanceTo_keeps ?_
    | with_reducible refine wakeEvent_keeps ?_
    | with_reducible refine Answers.next ?_
    | with_reducible refine Keeps.ite ?_ ?_
    | with_reducible refine Answers.ite ?_ ?_

theorem wakeStepFails_keeps {s0 s : State} (h : Keeps s0 s) : Keeps s0 (wakeStepFails s) := by
  unfold wakeStepFails
  try dsimp only
  repeat' first
    | with_reducible assumption
    | with_reducible refine advance_keeps ?_
    | with_reducible refine watchdogReset_keeps ?_

theorem radioUp_keeps {s0 s : State} (h : Keeps s0 s) : Keeps s0 (radioUp s) := by
  unfold radioUp
  try dsimp only
  repeat' first
    | with_reducible assumption
    | with_reducible refine modRadio_keeps ?_
    | with_reducible refine takeConf_keeps ?_
    | with_reducible refine Keeps.ite ?_ ?_

theorem wakeSources_keeps {s0 s : State} {stabled : Bool} (h : Keeps s0 s) : Keeps s0 (wakeSources stabled s) := by
  unfold wakeSources
  try dsimp only
  repeat' first
    | with_reducible assumption
    | with_reducible refine skipEntries_keeps ?_
    | with_reducible refine modTb_keeps ?_ (fun _ => rfl) (fun _ => rfl)
    | with_reducible refine modTb_keeps ?_ (fun _ => by simp) (fun _ => by simp)
    | with_reducible refine Keeps.ite ?_ ?_
    | with_reducible refine Keeps.foldl _ _ (fun _ _ _ => ?_) ?_

theorem endWake_keeps {s0 s : State} (h : Keeps s0 s) : Keeps s0 (endWake s) := by
  unfold endWake
  try dsimp only
  repeat' first
    | with_reducible assumption
    | with_reducible refine modDev_keeps ?_
    | with_reducible refine modPwr_keeps ?_
    | with_reducible refine modUpd_keeps ?_
    | with_reducible refine raiseWake_keeps ?_
    | with_reducible refine completeWhere_keeps ?_
    | with_reducible refine postEvent_keeps ?_
    | with_reducible refine busStart_keeps ?_
    | with_reducible refine settle_keeps ?_
    | with_reducible refine startNext_keeps ?_
    | with_reducible refine afterSession_keeps ?_
    | with_reducible refine freed_keeps ?_
    | with_reducible refine grantToken_keeps ?_
    | with_reducible refine restartTwin_keeps ?_
    | with_reducible refine radioUp_keeps ?_
    | with_reducible refine wakeSources_keeps ?_
    | with_reducible refine Keeps.ite ?_ ?_

theorem execWakeStepReady_keeps {s0 s : State} {us : Nat} (h : Keeps s0 s) : Answers s0 (execWakeStepReady us s) := by
  unfold execWakeStepReady
  try dsimp only
  repeat' first
    | with_reducible assumption
    | with_reducible refine modPwr_keeps ?_
    | with_reducible refine advance_keeps ?_
    | with_reducible refine wakeStepFails_keeps ?_
    | with_reducible refine endWake_keeps ?_
    | with_reducible refine Answers.next ?_
    | with_reducible refine Keeps.ite ?_ ?_
    | with_reducible refine Answers.ite ?_ ?_

theorem execWakeStepTimeout_keeps {s0 s : State} (h : Keeps s0 s) : Answers s0 (execWakeStepTimeout s) := by
  unfold execWakeStepTimeout
  try dsimp only
  repeat' first
    | with_reducible assumption
    | with_reducible refine wakeStepFails_keeps ?_
    | with_reducible refine Answers.next ?_
    | with_reducible refine Keeps.ite ?_ ?_
    | with_reducible refine Answers.ite ?_ ?_

/-! ## KeyCmds -/

theorem enrolDemand_keeps {s0 s : State} {slot : Nat} {uid : Dword} (h : Keeps s0 s) : Keeps s0 (enrolDemand slot uid s) := by
  unfold enrolDemand
  try dsimp only
  repeat' first
    | with_reducible assumption
    | with_reducible refine addDemand_keeps ?_
    | with_reducible refine demandForKey_keeps ?_
    | with_reducible refine Keeps.ite ?_ ?_
    | with_reducible refine Keeps.foldl _ _ (fun _ _ _ => ?_) ?_

theorem keyEnrol_keeps {s0 s : State} {hd : Held} (h : Keeps s0 s) : Keeps s0 (keyEnrol hd s) := by
  unfold keyEnrol
  try dsimp only
  repeat' first
    | with_reducible assumption
    | with_reducible refine done_keeps ?_
    | with_reducible refine setKind_keeps ?_
    | with_reducible refine enrolProved_keeps ?_
    | with_reducible refine enrolDemand_keeps ?_
    | with_reducible refine Keeps.ite ?_ ?_
    | split

theorem execKeyEnrol_keeps {s0 s : State} {ring : Nat} (h : Keeps s0 s) : Answers s0 (execKeyEnrol ring s) := by
  unfold execKeyEnrol
  try dsimp only
  repeat' first
    | with_reducible assumption
    | with_reducible refine cmdPlain_keeps (fun _ _ _ => ?_) ?_
    | with_reducible refine keyEnrol_keeps ?_

theorem dropHeldBy_keeps {s0 s : State} {k cause : Nat} (h : Keeps s0 s) : Keeps s0 (dropHeldBy k cause s) := by
  unfold dropHeldBy
  try dsimp only
  repeat' first
    | with_reducible assumption
    | with_reducible refine modLock_keeps ?_
    | with_reducible refine dropOutput_keeps ?_
    | with_reducible refine Keeps.ite ?_ ?_
    | with_reducible refine Keeps.foldl _ _ (fun _ _ _ => ?_) ?_
    | split

theorem keyRevoke_keeps {s0 s : State} {hd : Held} (h : Keeps s0 s) : Keeps s0 (keyRevoke hd s) := by
  unfold keyRevoke
  try dsimp only
  repeat' first
    | with_reducible assumption
    | with_reducible refine modKey_keeps ?_
    | with_reducible refine done_keeps ?_
    | with_reducible refine finishMirrored_keeps ?_
    | with_reducible refine decideAll_keeps ?_
    | with_reducible refine putKeyNv_keeps ?_
    | with_reducible refine dropHeldBy_keeps ?_
    | with_reducible refine Keeps.ite ?_ ?_

theorem execKeyRevoke_keeps {s0 s : State} {ring : Nat} (h : Keeps s0 s) : Answers s0 (execKeyRevoke ring s) := by
  unfold execKeyRevoke
  try dsimp only
  repeat' first
    | with_reducible assumption
    | with_reducible refine cmdPlain_keeps (fun _ _ _ => ?_) ?_
    | with_reducible refine keyRevoke_keeps ?_

theorem keyList_keeps {s0 s : State} {hd : Held} (h : Keeps s0 s) : Keeps s0 (keyList hd s) := by
  unfold keyList
  try dsimp only
  repeat' first
    | with_reducible assumption
    | with_reducible refine done_keeps ?_
    | with_reducible refine doneBytes_keeps ?_
    | with_reducible refine Keeps.ite ?_ ?_

theorem execKeyList_keeps {s0 s : State} {ring : Nat} (h : Keeps s0 s) : Answers s0 (execKeyList ring s) := by
  unfold execKeyList
  try dsimp only
  repeat' first
    | with_reducible assumption
    | with_reducible refine cmdBuf_keeps (fun _ _ _ => ?_) ?_
    | with_reducible refine keyList_keeps ?_

theorem keyOemRoot_keeps {s0 s : State} {hd : Held} (h : Keeps s0 s) : Keeps s0 (keyOemRoot hd s) := by
  unfold keyOemRoot
  try dsimp only
  repeat' first
    | with_reducible assumption
    | with_reducible refine done_keeps ?_
    | with_reducible refine otpBurn_keeps ?_
    | with_reducible refine Keeps.ite ?_ ?_

theorem execKeyOemRoot_keeps {s0 s : State} {ring : Nat} (h : Keeps s0 s) : Answers s0 (execKeyOemRoot ring s) := by
  unfold execKeyOemRoot
  try dsimp only
  repeat' first
    | with_reducible assumption
    | with_reducible refine cmdBuf_keeps (fun _ _ _ => ?_) ?_
    | with_reducible refine keyOemRoot_keeps ?_

theorem keyOtpWrite_keeps {s0 s : State} {hd : Held} (h : Keeps s0 s) : Keeps s0 (keyOtpWrite hd s) := by
  unfold keyOtpWrite
  try dsimp only
  repeat' first
    | with_reducible assumption
    | with_reducible refine done_keeps ?_
    | with_reducible refine otpBurn_keeps ?_
    | with_reducible refine Keeps.ite ?_ ?_

theorem execKeyOtpWrite_keeps {s0 s : State} {ring : Nat} (h : Keeps s0 s) : Answers s0 (execKeyOtpWrite ring s) := by
  unfold execKeyOtpWrite
  try dsimp only
  repeat' first
    | with_reducible assumption
    | with_reducible refine cmdBuf_keeps (fun _ _ _ => ?_) ?_
    | with_reducible refine keyOtpWrite_keeps ?_

theorem keyOtpRead_keeps {s0 s : State} {hd : Held} (h : Keeps s0 s) : Keeps s0 (keyOtpRead hd s) := by
  unfold keyOtpRead
  try dsimp only
  repeat' first
    | with_reducible assumption
    | with_reducible refine done_keeps ?_
    | with_reducible refine doneBytes_keeps ?_
    | with_reducible refine Keeps.ite ?_ ?_

theorem execKeyOtpRead_keeps {s0 s : State} {ring : Nat} (h : Keeps s0 s) : Answers s0 (execKeyOtpRead ring s) := by
  unfold execKeyOtpRead
  try dsimp only
  repeat' first
    | with_reducible assumption
    | with_reducible refine cmdBuf_keeps (fun _ _ _ => ?_) ?_
    | with_reducible refine keyOtpRead_keeps ?_

theorem keyHitchEnrol_keeps {s0 s : State} {hd : Held} (h : Keeps s0 s) : Keeps s0 (keyHitchEnrol hd s) := by
  unfold keyHitchEnrol
  try dsimp only
  repeat' first
    | with_reducible assumption
    | with_reducible refine done_keeps ?_
    | with_reducible refine corruptSlot_keeps ?_
    | with_reducible refine enrolHitch_keeps ?_
    | with_reducible refine Keeps.ite ?_ ?_
    | split

theorem execKeyHitchEnrol_keeps {s0 s : State} {ring : Nat} (h : Keeps s0 s) : Answers s0 (execKeyHitchEnrol ring s) := by
  unfold execKeyHitchEnrol
  try dsimp only
  repeat' first
    | with_reducible assumption
    | with_reducible refine cmdPlain_keeps (fun _ _ _ => ?_) ?_
    | with_reducible refine keyHitchEnrol_keeps ?_

theorem keyDestroy_keeps {s0 s : State} {hd : Held} (h : Keeps s0 s) : Keeps s0 (keyDestroy hd s) := by
  unfold keyDestroy
  try dsimp only
  repeat' first
    | with_reducible assumption
    | with_reducible refine done_keeps ?_
    | with_reducible refine inTurn_keeps (fun _ _ _ => ?_) ?_
    | with_reducible refine destroyOrWait_keeps ?_
    | with_reducible refine destroySigned_keeps ?_
    | with_reducible refine Keeps.ite ?_ ?_

theorem execKeyDestroy_keeps {s0 s : State} {ring : Nat} (h : Keeps s0 s) : Answers s0 (execKeyDestroy ring s) := by
  unfold execKeyDestroy
  try dsimp only
  repeat' first
    | with_reducible assumption
    | with_reducible refine runCmd_keeps (fun _ _ _ => ?_) ?_
    | with_reducible refine keyDestroy_keeps ?_
    | with_reducible refine Answers.next ?_

theorem keyCtrAdvance_keeps {s0 s : State} {hd : Held} (h : Keeps s0 s) : Keeps s0 (keyCtrAdvance hd s) := by
  unfold keyCtrAdvance
  try dsimp only
  repeat' first
    | with_reducible assumption
    | with_reducible refine modSec_keeps ?_
    | with_reducible refine done_keeps ?_
    | with_reducible refine done1_keeps ?_
    | with_reducible refine setKind_keeps ?_
    | with_reducible refine retire_keeps ?_
    | with_reducible refine setLiveCounter_keeps ?_
    | with_reducible refine Keeps.ite ?_ ?_

theorem execKeyCtrAdvance_keeps {s0 s : State} {ring : Nat} (h : Keeps s0 s) : Answers s0 (execKeyCtrAdvance ring s) := by
  unfold execKeyCtrAdvance
  try dsimp only
  repeat' first
    | with_reducible assumption
    | with_reducible refine cmdPlain_keeps (fun _ _ _ => ?_) ?_
    | with_reducible refine keyCtrAdvance_keeps ?_

theorem execFlashWriteComplete_keeps {s0 s : State} (h : Keeps s0 s) : Answers s0 (execFlashWriteComplete s) := by
  unfold execFlashWriteComplete
  try dsimp only
  repeat' first
    | with_reducible assumption
    | with_reducible refine modSec_keeps ?_
    | with_reducible refine complete_keeps ?_
    | with_reducible refine setMark_keeps ?_
    | with_reducible refine setLiveCounter_keeps ?_
    | with_reducible refine keyMarkWritten_keeps ?_
    | with_reducible refine Answers.next ?_
    | with_reducible refine Keeps.ite ?_ ?_
    | with_reducible refine Answers.ite ?_ ?_
    | split

theorem keyCertRead_keeps {s0 s : State} {hd : Held} (h : Keeps s0 s) : Keeps s0 (keyCertRead hd s) := by
  unfold keyCertRead
  try dsimp only
  repeat' first
    | with_reducible assumption
    | with_reducible refine doneBytes_keeps ?_

theorem execKeyCertRead_keeps {s0 s : State} {ring : Nat} (h : Keeps s0 s) : Answers s0 (execKeyCertRead ring s) := by
  unfold execKeyCertRead
  try dsimp only
  repeat' first
    | with_reducible assumption
    | with_reducible refine cmdBuf_keeps (fun _ _ _ => ?_) ?_
    | with_reducible refine keyCertRead_keeps ?_

theorem keyLifecycle_keeps {s0 s : State} {hd : Held} (h : Keeps s0 s) : Keeps s0 (keyLifecycle hd s) := by
  unfold keyLifecycle
  try dsimp only
  repeat' first
    | with_reducible assumption
    | with_reducible refine done_keeps ?_
    | with_reducible refine inTurn_keeps (fun _ _ _ => ?_) ?_
    | with_reducible refine lifecycleSigned_keeps ?_
    | with_reducible refine Keeps.ite ?_ ?_

theorem execKeyLifecycle_keeps {s0 s : State} {ring : Nat} (h : Keeps s0 s) : Answers s0 (execKeyLifecycle ring s) := by
  unfold execKeyLifecycle
  try dsimp only
  repeat' first
    | with_reducible assumption
    | with_reducible refine cmdBuf_keeps (fun _ _ _ => ?_) ?_
    | with_reducible refine keyLifecycle_keeps ?_

theorem execVendorProvisioning_keeps {s0 s : State} {cert imgKey sig : List Byte} (h : Keeps s0 s) : Answers s0 (execVendorProvisioning cert imgKey sig s) := by
  unfold execVendorProvisioning
  try dsimp only
  repeat' first
    | with_reducible assumption
    | with_reducible refine locksStatic_keeps ?_
    | with_reducible refine resetDevice_keeps ?_
    | with_reducible refine finishTransition_keeps ?_
    | with_reducible refine modNv_keeps ?_ (fun _ h => h) (fun _ h => h)
    | with_reducible refine modNv_keeps ?_ (fun _ h => h) (fun _ h => by simpa using h)
    | with_reducible refine Answers.next ?_
    | with_reducible refine Keeps.ite ?_ ?_
    | with_reducible refine Answers.ite ?_ ?_

/-! ## ServiceCmds -/

theorem routeLineClear_keeps {s0 s : State} {hd : Held} (h : Keeps s0 s) : Keeps s0 (routeLineClear hd s) := by
  unfold routeLineClear
  try dsimp only
  repeat' first
    | with_reducible assumption
    | with_reducible refine modLine_keeps ?_
    | with_reducible refine done_keeps ?_
    | with_reducible refine done1_keeps ?_
    | with_reducible refine Keeps.ite ?_ ?_
    | with_reducible refine Keeps.foldl _ _ (fun _ _ _ => ?_) ?_

theorem execRouteLineClear_keeps {s0 s : State} {ring : Nat} (h : Keeps s0 s) : Answers s0 (execRouteLineClear ring s) := by
  unfold execRouteLineClear
  try dsimp only
  repeat' first
    | with_reducible assumption
    | with_reducible refine cmdPlain_keeps (fun _ _ _ => ?_) ?_
    | with_reducible refine routeLineClear_keeps ?_

theorem routeStatus_keeps {s0 s : State} {hd : Held} (h : Keeps s0 s) : Keeps s0 (routeStatus hd s) := by
  unfold routeStatus
  try dsimp only
  repeat' first
    | with_reducible assumption
    | with_reducible refine finish_keeps ?_

theorem execRouteStatus_keeps {s0 s : State} {ring : Nat} (h : Keeps s0 s) : Answers s0 (execRouteStatus ring s) := by
  unfold execRouteStatus
  try dsimp only
  repeat' first
    | with_reducible assumption
    | with_reducible refine cmdPlain_keeps (fun _ _ _ => ?_) ?_
    | with_reducible refine routeStatus_keeps ?_

theorem svcDefine_keeps {s0 s : State} {hd : Held} (h : Keeps s0 s) : Keeps s0 (svcDefine hd s) := by
  unfold svcDefine
  try dsimp only
  repeat' first
    | with_reducible assumption
    | with_reducible refine done_keeps ?_
    | with_reducible refine mirrorChange_keeps ?_
    | with_reducible refine finishMirrored_keeps ?_
    | with_reducible refine defineSvc_keeps ?_
    | with_reducible refine Keeps.ite ?_ ?_

theorem execSvcDefine_keeps {s0 s : State} {ring : Nat} (h : Keeps s0 s) : Answers s0 (execSvcDefine ring s) := by
  unfold execSvcDefine
  try dsimp only
  repeat' first
    | with_reducible assumption
    | with_reducible refine cmdPlain_keeps (fun _ _ _ => ?_) ?_
    | with_reducible refine svcDefine_keeps ?_

theorem undefineSvc_keeps {s0 s : State} {n : Nat} (h : Keeps s0 s) : Keeps s0 (undefineSvc n s) := by
  unfold undefineSvc
  try dsimp only
  repeat' first
    | with_reducible assumption
    | with_reducible refine modSched_keeps ?_
    | with_reducible refine completeWhere_keeps ?_
    | with_reducible refine modSvc_keeps ?_

theorem svcUndefine_keeps {s0 s : State} {hd : Held} (h : Keeps s0 s) : Keeps s0 (svcUndefine hd s) := by
  unfold svcUndefine
  try dsimp only
  repeat' first
    | with_reducible assumption
    | with_reducible refine done_keeps ?_
    | with_reducible refine mirrorChange_keeps ?_
    | with_reducible refine finishMirrored_keeps ?_
    | with_reducible refine undefineSvc_keeps ?_
    | with_reducible refine Keeps.ite ?_ ?_

theorem execSvcUndefine_keeps {s0 s : State} {ring : Nat} (h : Keeps s0 s) : Answers s0 (execSvcUndefine ring s) := by
  unfold execSvcUndefine
  try dsimp only
  repeat' first
    | with_reducible assumption
    | with_reducible refine cmdPlain_keeps (fun _ _ _ => ?_) ?_
    | with_reducible refine svcUndefine_keeps ?_

theorem svcDemand_keeps {s0 s : State} {hd : Held} (h : Keeps s0 s) : Keeps s0 (svcDemand hd s) := by
  unfold svcDemand
  try dsimp only
  repeat' first
    | with_reducible assumption
    | with_reducible refine done_keeps ?_
    | with_reducible refine setKind_keeps ?_
    | with_reducible refine addDemand_keeps ?_
    | with_reducible refine Keeps.ite ?_ ?_
    | split

theorem execSvcDemand_keeps {s0 s : State} {ring : Nat} (h : Keeps s0 s) : Answers s0 (execSvcDemand ring s) := by
  unfold execSvcDemand
  try dsimp only
  repeat' first
    | with_reducible assumption
    | with_reducible refine cmdPlain_keeps (fun _ _ _ => ?_) ?_
    | with_reducible refine svcDemand_keeps ?_

theorem addPinned_keeps {s0 s : State} {uid : Dword} (h : Keeps s0 s) : Keeps s0 (addPinned uid s).1 := by
  unfold addPinned
  try dsimp only
  repeat' first
    | with_reducible assumption
    | with_reducible refine putEntry_keeps ?_
    | with_reducible refine modEntry_keeps ?_
    | with_reducible refine savePinned_keeps ?_
    | with_reducible refine Keeps.ite ?_ ?_
    | split

theorem rosterAdd_keeps {s0 s : State} {hd : Held} (h : Keeps s0 s) : Keeps s0 (rosterAdd hd s) := by
  unfold rosterAdd
  try dsimp only
  repeat' first
    | with_reducible assumption
    | with_reducible refine done_keeps ?_
    | with_reducible refine finishMirrored_keeps ?_
    | with_reducible refine addPinned_keeps ?_
    | with_reducible refine Keeps.fst (by assumption) (addPinned_keeps ?_)
    | with_reducible refine Keeps.ite ?_ ?_
    | split

theorem execRosterAdd_keeps {s0 s : State} {ring : Nat} (h : Keeps s0 s) : Answers s0 (execRosterAdd ring s) := by
  unfold execRosterAdd
  try dsimp only
  repeat' first
    | with_reducible assumption
    | with_reducible refine cmdPlain_keeps (fun _ _ _ => ?_) ?_
    | with_reducible refine rosterAdd_keeps ?_

theorem rosterFind_keeps {s0 s : State} {hd : Held} (h : Keeps s0 s) : Keeps s0 (rosterFind hd s) := by
  unfold rosterFind
  try dsimp only
  repeat' first
    | with_reducible assumption
    | with_reducible refine done_keeps ?_
    | with_reducible refine done1_keeps ?_
    | with_reducible refine Keeps.ite ?_ ?_
    | split

theorem execRosterFind_keeps {s0 s : State} {ring : Nat} (h : Keeps s0 s) : Answers s0 (execRosterFind ring s) := by
  unfold execRosterFind
  try dsimp only
  repeat' first
    | with_reducible assumption
    | with_reducible refine cmdPlain_keeps (fun _ _ _ => ?_) ?_
    | with_reducible refine rosterFind_keeps ?_

theorem rosterGet_keeps {s0 s : State} {hd : Held} (h : Keeps s0 s) : Keeps s0 (rosterGet hd s) := by
  unfold rosterGet
  try dsimp only
  repeat' first
    | with_reducible assumption
    | with_reducible refine done_keeps ?_
    | with_reducible refine doneBytes_keeps ?_
    | with_reducible refine Keeps.ite ?_ ?_

theorem execRosterGet_keeps {s0 s : State} {ring : Nat} (h : Keeps s0 s) : Answers s0 (execRosterGet ring s) := by
  unfold execRosterGet
  try dsimp only
  repeat' first
    | with_reducible assumption
    | with_reducible refine cmdBuf_keeps (fun _ _ _ => ?_) ?_
    | with_reducible refine rosterGet_keeps ?_

theorem rosterSetOwner_keeps {s0 s : State} {hd : Held} (h : Keeps s0 s) : Keeps s0 (rosterSetOwner hd s) := by
  unfold rosterSetOwner
  try dsimp only
  repeat' first
    | with_reducible assumption
    | with_reducible refine done_keeps ?_
    | with_reducible refine finishMirrored_keeps ?_
    | with_reducible refine putEntry_keeps ?_
    | with_reducible refine savePinned_keeps ?_
    | with_reducible refine Keeps.ite ?_ ?_
    | split

theorem execRosterSetOwner_keeps {s0 s : State} {ring : Nat} (h : Keeps s0 s) : Answers s0 (execRosterSetOwner ring s) := by
  unfold execRosterSetOwner
  try dsimp only
  repeat' first
    | with_reducible assumption
    | with_reducible refine cmdPlain_keeps (fun _ _ _ => ?_) ?_
    | with_reducible refine rosterSetOwner_keeps ?_

theorem rosterDelete_keeps {s0 s : State} {hd : Held} (h : Keeps s0 s) : Keeps s0 (rosterDelete hd s) := by
  unfold rosterDelete
  try dsimp only
  repeat' first
    | with_reducible assumption
    | with_reducible refine done_keeps ?_
    | with_reducible refine finishMirrored_keeps ?_
    | with_reducible refine freeEntry_keeps ?_
    | with_reducible refine savePinned_keeps ?_
    | with_reducible refine Keeps.ite ?_ ?_
    | split

theorem execRosterDelete_keeps {s0 s : State} {ring : Nat} (h : Keeps s0 s) : Answers s0 (execRosterDelete ring s) := by
  unfold execRosterDelete
  try dsimp only
  repeat' first
    | with_reducible assumption
    | with_reducible refine cmdPlain_keeps (fun _ _ _ => ?_) ?_
    | with_reducible refine rosterDelete_keeps ?_

theorem authKey_keeps {s0 s : State} {hd : Held} (h : Keeps s0 s) : Keeps s0 (authKey hd s) := by
  unfold authKey
  try dsimp only
  repeat' first
    | with_reducible assumption
    | with_reducible refine done_keeps ?_
    | with_reducible refine setKind_keeps ?_
    | with_reducible refine demandForKey_keeps ?_
    | with_reducible refine Keeps.ite ?_ ?_

theorem execAuthKey_keeps {s0 s : State} {ring : Nat} (h : Keeps s0 s) : Answers s0 (execAuthKey ring s) := by
  unfold execAuthKey
  try dsimp only
  repeat' first
    | with_reducible assumption
    | with_reducible refine cmdPlain_keeps (fun _ _ _ => ?_) ?_
    | with_reducible refine authKey_keeps ?_

theorem authStatus_keeps {s0 s : State} {hd : Held} (h : Keeps s0 s) : Keeps s0 (authStatus hd s) := by
  unfold authStatus
  try dsimp only
  repeat' first
    | with_reducible assumption
    | with_reducible refine finish_keeps ?_
    | with_reducible refine done_keeps ?_
    | with_reducible refine Keeps.ite ?_ ?_

theorem execAuthStatus_keeps {s0 s : State} {ring : Nat} (h : Keeps s0 s) : Answers s0 (execAuthStatus ring s) := by
  unfold execAuthStatus
  try dsimp only
  repeat' first
    | with_reducible assumption
    | with_reducible refine cmdPlain_keeps (fun _ _ _ => ?_) ?_
    | with_reducible refine authStatus_keeps ?_

theorem lockRequest_keeps {s0 s : State} {hd : Held} (h : Keeps s0 s) : Keeps s0 (lockRequest hd s) := by
  unfold lockRequest
  try dsimp only
  repeat' first
    | with_reducible assumption
    | with_reducible refine finish_keeps ?_
    | with_reducible refine done_keeps ?_
    | with_reducible refine setKind_keeps ?_
    | with_reducible refine decideAll_keeps ?_
    | with_reducible refine demandsForRequests_keeps ?_
    | with_reducible refine Keeps.ite ?_ ?_

theorem execLockRequest_keeps {s0 s : State} {ring : Nat} (h : Keeps s0 s) : Answers s0 (execLockRequest ring s) := by
  unfold execLockRequest
  try dsimp only
  repeat' first
    | with_reducible assumption
    | with_reducible refine cmdPlain_keeps (fun _ _ _ => ?_) ?_
    | with_reducible refine lockRequest_keeps ?_

theorem lockEngineStopped_keeps {s0 s : State} {hd : Held} (h : Keeps s0 s) : Keeps s0 (lockEngineStopped hd s) := by
  unfold lockEngineStopped
  try dsimp only
  repeat' first
    | with_reducible assumption
    | with_reducible refine done1_keeps ?_
    | with_reducible refine completeRequests_keeps ?_
    | with_reducible refine dropOne_keeps ?_
    | with_reducible refine Keeps.ite ?_ ?_
    | with_reducible refine Keeps.foldl _ _ (fun _ _ _ => ?_) ?_

theorem execLockEngineStopped_keeps {s0 s : State} {ring : Nat} (h : Keeps s0 s) : Answers s0 (execLockEngineStopped ring s) := by
  unfold execLockEngineStopped
  try dsimp only
  repeat' first
    | with_reducible assumption
    | with_reducible refine cmdPlain_keeps (fun _ _ _ => ?_) ?_
    | with_reducible refine lockEngineStopped_keeps ?_

theorem lockDrop_keeps {s0 s : State} {hd : Held} (h : Keeps s0 s) : Keeps s0 (lockDrop hd s) := by
  unfold lockDrop
  try dsimp only
  repeat' first
    | with_reducible assumption
    | with_reducible refine done_keeps ?_
    | with_reducible refine done1_keeps ?_
    | with_reducible refine cancelOutput_keeps ?_
    | with_reducible refine Keeps.ite ?_ ?_
    | with_reducible refine Keeps.foldl _ _ (fun _ _ _ => ?_) ?_

theorem execLockDrop_keeps {s0 s : State} {ring : Nat} (h : Keeps s0 s) : Answers s0 (execLockDrop ring s) := by
  unfold execLockDrop
  try dsimp only
  repeat' first
    | with_reducible assumption
    | with_reducible refine cmdPlain_keeps (fun _ _ _ => ?_) ?_
    | with_reducible refine lockDrop_keeps ?_

theorem lockClear_keeps {s0 s : State} {echoLow : Bool} {hd : Held} (h : Keeps s0 s) : Keeps s0 (lockClear echoLow hd s) := by
  unfold lockClear
  try dsimp only
  repeat' first
    | with_reducible assumption
    | with_reducible refine modDev_keeps ?_
    | with_reducible refine modLock_keeps ?_
    | with_reducible refine done_keeps ?_
    | with_reducible refine decideAll_keeps ?_
    | with_reducible refine demandsForRequests_keeps ?_
    | with_reducible refine Keeps.ite ?_ ?_

theorem execLockClear_keeps {s0 s : State} {ring : Nat} {echoLow : Bool} (h : Keeps s0 s) : Answers s0 (execLockClear ring echoLow s) := by
  unfold execLockClear
  try dsimp only
  repeat' first
    | with_reducible assumption
    | with_reducible refine cmdPlain_keeps (fun _ _ _ => ?_) ?_
    | with_reducible refine lockClear_keeps ?_

theorem zoneFix_keeps {s0 s : State} {hd : Held} (h : Keeps s0 s) : Keeps s0 (zoneFix hd s) := by
  unfold zoneFix
  try dsimp only
  repeat' first
    | with_reducible assumption
    | with_reducible refine done_keeps ?_
    | with_reducible refine setKind_keeps ?_
    | with_reducible refine demandForKey_keeps ?_
    | with_reducible refine Keeps.ite ?_ ?_

theorem execZoneFix_keeps {s0 s : State} {ring : Nat} (h : Keeps s0 s) : Answers s0 (execZoneFix ring s) := by
  unfold execZoneFix
  try dsimp only
  repeat' first
    | with_reducible assumption
    | with_reducible refine cmdPlain_keeps (fun _ _ _ => ?_) ?_
    | with_reducible refine zoneFix_keeps ?_

theorem zoneGet_keeps {s0 s : State} {hd : Held} (h : Keeps s0 s) : Keeps s0 (zoneGet hd s) := by
  unfold zoneGet
  try dsimp only
  repeat' first
    | with_reducible assumption
    | with_reducible refine done_keeps ?_
    | with_reducible refine doneBytes_keeps ?_
    | with_reducible refine Keeps.ite ?_ ?_

theorem execZoneGet_keeps {s0 s : State} {ring : Nat} (h : Keeps s0 s) : Answers s0 (execZoneGet ring s) := by
  unfold execZoneGet
  try dsimp only
  repeat' first
    | with_reducible assumption
    | with_reducible refine cmdBuf_keeps (fun _ _ _ => ?_) ?_
    | with_reducible refine zoneGet_keeps ?_

theorem rangeDetail_keeps {s0 s : State} {hd : Held} (h : Keeps s0 s) : Keeps s0 (rangeDetail hd s) := by
  unfold rangeDetail
  try dsimp only
  repeat' first
    | with_reducible assumption
    | with_reducible refine done_keeps ?_
    | with_reducible refine doneBytes_keeps ?_
    | with_reducible refine Keeps.ite ?_ ?_
    | split

theorem execRangeDetail_keeps {s0 s : State} {ring : Nat} (h : Keeps s0 s) : Answers s0 (execRangeDetail ring s) := by
  unfold execRangeDetail
  try dsimp only
  repeat' first
    | with_reducible assumption
    | with_reducible refine cmdBuf_keeps (fun _ _ _ => ?_) ?_
    | with_reducible refine rangeDetail_keeps ?_

/-! ## Twin -/

theorem writeLastRole_keeps {s0 s : State} {active : Bool} (h : Keeps s0 s) : Keeps s0 (writeLastRole active s) := by
  unfold writeLastRole
  try dsimp only
  repeat' first
    | with_reducible assumption
    | with_reducible refine modNv_keeps ?_ (fun _ h => h) (fun _ h => h)

theorem sendNotices_keeps {s0 s : State} (h : Keeps s0 s) : Keeps s0 (sendNotices s) := by
  unfold sendNotices
  try dsimp only
  repeat' first
    | with_reducible assumption
    | with_reducible refine sendTwinUp_keeps ?_
    | with_reducible refine Keeps.ite ?_ ?_

theorem becomeActive_keeps {s0 s : State} {addr : Nat} (h : Keeps s0 s) : Keeps s0 (becomeActive addr s) := by
  unfold becomeActive
  try dsimp only
  repeat' first
    | with_reducible assumption
    | with_reducible refine modTwin_keeps ?_
    | with_reducible refine busStart_keeps ?_
    | with_reducible refine sendBacklog_keeps ?_
    | with_reducible refine radioUp_keeps ?_
    | with_reducible refine writeLastRole_keeps ?_
    | with_reducible refine sendNotices_keeps ?_

theorem becomeSiding_keeps {s0 s : State} (h : Keeps s0 s) : Keeps s0 (becomeSiding s) := by
  unfold becomeSiding
  try dsimp only
  repeat' first
    | with_reducible assumption
    | with_reducible refine modTwin_keeps ?_
    | with_reducible refine busStart_keeps ?_
    | with_reducible refine writeLastRole_keeps ?_

theorem demote_keeps {s0 s : State} (h : Keeps s0 s) : Keeps s0 (demote s) := by
  unfold demote
  try dsimp only
  repeat' first
    | with_reducible assumption
    | with_reducible refine modSched_keeps ?_
    | with_reducible refine modProx_keeps ?_
    | with_reducible refine modTwin_keeps ?_
    | with_reducible refine completeWhere_keeps ?_
    | with_reducible refine setAddr_keeps ?_
    | with_reducible refine busStart_keeps ?_
    | with_reducible refine clearBus_keeps ?_
    | with_reducible refine dropAll_keeps ?_
    | with_reducible refine radioOff_keeps ?_
    | with_reducible refine becomeSolo_keeps ?_
    | with_reducible refine writeLastRole_keeps ?_

theorem execRoleDecision_keeps {s0 s : State} (h : Keeps s0 s) : Answers s0 (execRoleDecision s) := by
  unfold execRoleDecision
  try dsimp only
  repeat' first
    | with_reducible assumption
    | with_reducible refine advanceTo_keeps ?_
    | with_reducible refine settle_keeps ?_
    | with_reducible refine becomeActive_keeps ?_
    | with_reducible refine becomeSiding_keeps ?_
    | with_reducible refine Answers.next ?_
    | with_reducible refine Keeps.ite ?_ ?_
    | with_reducible refine Answers.ite ?_ ?_

theorem destroyCeremony_keeps {s0 s : State} (h : Keeps s0 s) : Keeps s0 (destroyCeremony s) := by
  unfold destroyCeremony
  try dsimp only
  repeat' first
    | with_reducible assumption
    | with_reducible refine destroySlot_keeps ?_
    | with_reducible refine received_keeps ?_
    | with_reducible refine modNv_keeps ?_ (fun _ h => h) (fun _ h => h)
    | with_reducible refine modNv_keeps ?_ (fun _ h => h) (fun _ h => by simpa using h)
    | with_reducible refine Keeps.ite ?_ ?_
    | with_reducible refine Keeps.foldl _ _ (fun _ _ _ => ?_) ?_

theorem endCeremony_keeps {s0 s : State} {status : Nat} (h : Keeps s0 s) : Keeps s0 (endCeremony status s) := by
  unfold endCeremony
  try dsimp only
  repeat' first
    | with_reducible assumption
    | with_reducible refine modTwin_keeps ?_
    | with_reducible refine completeWhere_keeps ?_
    | with_reducible refine linkGoesDown_keeps ?_
    | with_reducible refine destroyCeremony_keeps ?_
    | with_reducible refine Keeps.ite ?_ ?_

theorem failPairing_keeps {s0 s : State} {status : Nat} (h : Keeps s0 s) : Keeps s0 (failPairing status s) := by
  unfold failPairing
  try dsimp only
  repeat' first
    | with_reducible assumption
    | with_reducible refine sendClear_keeps ?_
    | with_reducible refine endCeremony_keeps ?_

theorem execTwinPeerTimeout_keeps {s0 s : State} (h : Keeps s0 s) : Answers s0 (execTwinPeerTimeout s) := by
  unfold execTwinPeerTimeout
  try dsimp only
  repeat' first
    | with_reducible assumption
    | with_reducible refine advanceTo_keeps ?_
    | with_reducible refine settle_keeps ?_
    | with_reducible refine failPairing_keeps ?_
    | with_reducible refine Answers.next ?_
    | with_reducible refine Keeps.ite ?_ ?_
    | with_reducible refine Answers.ite ?_ ?_

theorem sendPairKey_keeps {s0 s : State} {key : List Byte} (h : Keeps s0 s) : Keeps s0 (sendPairKey key s) := by
  unfold sendPairKey
  try dsimp only
  repeat' first
    | with_reducible assumption
    | with_reducible refine modTwin_keeps ?_
    | with_reducible refine used_keeps ?_
    | with_reducible refine sendClear_keeps ?_
    | with_reducible refine signDigest_keeps ?_
    | with_reducible refine Keeps.fst (by assumption) (signDigest_keeps ?_)
    | with_reducible refine makeReport_keeps ?_

theorem takeHello_keeps {s0 s : State} {m : PairHelloMsg} (h : Keeps s0 s) : Keeps s0 (takeHello m s) := by
  unfold takeHello
  try dsimp only
  repeat' first
    | with_reducible assumption
    | with_reducible refine modTwin_keeps ?_
    | with_reducible refine retire_keeps ?_
    | with_reducible refine corruptSlot_keeps ?_
    | with_reducible refine failPairing_keeps ?_
    | with_reducible refine sendPairKey_keeps ?_
    | with_reducible refine Keeps.ite ?_ ?_
    | split

theorem execPairHello_keeps {s0 s : State} {m : PairHelloMsg} (h : Keeps s0 s) : Answers s0 (execPairHello m s) := by
  unfold execPairHello
  try dsimp only
  repeat' first
    | with_reducible assumption
    | with_reducible refine modTwin_keeps ?_
    | with_reducible refine settle_keeps ?_
    | with_reducible refine takeHello_keeps ?_
    | with_reducible refine Answers.next ?_
    | with_reducible refine Keeps.ite ?_ ?_
    | with_reducible refine Answers.ite ?_ ?_

theorem answerEarly_keeps {s0 s : State} (h : Keeps s0 s) : Keeps s0 (answerEarly s) := by
  unfold answerEarly
  try dsimp only
  repeat' first
    | with_reducible assumption
    | with_reducible refine modTwin_keeps ?_
    | with_reducible refine takeHello_keeps ?_
    | with_reducible refine Keeps.ite ?_ ?_
    | split

theorem twinPair_keeps {s0 s : State} {hd : Held} (h : Keeps s0 s) : Keeps s0 (twinPair hd s) := by
  unfold twinPair
  try dsimp only
  repeat' first
    | with_reducible assumption
    | with_reducible refine modTwin_keeps ?_
    | with_reducible refine done_keeps ?_
    | with_reducible refine setKind_keeps ?_
    | with_reducible refine used_keeps ?_
    | with_reducible refine sendClear_keeps ?_
    | with_reducible refine answerEarly_keeps ?_
    | with_reducible refine Keeps.ite ?_ ?_

theorem execTwinPair_keeps {s0 s : State} {ring : Nat} (h : Keeps s0 s) : Answers s0 (execTwinPair ring s) := by
  unfold execTwinPair
  try dsimp only
  repeat' first
    | with_reducible assumption
    | with_reducible refine cmdPlain_keeps (fun _ _ _ => ?_) ?_
    | with_reducible refine twinPair_keeps ?_

theorem execPairKey_keeps {s0 s : State} {m : PairKeyMsg} (h : Keeps s0 s) : Answers s0 (execPairKey m s) := by
  unfold execPairKey
  try dsimp only
  repeat' first
    | with_reducible assumption
    | with_reducible refine modTwin_keeps ?_
    | with_reducible refine retire_keeps ?_
    | with_reducible refine sendClear_keeps ?_
    | with_reducible refine writeSlot_keeps ?_
    | with_reducible refine advanceCounter_keeps ?_
    | with_reducible refine settle_keeps ?_
    | with_reducible refine failPairing_keeps ?_
    | with_reducible refine Answers.next ?_
    | with_reducible refine Keeps.ite ?_ ?_
    | with_reducible refine Answers.ite ?_ ?_
    | split

theorem execPairConfirm_keeps {s0 s : State} {mac : List Byte} (h : Keeps s0 s) : Answers s0 (execPairConfirm mac s) := by
  unfold execPairConfirm
  try dsimp only
  repeat' first
    | with_reducible assumption
    | with_reducible refine modTwin_keeps ?_
    | with_reducible refine settle_keeps ?_
    | with_reducible refine linkAttempt_keeps ?_
    | with_reducible refine endCeremony_keeps ?_
    | with_reducible refine failPairing_keeps ?_
    | with_reducible refine Answers.next ?_
    | with_reducible refine Keeps.ite ?_ ?_
    | with_reducible refine Answers.ite ?_ ?_

theorem sendSnapshot_keeps {s0 s : State} (h : Keeps s0 s) : Keeps s0 (sendSnapshot s) := by
  unfold sendSnapshot
  try dsimp only
  repeat' first
    | with_reducible assumption
    | with_reducible refine modTwin_keeps ?_
    | with_reducible refine sendTwin_keeps ?_

theorem endPairing_keeps {s0 s : State} {role : Nat} (h : Keeps s0 s) : Keeps s0 (endPairing role s) := by
  unfold endPairing
  try dsimp only
  repeat' first
    | with_reducible assumption
    | with_reducible refine modTwin_keeps ?_
    | with_reducible refine completeWhere_keeps ?_
    | with_reducible refine postEvent_keeps ?_
    | with_reducible refine modNv_keeps ?_ (fun _ h => h) (fun _ h => h)

theorem execPairDone_keeps {s0 s : State} (h : Keeps s0 s) : Answers s0 (execPairDone s) := by
  unfold execPairDone
  try dsimp only
  repeat' first
    | with_reducible assumption
    | with_reducible refine modTwin_keeps ?_
    | with_reducible refine settle_keeps ?_
    | with_reducible refine sendBacklog_keeps ?_
    | with_reducible refine sendNotices_keeps ?_
    | with_reducible refine endPairing_keeps ?_
    | with_reducible refine Answers.next ?_
    | with_reducible refine Keeps.ite ?_ ?_
    | with_reducible refine Answers.ite ?_ ?_

theorem dropMirrored_keeps {s0 s : State} (h : Keeps s0 s) : Keeps s0 (dropMirrored s) := by
  unfold dropMirrored
  try dsimp only
  repeat' first
    | with_reducible assumption
    | with_reducible refine modSched_keeps ?_
    | with_reducible refine modRoster_keeps ?_
    | with_reducible refine modIsl_keeps ?_
    | with_reducible refine modPar_keeps ?_
    | with_reducible refine modStaged_keeps ?_
    | with_reducible refine destroySlot_keeps ?_
    | with_reducible refine refreshOwnBlocks_keeps ?_
    | with_reducible refine received_keeps ?_
    | with_reducible refine modNv_keeps ?_ (fun _ h => h) (fun _ h => h)
    | with_reducible refine modNv_keeps ?_ (fun _ h => h) (fun _ h => by simpa using h)
    | with_reducible refine modKeys_keeps ?_ (fun w => by simpa using w.2.2.2.2.1)
    | with_reducible refine modKeys_keeps ?_ (fun w => by simp)
    | with_reducible refine Keeps.ite ?_ ?_
    | with_reducible refine Keeps.foldl _ _ (fun _ _ _ => ?_) ?_

theorem unpairDevice_keeps {s0 s : State} (h : Keeps s0 s) : Keeps s0 (unpairDevice s) := by
  unfold unpairDevice
  try dsimp only
  repeat' first
    | with_reducible assumption
    | with_reducible refine modTwin_keeps ?_
    | with_reducible refine postEvent_keeps ?_
    | with_reducible refine busStart_keeps ?_
    | with_reducible refine destroySlot_keeps ?_
    | with_reducible refine dropAll_keeps ?_
    | with_reducible refine received_keeps ?_
    | with_reducible refine linkGoesDown_keeps ?_
    | with_reducible refine becomeSolo_keeps ?_
    | with_reducible refine radioUp_keeps ?_
    | with_reducible refine dropMirrored_keeps ?_
    | with_reducible refine modNv_keeps ?_ (fun _ h => h) (fun _ h => h)
    | with_reducible refine modNv_keeps ?_ (fun _ h => h) (fun _ h => by simpa using h)
    | with_reducible refine Keeps.ite ?_ ?_

theorem twinUnpair_keeps {s0 s : State} {hd : Held} (h : Keeps s0 s) : Keeps s0 (twinUnpair hd s) := by
  unfold twinUnpair
  try dsimp only
  repeat' first
    | with_reducible assumption
    | with_reducible refine done_keeps ?_
    | with_reducible refine sendTwinUp_keeps ?_
    | with_reducible refine unpairDevice_keeps ?_
    | with_reducible refine Keeps.ite ?_ ?_

theorem execTwinUnpair_keeps {s0 s : State} {ring : Nat} (h : Keeps s0 s) : Answers s0 (execTwinUnpair ring s) := by
  unfold execTwinUnpair
  try dsimp only
  repeat' first
    | with_reducible assumption
    | with_reducible refine cmdPlain_keeps (fun _ _ _ => ?_) ?_
    | with_reducible refine twinUnpair_keeps ?_

theorem execUnpair_keeps {s0 s : State} {hd : FrameHdr} (h : Keeps s0 s) : Answers s0 (execUnpair hd s) := by
  unfold execUnpair
  try dsimp only
  repeat' first
    | with_reducible assumption
    | with_reducible refine settle_keeps ?_
    | with_reducible refine takeWhole_keeps (fun _ _ => ?_) ?_
    | with_reducible refine unpairDevice_keeps ?_
    | with_reducible refine Answers.next ?_
    | with_reducible refine Keeps.ite ?_ ?_

theorem twinResync_keeps {s0 s : State} {hd : Held} (h : Keeps s0 s) : Keeps s0 (twinResync hd s) := by
  unfold twinResync
  try dsimp only
  repeat' first
    | with_reducible assumption
    | with_reducible refine done_keeps ?_
    | with_reducible refine setKind_keeps ?_
    | with_reducible refine sendTwinUp_keeps ?_
    | with_reducible refine requestMaint_keeps ?_
    | with_reducible refine Keeps.ite ?_ ?_

theorem execTwinResync_keeps {s0 s : State} {ring : Nat} (h : Keeps s0 s) : Answers s0 (execTwinResync ring s) := by
  unfold execTwinResync
  try dsimp only
  repeat' first
    | with_reducible assumption
    | with_reducible refine cmdPlain_keeps (fun _ _ _ => ?_) ?_
    | with_reducible refine twinResync_keeps ?_

theorem twinStatus_keeps {s0 s : State} {hd : Held} (h : Keeps s0 s) : Keeps s0 (twinStatus hd s) := by
  unfold twinStatus
  try dsimp only
  repeat' first
    | with_reducible assumption
    | with_reducible refine finish_keeps ?_

theorem execTwinStatus_keeps {s0 s : State} {ring : Nat} (h : Keeps s0 s) : Answers s0 (execTwinStatus ring s) := by
  unfold execTwinStatus
  try dsimp only
  repeat' first
    | with_reducible assumption
    | with_reducible refine cmdPlain_keeps (fun _ _ _ => ?_) ?_
    | with_reducible refine twinStatus_keeps ?_

theorem linkComesUp_keeps {s0 s : State} {peerRole : Nat} (h : Keeps s0 s) : Keeps s0 (linkComesUp peerRole s) := by
  unfold linkComesUp
  try dsimp only
  repeat' first
    | with_reducible assumption
    | with_reducible refine modTwin_keeps ?_
    | with_reducible refine postEvent_keeps ?_
    | with_reducible refine sendTwinUp_keeps ?_
    | with_reducible refine sendBacklog_keeps ?_
    | with_reducible refine sendNotices_keeps ?_
    | with_reducible refine demote_keeps ?_
    | with_reducible refine sendSnapshot_keeps ?_
    | with_reducible refine Keeps.ite ?_ ?_

theorem helloAccepted_keeps {s0 s : State} {hd : FrameHdr} {nonce echo : List Byte} {role lastRole : Nat} (h : Keeps s0 s) : Keeps s0 (helloAccepted hd nonce echo role lastRole s) := by
  unfold helloAccepted
  try dsimp only
  repeat' first
    | with_reducible assumption
    | with_reducible refine modTwin_keeps ?_
    | with_reducible refine sendTwin_keeps ?_
    | with_reducible refine linkGoesDown_keeps ?_
    | with_reducible refine noteFrame_keeps ?_
    | with_reducible refine linkComesUp_keeps ?_
    | with_reducible refine Keeps.ite ?_ ?_

theorem execHello_keeps {s0 s : State} {hd : FrameHdr} {role lastRole : Nat} (h : Keeps s0 s) : Answers s0 (execHello hd role lastRole s) := by
  unfold execHello
  try dsimp only
  repeat' first
    | with_reducible assumption
    | with_reducible refine corruptSlot_keeps ?_
    | with_reducible refine settle_keeps ?_
    | with_reducible refine dropFrame_keeps ?_
    | with_reducible refine helloAccepted_keeps ?_
    | with_reducible refine Answers.next ?_
    | with_reducible refine Keeps.ite ?_ ?_
    | with_reducible refine Answers.ite ?_ ?_
    | split

theorem execHeartbeat_keeps {s0 s : State} {hd : FrameHdr} (h : Keeps s0 s) : Answers s0 (execHeartbeat hd s) := by
  unfold execHeartbeat
  try dsimp only
  repeat' first
    | with_reducible assumption
    | with_reducible refine takeFrame_keeps (fun _ _ => ?_) ?_
    | with_reducible refine Answers.next ?_

theorem execTwinLinkDown_keeps {s0 s : State} (h : Keeps s0 s) : Answers s0 (execTwinLinkDown s) := by
  unfold execTwinLinkDown
  try dsimp only
  repeat' first
    | with_reducible assumption
    | with_reducible refine advanceTo_keeps ?_
    | with_reducible refine linkAttempt_keeps ?_
    | with_reducible refine linkGoesDown_keeps ?_
    | with_reducible refine Answers.next ?_
    | with_reducible refine Keeps.ite ?_ ?_
    | with_reducible refine Answers.ite ?_ ?_

theorem execHeartbeatTimer_keeps {s0 s : State} (h : Keeps s0 s) : Answers s0 (execHeartbeatTimer s) := by
  unfold execHeartbeatTimer
  try dsimp only
  repeat' first
    | with_reducible assumption
    | with_reducible refine modTwin_keeps ?_
    | with_reducible refine advanceTo_keeps ?_
    | with_reducible refine sendTwinUp_keeps ?_
    | with_reducible refine Answers.next ?_
    | with_reducible refine Keeps.ite ?_ ?_
    | with_reducible refine Answers.ite ?_ ?_

theorem mirrorKey_keeps {s0 s : State} {k : Nat} {r : KeyNv} (h : Keeps s0 s) : Keeps s0 (mirrorKey k r s) := by
  unfold mirrorKey
  try dsimp only
  repeat' first
    | with_reducible assumption
    | with_reducible refine modKey_keeps ?_
    | with_reducible refine modKeyNv_keeps ?_

theorem keepOnly_keeps {s0 s : State} {handles slots svcs : List Nat} (h : Keeps s0 s) : Keeps s0 (keepOnly handles slots svcs s) := by
  unfold keepOnly
  try dsimp only
  repeat' first
    | with_reducible assumption
    | with_reducible refine modRoster_keeps ?_
    | with_reducible refine savePinned_keeps ?_
    | with_reducible refine storeSlot_keeps ?_
    | with_reducible refine received_keeps ?_
    | with_reducible refine undefineSvc_keeps ?_
    | with_reducible refine Keeps.ite ?_ ?_
    | with_reducible refine Keeps.foldl _ _ (fun _ _ _ => ?_) ?_

theorem applyRec_keeps {s0 s : State} {r : MirrorRec} (h : Keeps s0 s) : Keeps s0 (applyRec r s) := by
  unfold applyRec
  try dsimp only
  repeat' first
    | with_reducible assumption
    | with_reducible refine modRoster_keeps ?_
    | with_reducible refine modBus_keeps ?_
    | with_reducible refine completeWhere_keeps ?_
    | with_reducible refine savePinned_keeps ?_
    | with_reducible refine defineSvc_keeps ?_
    | with_reducible refine applyParam_keeps ?_
    | with_reducible refine storeSlot_keeps ?_
    | with_reducible refine saveSettings_keeps ?_
    | with_reducible refine paramSave_keeps ?_
    | with_reducible refine svcDefine_keeps ?_
    | with_reducible refine undefineSvc_keeps ?_
    | with_reducible refine svcUndefine_keeps ?_
    | with_reducible refine mirrorKey_keeps ?_
    | with_reducible refine keepOnly_keeps ?_
    | with_reducible refine Keeps.ite ?_ ?_
    | split

theorem applyRecs_keeps {s0 s : State} {recs : List MirrorRec} (h : Keeps s0 s) : Keeps s0 (applyRecs recs s) := by
  unfold applyRecs
  try dsimp only
  repeat' first
    | with_reducible assumption
    | with_reducible refine refreshOwnBlocks_keeps ?_
    | with_reducible refine applyRec_keeps ?_
    | with_reducible refine Keeps.ite ?_ ?_
    | with_reducible refine Keeps.foldl _ _ (fun _ _ _ => ?_) ?_

theorem noteNotice_keeps {s0 s : State} (h : Keeps s0 s) : Keeps s0 (noteNotice s) := by
  unfold noteNotice
  try dsimp only
  repeat' first
    | with_reducible assumption
    | with_reducible refine modPwr_keeps ?_
    | with_reducible refine Keeps.ite ?_ ?_

theorem takeSnapshot_keeps {s0 s : State} {seq : Nat} {recs : List MirrorRec} (h : Keeps s0 s) : Keeps s0 (takeSnapshot seq recs s) := by
  unfold takeSnapshot
  try dsimp only
  repeat' first
    | with_reducible assumption
    | with_reducible refine modTwin_keeps ?_
    | with_reducible refine sendTwin_keeps ?_
    | with_reducible refine sendClear_keeps ?_
    | with_reducible refine demote_keeps ?_
    | with_reducible refine failPairing_keeps ?_
    | with_reducible refine endPairing_keeps ?_
    | with_reducible refine applyRecs_keeps ?_
    | with_reducible refine Keeps.ite ?_ ?_

theorem takeMirror_keeps {s0 s : State} {seq : Nat} {recs : List MirrorRec} (h : Keeps s0 s) : Keeps s0 (takeMirror seq recs s) := by
  unfold takeMirror
  try dsimp only
  repeat' first
    | with_reducible assumption
    | with_reducible refine modTwin_keeps ?_
    | with_reducible refine sendTwinUp_keeps ?_
    | with_reducible refine applyRecs_keeps ?_
    | with_reducible refine Keeps.ite ?_ ?_

theorem execMirror_keeps {s0 s : State} {hd : FrameHdr} {seq : Nat} {recs : List MirrorRec} (h : Keeps s0 s) : Answers s0 (execMirror hd seq recs s) := by
  unfold execMirror
  try dsimp only
  repeat' first
    | with_reducible assumption
    | with_reducible refine settle_keeps ?_
    | with_reducible refine takeWhole_keeps (fun _ _ => ?_) ?_
    | with_reducible refine noteNotice_keeps ?_
    | with_reducible refine takeSnapshot_keeps ?_
    | with_reducible refine takeMirror_keeps ?_
    | with_reducible refine Answers.next ?_
    | with_reducible refine Keeps.ite ?_ ?_

theorem resyncAsked_keeps {s0 s : State} (h : Keeps s0 s) : Keeps s0 (resyncAsked s) := by
  unfold resyncAsked
  try dsimp only
  repeat' first
    | with_reducible assumption
    | with_reducible refine modTwin_keeps ?_
    | with_reducible refine settle_keeps ?_
    | with_reducible refine deviceMaint_keeps ?_

theorem execMirrorAck_keeps {s0 s : State} {hd : FrameHdr} {seq : Nat} (h : Keeps s0 s) : Answers s0 (execMirrorAck hd seq s) := by
  unfold execMirrorAck
  try dsimp only
  repeat' first
    | with_reducible assumption
    | with_reducible refine modTwin_keeps ?_
    | with_reducible refine settle_keeps ?_
    | with_reducible refine endResync_keeps ?_
    | with_reducible refine takeWhole_keeps (fun _ _ => ?_) ?_
    | with_reducible refine releaseUpTo_keeps ?_
    | with_reducible refine resyncAsked_keeps ?_
    | with_reducible refine Answers.next ?_
    | with_reducible refine Keeps.ite ?_ ?_

theorem execNotify_keeps {s0 s : State} {hd : FrameHdr} {out : Nat} (h : Keeps s0 s) : Answers s0 (execNotify hd out s) := by
  unfold execNotify
  try dsimp only
  repeat' first
    | with_reducible assumption
    | with_reducible refine modTwin_keeps ?_
    | with_reducible refine sendTwinUp_keeps ?_
    | with_reducible refine takeWhole_keeps (fun _ _ => ?_) ?_
    | with_reducible refine noteNotice_keeps ?_
    | with_reducible refine Answers.next ?_
    | with_reducible refine Keeps.ite ?_ ?_

theorem execNotifyAck_keeps {s0 s : State} {hd : FrameHdr} {out : Nat} (h : Keeps s0 s) : Answers s0 (execNotifyAck hd out s) := by
  unfold execNotifyAck
  try dsimp only
  repeat' first
    | with_reducible assumption
    | with_reducible refine modLock_keeps ?_
    | with_reducible refine withdrawNotice_keeps ?_
    | with_reducible refine startPulses_keeps ?_
    | with_reducible refine takeWhole_keeps (fun _ _ => ?_) ?_
    | with_reducible refine Answers.next ?_
    | with_reducible refine Keeps.ite ?_ ?_

theorem execDrop_keeps {s0 s : State} {hd : FrameHdr} {out : Nat} (h : Keeps s0 s) : Answers s0 (execDrop hd out s) := by
  unfold execDrop
  try dsimp only
  repeat' first
    | with_reducible assumption
    | with_reducible refine modTwin_keeps ?_
    | with_reducible refine takeWhole_keeps (fun _ _ => ?_) ?_
    | with_reducible refine Answers.next ?_
    | with_reducible refine Keeps.ite ?_ ?_

theorem execNoticeEnd_keeps {s0 s : State} {out : Nat} (h : Keeps s0 s) : Answers s0 (execNoticeEnd out s) := by
  unfold execNoticeEnd
  try dsimp only
  repeat' first
    | with_reducible assumption
    | with_reducible refine modTwin_keeps ?_
    | with_reducible refine advanceTo_keeps ?_
    | with_reducible refine Answers.next ?_
    | with_reducible refine Keeps.ite ?_ ?_
    | with_reducible refine Answers.ite ?_ ?_
    | split

theorem execNoticeTable_keeps {s0 s : State} {hd : FrameHdr} {outs : BitVec 4} (h : Keeps s0 s) : Answers s0 (execNoticeTable hd outs s) := by
  unfold execNoticeTable
  try dsimp only
  repeat' first
    | with_reducible assumption
    | with_reducible refine modTwin_keeps ?_
    | with_reducible refine takeWhole_keeps (fun _ _ => ?_) ?_
    | with_reducible refine Answers.next ?_
    | with_reducible refine Keeps.ite ?_ ?_

theorem execForceLockNotice_keeps {s0 s : State} {hd : FrameHdr} {out : Nat} (h : Keeps s0 s) : Answers s0 (execForceLockNotice hd out s) := by
  unfold execForceLockNotice
  try dsimp only
  repeat' first
    | with_reducible assumption
    | with_reducible refine raiseTwin_keeps ?_
    | with_reducible refine postEvent_keeps ?_
    | with_reducible refine takeWhole_keeps (fun _ _ => ?_) ?_
    | with_reducible refine Answers.next ?_

theorem execSleep_keeps {s0 s : State} {hd : FrameHdr} {target : Nat} (h : Keeps s0 s) : Answers s0 (execSleep hd target s) := by
  unfold execSleep
  try dsimp only
  repeat' first
    | with_reducible assumption
    | with_reducible refine modTwin_keeps ?_
    | with_reducible refine sendTwinUp_keeps ?_
    | with_reducible refine settle_keeps ?_
    | with_reducible refine takeWhole_keeps (fun _ _ => ?_) ?_
    | with_reducible refine becomeSolo_keeps ?_
    | with_reducible refine Answers.next ?_

theorem beginTakeover_keeps {s0 s : State} {cause : Nat} (h : Keeps s0 s) : Keeps s0 (beginTakeover cause s) := by
  unfold beginTakeover
  try dsimp only
  repeat' first
    | with_reducible assumption
    | with_reducible refine modTwin_keeps ?_
    | with_reducible refine used_keeps ?_
    | with_reducible refine failDevice_keeps ?_
    | with_reducible refine Keeps.ite ?_ ?_

theorem execFailedFrame_keeps {s0 s : State} {hd : FrameHdr} {code arg : Half} (h : Keeps s0 s) : Answers s0 (execFailedFrame hd code arg s) := by
  unfold execFailedFrame
  try dsimp only
  repeat' first
    | with_reducible assumption
    | with_reducible refine modTwin_keeps ?_
    | with_reducible refine postEvent_keeps ?_
    | with_reducible refine takeWhole_keeps (fun _ _ => ?_) ?_
    | with_reducible refine beginTakeover_keeps ?_
    | with_reducible refine Answers.next ?_
    | with_reducible refine Keeps.ite ?_ ?_

theorem execTwinHbTimeout_keeps {s0 s : State} (h : Keeps s0 s) : Answers s0 (execTwinHbTimeout s) := by
  unfold execTwinHbTimeout
  try dsimp only
  repeat' first
    | with_reducible assumption
    | with_reducible refine modTwin_keeps ?_
    | with_reducible refine advanceTo_keeps ?_
    | with_reducible refine failDevice_keeps ?_
    | with_reducible refine settle_keeps ?_
    | with_reducible refine becomeSolo_keeps ?_
    | with_reducible refine beginTakeover_keeps ?_
    | with_reducible refine Answers.next ?_
    | with_reducible refine Keeps.ite ?_ ?_
    | with_reducible refine Answers.ite ?_ ?_

theorem execHeartbeatResumed_keeps {s0 s : State} (h : Keeps s0 s) : Answers s0 (execHeartbeatResumed s) := by
  unfold execHeartbeatResumed
  try dsimp only
  repeat' first
    | with_reducible assumption
    | with_reducible refine modTwin_keeps ?_
    | with_reducible refine sendBacklog_keeps ?_
    | with_reducible refine Answers.next ?_
    | with_reducible refine Keeps.ite ?_ ?_
    | with_reducible refine Answers.ite ?_ ?_

theorem execTwinLinkFail_keeps {s0 s : State} (h : Keeps s0 s) : Answers s0 (execTwinLinkFail s) := by
  unfold execTwinLinkFail
  try dsimp only
  repeat' first
    | with_reducible assumption
    | with_reducible refine advanceTo_keeps ?_
    | with_reducible refine failDevice_keeps ?_
    | with_reducible refine Answers.next ?_
    | with_reducible refine Keeps.ite ?_ ?_
    | with_reducible refine Answers.ite ?_ ?_

theorem takeOver_keeps {s0 s : State} {cause : Nat} (h : Keeps s0 s) : Keeps s0 (takeOver cause s) := by
  unfold takeOver
  dsimp only
  refine settle_keeps (becomeActive_keeps (sendTwinUp_keeps (postEvent_keeps (modTwin_keeps (raiseTwin_keeps (modKeys_keeps h fun w => ?_))))))
  simpa using w.2.2.2.2.1

theorem killEchoes_keeps {s0 s : State} {high : BitVec 4} (h : Keeps s0 s) : Keeps s0 (killEchoes high s) := by
  unfold killEchoes
  try dsimp only
  repeat' first
    | with_reducible assumption
    | with_reducible refine modDev_keeps ?_
    | with_reducible refine modTwin_keeps ?_
    | with_reducible refine raiseTwin_keeps ?_
    | with_reducible refine postEvent_keeps ?_
    | with_reducible refine sendTwinUp_keeps ?_
    | with_reducible refine Keeps.ite ?_ ?_
    | with_reducible refine Keeps.foldl _ _ (fun _ _ _ => ?_) ?_

theorem execTakeoverEchoSettled_keeps {s0 s : State} {high : BitVec 4} (h : Keeps s0 s) : Answers s0 (execTakeoverEchoSettled high s) := by
  unfold execTakeoverEchoSettled
  try dsimp only
  repeat' first
    | with_reducible assumption
    | with_reducible refine modDev_keeps ?_
    | with_reducible refine advanceTo_keeps ?_
    | with_reducible refine takeOver_keeps ?_
    | with_reducible refine killEchoes_keeps ?_
    | with_reducible refine Answers.next ?_
    | with_reducible refine Keeps.ite ?_ ?_
    | with_reducible refine Answers.ite ?_ ?_
    | split

theorem execResetReq_keeps {s0 s : State} {hd : FrameHdr} (h : Keeps s0 s) : Answers s0 (execResetReq hd s) := by
  unfold execResetReq
  try dsimp only
  repeat' first
    | with_reducible assumption
    | with_reducible refine resetDevice_keeps ?_
    | with_reducible refine takeFrame_keeps (fun _ _ => ?_) ?_
    | with_reducible refine Answers.next ?_
    | with_reducible refine Keeps.ite ?_ ?_

/-! ## Boot -/

theorem startCounters_keeps {s0 s : State} (h : Keeps s0 s) : Keeps s0 (startCounters s) := by
  unfold startCounters
  try dsimp only
  repeat' first
    | with_reducible assumption
    | with_reducible refine modSec_keeps ?_
    | with_reducible refine setMark_keeps ?_

theorem trialBoot_keeps {s0 s : State} (h : Keeps s0 s) : Keeps s0 (trialBoot s).1 := by
  unfold trialBoot
  try dsimp only
  repeat' first
    | with_reducible assumption
    | with_reducible refine modUpd_keeps ?_
    | with_reducible refine writeBoot_keeps ?_
    | with_reducible refine setStage_keeps ?_
    | with_reducible refine Keeps.ite ?_ ?_
    | split

theorem bootBank_keeps {s0 s : State} (h : Keeps s0 s) : ∀ t, bootBank s = some t → Keeps s0 t.1 := by
  unfold bootBank
  intro t ht
  repeat' first
    | contradiction
    | cases ht
    | split at ht
  repeat' first
    | with_reducible assumption
    | with_reducible refine modUpd_keeps ?_
    | with_reducible refine writeBoot_keeps ?_
    | with_reducible refine setStage_keeps ?_
    | with_reducible refine trialBoot_keeps ?_
    | with_reducible refine Keeps.fst (by assumption) (trialBoot_keeps ?_)
    | with_reducible refine Keeps.ite ?_ ?_

theorem restoreBuffer_keeps {s0 s : State} (h : Keeps s0 s) : Keeps s0 (restoreBuffer s) := by
  unfold restoreBuffer
  try dsimp only
  repeat' first
    | with_reducible assumption
    | with_reducible refine modNv_keeps ?_ (fun _ h => h) (fun _ h => h)

theorem settleImage_keeps {s0 s : State} (h : Keeps s0 s) : Keeps s0 (settleImage s) := by
  unfold settleImage
  try dsimp only
  repeat' first
    | with_reducible assumption
    | with_reducible refine burnSecver_keeps ?_
    | with_reducible refine verifyBody_keeps ?_
    | with_reducible refine Keeps.fst (by assumption) (verifyBody_keeps ?_)
    | with_reducible refine Keeps.ite ?_ ?_

theorem migrate_keeps {s0 s : State} (h : Keeps s0 s) : ∀ t, migrate s = some t → Keeps s0 t := by
  unfold migrate
  dsimp only
  intro t ht
  split at ht
  · cases ht
  · rw [Option.map_eq_some_iff] at ht
    obtain ⟨items, -, rfl⟩ := ht
    exact drawFlash_keeps (modArea_keeps (advanceCounter_keeps h))

theorem revertMigration_keeps {s0 s : State} (h : Keeps s0 s) : Keeps s0 (revertMigration s) := by
  unfold revertMigration
  try dsimp only
  repeat' first
    | with_reducible assumption
    | with_reducible refine writeBoot_keeps ?_
    | with_reducible refine setStage_keeps ?_
    | with_reducible refine resetDevice_keeps ?_
    | with_reducible refine modNv_keeps ?_ (fun _ h => h) (fun _ h => h)

theorem loadSettings_keeps {s0 s : State} (h : Keeps s0 s) : Keeps s0 (loadSettings s) := by
  unfold loadSettings
  try dsimp only
  repeat' first
    | with_reducible assumption
    | with_reducible refine modRoster_keeps ?_
    | with_reducible refine modIsl_keeps ?_
    | with_reducible refine modPar_keeps ?_
    | with_reducible refine defineSaved_keeps ?_
    | with_reducible refine loadItems_keeps ?_
    | with_reducible refine received_keeps ?_
    | with_reducible refine destroyCeremony_keeps ?_
    | with_reducible refine Keeps.ite ?_ ?_

theorem enableSources_keeps {s0 s : State} (h : Keeps s0 s) : Keeps s0 (enableSources s) := by
  unfold enableSources
  try dsimp only
  repeat' first
    | with_reducible assumption
    | with_reducible refine enableSource_keeps ?_
    | with_reducible refine Keeps.ite ?_ ?_
    | with_reducible refine Keeps.foldl _ _ (fun _ _ _ => ?_) ?_

theorem postReverted_keeps {s0 s : State} {cause : Option Nat} (h : Keeps s0 s) : Keeps s0 (postReverted cause s) := by
  unfold postReverted
  try dsimp only
  repeat' first
    | with_reducible assumption
    | with_reducible refine modUpd_keeps ?_
    | with_reducible refine postEvent_keeps ?_
    | with_reducible refine modNv_keeps ?_ (fun _ h => h) (fun _ h => h)
    | with_reducible refine modNv_keeps ?_ (fun _ h => h) (fun _ h => by simpa using h)
    | with_reducible refine Keeps.ite ?_ ?_
    | split

theorem startRole_keeps {s0 s : State} (h : Keeps s0 s) : Keeps s0 (startRole s) := by
  unfold startRole
  try dsimp only
  repeat' first
    | with_reducible assumption
    | with_reducible refine modTwin_keeps ?_
    | with_reducible refine busStart_keeps ?_
    | with_reducible refine linkAttempt_keeps ?_
    | with_reducible refine radioUp_keeps ?_
    | with_reducible refine Keeps.ite ?_ ?_

theorem becomeReady_keeps {s0 s : State} {cause : Option Nat} (h : Keeps s0 s) : Keeps s0 (becomeReady cause s) := by
  unfold becomeReady
  try dsimp only
  repeat' first
    | with_reducible assumption
    | with_reducible refine modDev_keeps ?_
    | with_reducible refine modSec_keeps ?_
    | with_reducible refine modPwr_keeps ?_
    | with_reducible refine modUpd_keeps ?_
    | with_reducible refine modMnt_keeps ?_
    | with_reducible refine used_keeps ?_
    | with_reducible refine takePwrConf_keeps ?_
    | with_reducible refine afterSession_keeps ?_
    | with_reducible refine refreshOwnBlocks_keeps ?_
    | with_reducible refine enableSources_keeps ?_
    | with_reducible refine postReverted_keeps ?_
    | with_reducible refine startRole_keeps ?_

theorem failedRole_keeps {s0 s : State} {f : Nat × Nat} (h : Keeps s0 s) : Keeps s0 (failedRole f s) := by
  unfold failedRole
  try dsimp only
  repeat' first
    | with_reducible assumption
    | with_reducible refine modTwin_keeps ?_
    | with_reducible refine linkAttempt_keeps ?_
    | with_reducible refine Keeps.ite ?_ ?_

theorem bootFailed_keeps {s0 s : State} {f : Nat × Nat} (h : Keeps s0 s) : Keeps s0 (bootFailed f s) := by
  unfold bootFailed
  try dsimp only
  repeat' first
    | with_reducible assumption
    | with_reducible refine modDev_keeps ?_
    | with_reducible refine logFault_keeps ?_
    | with_reducible refine failedRole_keeps ?_

theorem bootOn_keeps {s0 s : State} (h : Keeps s0 s) : Keeps s0 (bootOn s) := by
  unfold bootOn
  try dsimp only
  repeat' first
    | with_reducible assumption
    | with_reducible refine modDev_keeps ?_
    | with_reducible refine retire_keeps ?_
    | with_reducible refine startCounters_keeps ?_
    | with_reducible refine bootBank_keeps ?_ _ (by assumption)
    | with_reducible refine restoreBuffer_keeps ?_
    | with_reducible refine settleImage_keeps ?_
    | with_reducible refine migrate_keeps ?_ _ (by assumption)
    | with_reducible refine revertMigration_keeps ?_
    | with_reducible refine loadSettings_keeps ?_
    | with_reducible refine becomeReady_keeps ?_
    | with_reducible refine bootFailed_keeps ?_
    | with_reducible refine Keeps.ite ?_ ?_
    | split

theorem execBootReady_keeps {s0 s : State} (h : Keeps s0 s) : Answers s0 (execBootReady s) := by
  unfold execBootReady
  try dsimp only
  repeat' first
    | with_reducible assumption
    | with_reducible refine resetDevice_keeps ?_
    | with_reducible refine finishTransition_keeps ?_
    | with_reducible refine bootOn_keeps ?_
    | with_reducible refine Answers.next ?_
    | with_reducible refine Keeps.ite ?_ ?_
    | with_reducible refine Answers.ite ?_ ?_
    | split

/-! ## Chain -/

theorem postChain_keeps {s0 s : State} {op decision : Nat} {via : Via} (h : Keeps s0 s) : Keeps s0 (postChain op decision via s) := by
  unfold postChain
  try dsimp only
  repeat' first
    | with_reducible assumption
    | with_reducible refine postEvent_keeps ?_

theorem takeOffer_keeps {s0 s : State} {via : Via} {pl : List Byte} (h : Keeps s0 s) : Keeps s0 (takeOffer via pl s).1 := by
  unfold takeOffer
  try dsimp only
  repeat' first
    | with_reducible assumption
    | with_reducible refine modUpd_keeps ?_
    | with_reducible refine gather_keeps ?_
    | with_reducible refine postChain_keeps ?_
    | with_reducible refine modNv_keeps ?_ (fun _ h => h) (fun _ h => h)
    | with_reducible refine modNv_keeps ?_ (fun _ h => h) (fun _ h => by simpa using h)
    | with_reducible refine Keeps.ite ?_ ?_

theorem applyUnit_keeps {s0 s : State} {unit : List Byte} (h : Keeps s0 s) : Keeps s0 (applyUnit unit s) := by
  unfold applyUnit
  try dsimp only
  repeat' first
    | with_reducible assumption
    | with_reducible refine modUpd_keeps ?_
    | with_reducible refine gather_keeps ?_
    | with_reducible refine takeHeader_keeps ?_
    | with_reducible refine Keeps.fst (by assumption) (takeHeader_keeps ?_)
    | with_reducible refine addJob_keeps ?_
    | with_reducible refine modNv_keeps ?_ (fun _ h => h) (fun _ h => h)
    | with_reducible refine modNv_keeps ?_ (fun _ h => h) (fun _ h => by simpa using h)
    | with_reducible refine Keeps.ite ?_ ?_
    | split

theorem takeData_keeps {s0 s : State} {pl : List Byte} (h : Keeps s0 s) : Keeps s0 (takeData pl s).1 := by
  unfold takeData
  try dsimp only
  repeat' first
    | with_reducible assumption
    | with_reducible refine modUpd_keeps ?_
    | with_reducible refine gather_keeps ?_
    | with_reducible refine applyUnit_keeps ?_
    | with_reducible refine Keeps.ite ?_ ?_

theorem takeStatus_keeps {s0 s : State} (h : Keeps s0 s) : Keeps s0 (takeStatus s).1 := by
  unfold takeStatus
  try dsimp only
  repeat' first
    | with_reducible assumption

theorem takeWithdraw_keeps {s0 s : State} {via : Via} (h : Keeps s0 s) : Keeps s0 (takeWithdraw via s).1 := by
  unfold takeWithdraw
  try dsimp only
  repeat' first
    | with_reducible assumption
    | with_reducible refine modUpd_keeps ?_
    | with_reducible refine gather_keeps ?_
    | with_reducible refine postChain_keeps ?_
    | with_reducible refine modNv_keeps ?_ (fun _ h => h) (fun _ h => h)

theorem chainOp_keeps {s0 s : State} {via : Via} {op : Nat} {pl : List Byte} (h : Keeps s0 s) : ∀ t, chainOp via op pl s = some t → Keeps s0 t.1 := by
  unfold chainOp
  intro t ht
  repeat' first
    | contradiction
    | cases ht
    | split at ht
  repeat' first
    | with_reducible assumption
    | with_reducible refine takeOffer_keeps ?_
    | with_reducible refine Keeps.fst (by assumption) (takeOffer_keeps ?_)
    | with_reducible refine takeData_keeps ?_
    | with_reducible refine Keeps.fst (by assumption) (takeData_keeps ?_)
    | with_reducible refine takeStatus_keeps ?_
    | with_reducible refine Keeps.fst (by assumption) (takeStatus_keeps ?_)
    | with_reducible refine takeWithdraw_keeps ?_

theorem answerChain_keeps {s0 : State} {via : Via} {op : Nat} {r : State × List Byte} (h : Keeps s0 r.1) : Keeps s0 (answerChain via op r) := by
  unfold answerChain
  split
  · exact h
  · exact sendChain_keeps h

theorem execChainOffer_keeps {s0 s : State} {via : Via} {payload : List Byte} (h : Keeps s0 s) : Answers s0 (execChainOffer via payload s) := by
  unfold execChainOffer
  try dsimp only
  repeat' first
    | with_reducible assumption
    | with_reducible refine takeOffer_keeps ?_
    | with_reducible refine Keeps.fst (by assumption) (takeOffer_keeps ?_)
    | with_reducible refine answerChain_keeps ?_
    | with_reducible refine Answers.next ?_
    | with_reducible refine Keeps.ite ?_ ?_
    | with_reducible refine Answers.ite ?_ ?_

theorem execChainData_keeps {s0 s : State} {via : Via} {payload : List Byte} (h : Keeps s0 s) : Answers s0 (execChainData via payload s) := by
  unfold execChainData
  try dsimp only
  repeat' first
    | with_reducible assumption
    | with_reducible refine takeData_keeps ?_
    | with_reducible refine Keeps.fst (by assumption) (takeData_keeps ?_)
    | with_reducible refine answerChain_keeps ?_
    | with_reducible refine Answers.next ?_
    | with_reducible refine Keeps.ite ?_ ?_
    | with_reducible refine Answers.ite ?_ ?_

theorem execChainStatus_keeps {s0 s : State} {via : Via} (h : Keeps s0 s) : Answers s0 (execChainStatus via s) := by
  unfold execChainStatus
  try dsimp only
  repeat' first
    | with_reducible assumption
    | with_reducible refine takeStatus_keeps ?_
    | with_reducible refine Keeps.fst (by assumption) (takeStatus_keeps ?_)
    | with_reducible refine answerChain_keeps ?_
    | with_reducible refine Answers.next ?_
    | with_reducible refine Keeps.ite ?_ ?_
    | with_reducible refine Answers.ite ?_ ?_

theorem execChainWithdraw_keeps {s0 s : State} {via : Via} (h : Keeps s0 s) : Answers s0 (execChainWithdraw via s) := by
  unfold execChainWithdraw
  try dsimp only
  repeat' first
    | with_reducible assumption
    | with_reducible refine takeWithdraw_keeps ?_
    | with_reducible refine Keeps.fst (by assumption) (takeWithdraw_keeps ?_)
    | with_reducible refine answerChain_keeps ?_
    | with_reducible refine Answers.next ?_
    | with_reducible refine Keeps.ite ?_ ?_
    | with_reducible refine Answers.ite ?_ ?_

/-! ## BusRx -/

theorem noteRx_keeps {s0 s : State} {f : CanFrame} (h : Keeps s0 s) : Keeps s0 (noteRx f s) := by
  unfold noteRx
  try dsimp only
  repeat' first
    | with_reducible assumption
    | with_reducible refine modPwr_keeps ?_
    | with_reducible refine modBus_keeps ?_
    | with_reducible refine Keeps.ite ?_ ?_

theorem postMessage_keeps {s0 s : State} {pgn src dest prio : Nat} {data : List Byte} (h : Keeps s0 s) : Keeps s0 (postMessage pgn src dest prio data s) := by
  unfold postMessage
  try dsimp only
  repeat' first
    | with_reducible assumption
    | with_reducible refine postEvent_keeps ?_

theorem postFrame_keeps {s0 s : State} {f : CanFrame} (h : Keeps s0 s) : Keeps s0 (postFrame f s) := by
  unfold postFrame
  try dsimp only
  repeat' first
    | with_reducible assumption
    | with_reducible refine postEvent_keeps ?_
    | with_reducible refine used_keeps ?_
    | with_reducible refine postMessage_keeps ?_
    | with_reducible refine Keeps.ite ?_ ?_

theorem postListed_keeps {s0 s : State} {f : CanFrame} (h : Keeps s0 s) : Keeps s0 (postListed f s) := by
  unfold postListed
  try dsimp only
  repeat' first
    | with_reducible assumption
    | with_reducible refine postMessage_keeps ?_
    | with_reducible refine Keeps.ite ?_ ?_

theorem takeFrameRx_keeps {s0 s : State} {kind : CanFrame → Bool} {body : CanFrame → State → State} {f : CanFrame}
    (hb : ∀ f s, Keeps s0 s → Keeps s0 (body f s)) (h : Keeps s0 s) : Keeps s0 (takeFrameRx kind body f s) := by
  unfold takeFrameRx
  exact Keeps.ite h (Keeps.ite (postFrame_keeps (noteRx_keeps h)) (Keeps.ite (hb _ _ (noteRx_keeps h)) h))

theorem loseAddress_keeps {s0 s : State} (h : Keeps s0 s) : Keeps s0 (loseAddress s) := by
  unfold loseAddress
  try dsimp only
  repeat' first
    | with_reducible assumption
    | with_reducible refine claimAddress_keeps ?_
    | with_reducible refine cannotClaim_keeps ?_
    | with_reducible refine Keeps.ite ?_ ?_
    | split

theorem takeClaim_keeps {s0 s : State} {f : CanFrame} (h : Keeps s0 s) : Keeps s0 (takeClaim f s) := by
  unfold takeClaim
  try dsimp only
  repeat' first
    | with_reducible assumption
    | with_reducible refine modBus_keeps ?_
    | with_reducible refine claimFrame_keeps ?_
    | with_reducible refine loseAddress_keeps ?_
    | with_reducible refine Keeps.ite ?_ ?_

theorem execAddressClaimRx_keeps {s0 s : State} {f : CanFrame} (h : Keeps s0 s) : Answers s0 (execAddressClaimRx f s) := by
  unfold execAddressClaimRx
  try dsimp only
  repeat' first
    | with_reducible assumption
    | with_reducible refine postListed_keeps ?_
    | with_reducible refine takeFrameRx_keeps (fun _ _ _ => ?_) ?_
    | with_reducible refine takeClaim_keeps ?_
    | with_reducible refine Answers.next ?_

theorem takeCommanded_keeps {s0 s : State} {name : Dword} {addr : Nat} (h : Keeps s0 s) : Keeps s0 (takeCommanded name addr s) := by
  unfold takeCommanded
  try dsimp only
  repeat' first
    | with_reducible assumption
    | with_reducible refine claimAddress_keeps ?_
    | with_reducible refine Keeps.ite ?_ ?_

theorem execCommandedAddressRx_keeps {s0 s : State} {name : Dword} {addr : Nat} (h : Keeps s0 s) : Answers s0 (execCommandedAddressRx name addr s) := by
  unfold execCommandedAddressRx
  try dsimp only
  repeat' first
    | with_reducible assumption
    | with_reducible refine takeCommanded_keeps ?_
    | with_reducible refine Answers.next ?_
    | with_reducible refine Keeps.ite ?_ ?_
    | with_reducible refine Answers.ite ?_ ?_

theorem nack_keeps {s0 s : State} {src pgn : Nat} (h : Keeps s0 s) : Keeps s0 (nack src pgn s) := by
  unfold nack
  try dsimp only
  repeat' first
    | with_reducible assumption
    | with_reducible refine sendPgn_keeps ?_
    | with_reducible refine Keeps.ite ?_ ?_

theorem takeRequest59904_keeps {s0 s : State} {f : CanFrame} (h : Keeps s0 s) : Keeps s0 (takeRequest59904 f s) := by
  unfold takeRequest59904
  try dsimp only
  repeat' first
    | with_reducible assumption
    | with_reducible refine claimFrame_keeps ?_
    | with_reducible refine postMessage_keeps ?_
    | with_reducible refine postListed_keeps ?_
    | with_reducible refine nack_keeps ?_
    | with_reducible refine Keeps.ite ?_ ?_

theorem execBusRequestRx_keeps {s0 s : State} {f : CanFrame} (h : Keeps s0 s) : Answers s0 (execBusRequestRx f s) := by
  unfold execBusRequestRx
  try dsimp only
  repeat' first
    | with_reducible assumption
    | with_reducible refine takeFrameRx_keeps (fun _ _ _ => ?_) ?_
    | with_reducible refine takeRequest59904_keeps ?_
    | with_reducible refine Answers.next ?_

theorem takeChain_keeps {s0 s : State} {src : Nat} {data : List Byte} (h : Keeps s0 s) : Keeps s0 (takeChain src data s) := by
  unfold takeChain
  try dsimp only
  repeat' first
    | with_reducible assumption
    | with_reducible refine chainReply_keeps ?_
    | with_reducible refine chainOp_keeps ?_ _ (by assumption)
    | with_reducible refine answerChain_keeps ?_
    | with_reducible refine Keeps.ite ?_ ?_
    | split

theorem takeMessage_keeps {s0 s : State} {pgn src dest prio : Nat} {data : List Byte} (h : Keeps s0 s) : Keeps s0 (takeMessage pgn src dest prio data s) := by
  unfold takeMessage
  try dsimp only
  repeat' first
    | with_reducible assumption
    | with_reducible refine postMessage_keeps ?_
    | with_reducible refine takeCommanded_keeps ?_
    | with_reducible refine takeChain_keeps ?_
    | with_reducible refine Keeps.ite ?_ ?_

theorem execProprietaryARx_keeps {s0 s : State} {f : CanFrame} (h : Keeps s0 s) : Answers s0 (execProprietaryARx f s) := by
  unfold execProprietaryARx
  try dsimp only
  repeat' first
    | with_reducible assumption
    | with_reducible refine takeFrameRx_keeps (fun _ _ _ => ?_) ?_
    | with_reducible refine takeMessage_keeps ?_
    | with_reducible refine Answers.next ?_
    | with_reducible refine Keeps.ite ?_ ?_

theorem execBusFrameRx_keeps {s0 s : State} {f : CanFrame} (h : Keeps s0 s) : Answers s0 (execBusFrameRx f s) := by
  unfold execBusFrameRx
  try dsimp only
  repeat' first
    | with_reducible assumption
    | with_reducible refine takeFrameRx_keeps (fun _ _ _ => ?_) ?_
    | with_reducible refine takeMessage_keeps ?_
    | with_reducible refine Answers.next ?_
    | with_reducible refine Keeps.ite ?_ ?_

theorem askPackets_keeps {s0 s : State} {id : Nat} (h : Keeps s0 s) : Keeps s0 (askPackets id s) := by
  unfold askPackets
  try dsimp only
  repeat' first
    | with_reducible assumption
    | with_reducible refine modSess_keeps ?_
    | with_reducible refine sendCm_keeps ?_
    | with_reducible refine Keeps.ite ?_ ?_
    | split

theorem openRx_keeps {s0 s : State} {ext bam : Bool} {most : Nat} {f : CanFrame} {pgn total : Nat} (h : Keeps s0 s) : Keeps s0 (openRx ext bam most f pgn total s) := by
  unfold openRx
  try dsimp only
  repeat' first
    | with_reducible assumption
    | with_reducible refine modBus_keeps ?_
    | with_reducible refine sendAbort_keeps ?_
    | with_reducible refine send_keeps ?_
    | with_reducible refine askPackets_keeps ?_
    | with_reducible refine Keeps.ite ?_ ?_

theorem endRx_keeps {s0 s : State} {x : BusSess} {dest : Nat} {data : List Byte} (h : Keeps s0 s) : Keeps s0 (endRx x dest data s) := by
  unfold endRx
  try dsimp only
  repeat' first
    | with_reducible assumption
    | with_reducible refine dropSess_keeps ?_
    | with_reducible refine sendCm_keeps ?_
    | with_reducible refine takeMessage_keeps ?_
    | with_reducible refine Keeps.ite ?_ ?_

theorem refuseRx_keeps {s0 s : State} {x : BusSess} (h : Keeps s0 s) : Keeps s0 (refuseRx x s) := by
  unfold refuseRx
  try dsimp only
  repeat' first
    | with_reducible assumption
    | with_reducible refine modBus_keeps ?_
    | with_reducible refine dropSess_keeps ?_
    | with_reducible refine sendAbort_keeps ?_
    | with_reducible refine Keeps.ite ?_ ?_

theorem takeData7_keeps {s0 s : State} {ext : Bool} {f : CanFrame} (h : Keeps s0 s) : Keeps s0 (takeData7 ext f s) := by
  unfold takeData7
  try dsimp only
  repeat' first
    | with_reducible assumption
    | with_reducible refine modSess_keeps ?_
    | with_reducible refine dropSess_keeps ?_
    | with_reducible refine askPackets_keeps ?_
    | with_reducible refine endRx_keeps ?_
    | with_reducible refine refuseRx_keeps ?_
    | with_reducible refine Keeps.ite ?_ ?_
    | split

theorem sendPackets_keeps {s0 s : State} {x : BusSess} {n k : Nat} (h : Keeps s0 s) : Keeps s0 (sendPackets x n k s) := by
  unfold sendPackets
  try dsimp only
  repeat' first
    | with_reducible assumption
    | with_reducible refine sendPgn_keeps ?_
    | with_reducible refine modSess_keeps ?_
    | with_reducible refine sendCm_keeps ?_
    | with_reducible refine Keeps.ite ?_ ?_
    | with_reducible refine Keeps.foldl _ _ (fun _ _ _ => ?_) ?_

theorem takeCts_keeps {s0 s : State} {ext : Bool} {f : CanFrame} {pgn n k : Nat} (h : Keeps s0 s) : Keeps s0 (takeCts ext f pgn n k s) := by
  unfold takeCts
  try dsimp only
  repeat' first
    | with_reducible assumption
    | with_reducible refine modSess_keeps ?_
    | with_reducible refine sendPackets_keeps ?_
    | with_reducible refine Keeps.ite ?_ ?_
    | split

theorem takeEnd_keeps {s0 s : State} {ext : Bool} {f : CanFrame} {pgn : Nat} (h : Keeps s0 s) : Keeps s0 (takeEnd ext f pgn s) := by
  unfold takeEnd
  try dsimp only
  repeat' first
    | with_reducible assumption
    | with_reducible refine endSend_keeps ?_
    | with_reducible refine Keeps.ite ?_ ?_
    | split

theorem takeAbort_keeps {s0 s : State} {ext : Bool} {f : CanFrame} {pgn : Nat} (h : Keeps s0 s) : Keeps s0 (takeAbort ext f pgn s) := by
  unfold takeAbort
  try dsimp only
  repeat' first
    | with_reducible assumption
    | with_reducible refine dropSess_keeps ?_
    | with_reducible refine endSend_keeps ?_
    | with_reducible refine Keeps.ite ?_ ?_
    | split

theorem takeTpCm_keeps {s0 s : State} {f : CanFrame} (h : Keeps s0 s) : Keeps s0 (takeTpCm f s) := by
  unfold takeTpCm
  try dsimp only
  repeat' first
    | with_reducible assumption
    | with_reducible refine openRx_keeps ?_
    | with_reducible refine takeCts_keeps ?_
    | with_reducible refine takeEnd_keeps ?_
    | with_reducible refine takeAbort_keeps ?_
    | with_reducible refine Keeps.ite ?_ ?_
    | split

theorem takeEtpCm_keeps {s0 s : State} {f : CanFrame} (h : Keeps s0 s) : Keeps s0 (takeEtpCm f s) := by
  unfold takeEtpCm
  try dsimp only
  repeat' first
    | with_reducible assumption
    | with_reducible refine modSess_keeps ?_
    | with_reducible refine openRx_keeps ?_
    | with_reducible refine takeCts_keeps ?_
    | with_reducible refine takeEnd_keeps ?_
    | with_reducible refine takeAbort_keeps ?_
    | with_reducible refine Keeps.ite ?_ ?_
    | split

theorem takeTransport_keeps {s0 s : State} {f : CanFrame} (h : Keeps s0 s) : Keeps s0 (takeTransport f s) := by
  unfold takeTransport
  try dsimp only
  repeat' first
    | with_reducible assumption
    | with_reducible refine takeData7_keeps ?_
    | with_reducible refine takeTpCm_keeps ?_
    | with_reducible refine takeEtpCm_keeps ?_
    | with_reducible refine Keeps.ite ?_ ?_

theorem execTpFrameRx_keeps {s0 s : State} {f : CanFrame} (h : Keeps s0 s) : Answers s0 (execTpFrameRx f s) := by
  unfold execTpFrameRx
  try dsimp only
  repeat' first
    | with_reducible assumption
    | with_reducible refine takeFrameRx_keeps (fun _ _ _ => ?_) ?_
    | with_reducible refine takeTransport_keeps ?_
    | with_reducible refine Answers.next ?_

/-! ## HostPort -/

theorem spiError_keeps {s0 s : State} {bit : Nat} (h : Keeps s0 s) : Keeps s0 (spiError bit s) := by
  unfold spiError
  try dsimp only
  repeat' first
    | with_reducible assumption
    | with_reducible refine modPort_keeps ?_ (fun _ => rfl)

theorem writeRegs_keeps {s0 s : State} {inc : Bool} {a : Nat} {l : List Half} (h : Keeps s0 s) : Keeps s0 (writeRegs inc a l s) := by
  induction l generalizing s a with
  | nil => exact h
  | cons x xs ih => exact ih (regWrite_keeps h)

theorem readRegs_keeps {s0 s : State} {inc : Bool} {n a : Nat} (h : Keeps s0 s) : Keeps s0 (readRegs inc n a s).1 := by
  induction n generalizing s a with
  | zero => exact h
  | succ n ih => exact ih (regRead_keeps h)

theorem writeWin_keeps {s0 s : State} {inc : Bool} {i : Nat} {l : List Half} (h : Keeps s0 s) : Keeps s0 (writeWin inc i l s) := by
  match l with
  | [] => exact h
  | [x] => exact spiError_keeps (Keeps.ite (spiError_keeps h) h)
  | x :: y :: xs => exact writeWin_keeps (l := xs) (Keeps.ite (spiError_keeps h) (hostWriteWord_keeps h))

theorem readWin_keeps {s0 s : State} {inc : Bool} {n i : Nat} (h : Keeps s0 s) : Keeps s0 (readWin inc n i s).1 := by
  match n with
  | 0 => exact h
  | 1 =>
    unfold readWin
    split
    · exact spiError_keeps h
    · exact hostReadWord_keeps h
  | n + 2 =>
    unfold readWin
    refine readWin_keeps (n := n) ?_
    split
    · exact spiError_keeps h
    · exact hostReadWord_keeps h

theorem setMiso_keeps {s0 s : State} {out : List Half} (h : Keeps s0 s) : Keeps s0 (setMiso out s) := by
  unfold setMiso
  try dsimp only
  repeat' first
    | with_reducible assumption
    | with_reducible refine modPort_keeps ?_ (fun _ => rfl)

theorem spiWords_keeps {s0 s : State} {words : List Half} (h : Keeps s0 s) : Keeps s0 (spiWords words s) := by
  unfold spiWords
  try dsimp only
  repeat' first
    | with_reducible assumption
    | with_reducible refine settle_keeps ?_
    | with_reducible refine spiError_keeps ?_
    | with_reducible refine writeRegs_keeps ?_
    | with_reducible refine readRegs_keeps ?_
    | with_reducible refine Keeps.fst (by assumption) (readRegs_keeps ?_)
    | with_reducible refine writeWin_keeps ?_
    | with_reducible refine readWin_keeps ?_
    | with_reducible refine Keeps.fst (by assumption) (readWin_keeps ?_)
    | with_reducible refine setMiso_keeps ?_
    | with_reducible refine Keeps.ite ?_ ?_
    | split

theorem spiRun_keeps {s0 s : State} {words : List Half} (h : Keeps s0 s) : Keeps s0 (spiRun words s) := by
  unfold spiRun
  split
  · exact Keeps.same (setMiso_keeps (spiWords_keeps (wakeEvent_keeps h))) rfl rfl rfl rfl rfl rfl rfl rfl
  · exact h

theorem execSpiRegisterWrite_keeps {s0 s : State} {cmd : Half} {data : List Half} (h : Keeps s0 s) : Answers s0 (execSpiRegisterWrite cmd data s) := by
  unfold execSpiRegisterWrite
  try dsimp only
  repeat' first
    | with_reducible assumption
    | with_reducible refine spiRun_keeps ?_
    | with_reducible refine Answers.next ?_
    | with_reducible refine Keeps.ite ?_ ?_
    | with_reducible refine Answers.ite ?_ ?_

theorem execSpiWindowWrite_keeps {s0 s : State} {cmd index : Half} {data : List Half} (h : Keeps s0 s) : Answers s0 (execSpiWindowWrite cmd index data s) := by
  unfold execSpiWindowWrite
  try dsimp only
  repeat' first
    | with_reducible assumption
    | with_reducible refine spiRun_keeps ?_
    | with_reducible refine Answers.next ?_
    | with_reducible refine Keeps.ite ?_ ?_
    | with_reducible refine Answers.ite ?_ ?_

theorem execSpiWindowRead_keeps {s0 s : State} {cmd index : Half} {words : Nat} (h : Keeps s0 s) : Answers s0 (execSpiWindowRead cmd index words s) := by
  unfold execSpiWindowRead
  try dsimp only
  repeat' first
    | with_reducible assumption
    | with_reducible refine spiRun_keeps ?_
    | with_reducible refine Answers.next ?_
    | with_reducible refine Keeps.ite ?_ ?_
    | with_reducible refine Answers.ite ?_ ?_

theorem execSpiFrameAbort_keeps {s0 s : State} {whole : List Half} {cutBits : Nat} (h : Keeps s0 s) : Answers s0 (execSpiFrameAbort whole cutBits s) := by
  unfold execSpiFrameAbort
  try dsimp only
  repeat' first
    | with_reducible assumption
    | with_reducible refine spiError_keeps ?_
    | with_reducible refine spiRun_keeps ?_
    | with_reducible refine Answers.next ?_
    | with_reducible refine Keeps.ite ?_ ?_
    | with_reducible refine Answers.ite ?_ ?_

theorem writeOne_keeps {s0 s : State} {a v : Nat} (h : Keeps s0 s) : Keeps s0 (writeOne a v s) := by
  unfold writeOne
  try dsimp only
  repeat' first
    | with_reducible assumption
    | with_reducible refine spiRun_keeps ?_

theorem readOne_keeps {s0 s : State} {a : Nat} (h : Keeps s0 s) : Keeps s0 (readOne a s) := by
  unfold readOne
  try dsimp only
  repeat' first
    | with_reducible assumption
    | with_reducible refine spiRun_keeps ?_

theorem execHostReset_keeps {s0 s : State} (h : Keeps s0 s) : Answers s0 (execHostReset s) := by
  unfold execHostReset
  try dsimp only
  repeat' first
    | with_reducible assumption
    | with_reducible refine writeOne_keeps ?_
    | with_reducible refine Answers.next ?_

theorem execDoorbell_keeps {s0 s : State} {ring : Nat} {data : Half} (h : Keeps s0 s) : Answers s0 (execDoorbell ring data s) := by
  unfold execDoorbell
  try dsimp only
  repeat' first
    | with_reducible assumption
    | with_reducible refine writeOne_keeps ?_
    | with_reducible refine Answers.next ?_
    | with_reducible refine Keeps.ite ?_ ?_
    | with_reducible refine Answers.ite ?_ ?_

theorem execTokenViolCountRead_keeps {s0 s : State} (h : Keeps s0 s) : Answers s0 (execTokenViolCountRead s) := by
  unfold execTokenViolCountRead
  try dsimp only
  repeat' first
    | with_reducible assumption
    | with_reducible refine readOne_keeps ?_
    | with_reducible refine Answers.next ?_

theorem execEvtLostRead_keeps {s0 s : State} (h : Keeps s0 s) : Answers s0 (execEvtLostRead s) := by
  unfold execEvtLostRead
  try dsimp only
  repeat' first
    | with_reducible assumption
    | with_reducible refine readOne_keeps ?_
    | with_reducible refine Answers.next ?_

theorem execHeatDeferRead_keeps {s0 s : State} (h : Keeps s0 s) : Answers s0 (execHeatDeferRead s) := by
  unfold execHeatDeferRead
  try dsimp only
  repeat' first
    | with_reducible assumption
    | with_reducible refine readOne_keeps ?_
    | with_reducible refine Answers.next ?_

theorem execTwinLinkErrRead_keeps {s0 s : State} (h : Keeps s0 s) : Answers s0 (execTwinLinkErrRead s) := by
  unfold execTwinLinkErrRead
  try dsimp only
  repeat' first
    | with_reducible assumption
    | with_reducible refine readOne_keeps ?_
    | with_reducible refine Answers.next ?_

theorem execAsleepRegisterRead_keeps {s0 s : State} {addr : Nat} (h : Keeps s0 s) : Answers s0 (execAsleepRegisterRead addr s) := by
  unfold execAsleepRegisterRead
  try dsimp only
  repeat' first
    | with_reducible assumption
    | with_reducible refine readOne_keeps ?_
    | with_reducible refine Answers.next ?_
    | with_reducible refine Keeps.ite ?_ ?_
    | with_reducible refine Answers.ite ?_ ?_

theorem execAngleEnable_keeps {s0 s : State} {src : Nat} (h : Keeps s0 s) : Answers s0 (execAngleEnable src s) := by
  unfold execAngleEnable
  try dsimp only
  repeat' first
    | with_reducible assumption
    | with_reducible refine writeOne_keeps ?_
    | with_reducible refine Answers.next ?_
    | with_reducible refine Keeps.ite ?_ ?_
    | with_reducible refine Answers.ite ?_ ?_

theorem execAngleDisable_keeps {s0 s : State} {src : Nat} (h : Keeps s0 s) : Answers s0 (execAngleDisable src s) := by
  unfold execAngleDisable
  try dsimp only
  repeat' first
    | with_reducible assumption
    | with_reducible refine writeOne_keeps ?_
    | with_reducible refine Answers.next ?_
    | with_reducible refine Keeps.ite ?_ ?_
    | with_reducible refine Answers.ite ?_ ?_

theorem execAngleResync_keeps {s0 s : State} {src : Nat} (h : Keeps s0 s) : Answers s0 (execAngleResync src s) := by
  unfold execAngleResync
  try dsimp only
  repeat' first
    | with_reducible assumption
    | with_reducible refine writeOne_keeps ?_
    | with_reducible refine Answers.next ?_
    | with_reducible refine Keeps.ite ?_ ?_
    | with_reducible refine Answers.ite ?_ ?_

theorem execTmrSwcap_keeps {s0 s : State} {chan : Nat} (h : Keeps s0 s) : Answers s0 (execTmrSwcap chan s) := by
  unfold execTmrSwcap
  try dsimp only
  repeat' first
    | with_reducible assumption
    | with_reducible refine writeOne_keeps ?_
    | with_reducible refine Answers.next ?_
    | with_reducible refine Keeps.ite ?_ ?_
    | with_reducible refine Answers.ite ?_ ?_

theorem execTmrClr_keeps {s0 s : State} {chan : Nat} (h : Keeps s0 s) : Answers s0 (execTmrClr chan s) := by
  unfold execTmrClr
  try dsimp only
  repeat' first
    | with_reducible assumption
    | with_reducible refine writeOne_keeps ?_
    | with_reducible refine Answers.next ?_
    | with_reducible refine Keeps.ite ?_ ?_
    | with_reducible refine Answers.ite ?_ ?_

/-! ## Island -/

theorem tagReplyAt_keeps {s0 s : State} {walk slow : Bool} {body : List Bool} (h : Keeps s0 s) : Keeps s0 (tagReplyAt walk slow body s) := by
  unfold tagReplyAt
  try dsimp only
  repeat' first
    | with_reducible assumption
    | with_reducible refine modIsl_keeps ?_

theorem tagReply_keeps {s0 s : State} {body : List Bool} (h : Keeps s0 s) : Keeps s0 (tagReply body s) := by
  unfold tagReply
  try dsimp only
  repeat' first
    | with_reducible assumption
    | with_reducible refine tagReplyAt_keeps ?_

theorem tagStatus_keeps {s0 s : State} {st : Nat} (h : Keeps s0 s) : Keeps s0 (tagStatus st s) := by
  unfold tagStatus
  try dsimp only
  repeat' first
    | with_reducible assumption
    | with_reducible refine tagReply_keeps ?_

theorem closeSession_keeps {s0 s : State} (h : Keeps s0 s) : Keeps s0 (closeSession s) := by
  unfold closeSession
  try dsimp only
  repeat' first
    | with_reducible assumption
    | with_reducible refine modIsl_keeps ?_
    | with_reducible refine afterSession_keeps ?_

theorem onFrame_keeps {s0 s : State} {code : Nat} {wellSized inRange keeps : List Bool → Bool} {act : List Bool → State → State} {f : AirFrame}
    (hb : ∀ x s, Keeps s0 s → Keeps s0 (act x s)) (h : Keeps s0 s) : Keeps s0 (onFrame code wellSized inRange keeps act f s) := by
  unfold onFrame
  dsimp only
  refine Keeps.ite h (Keeps.ite (closeSession_keeps h) ?_)
  have hm : Keeps s0 (modIsl (fun i => { i with reply := [] }) s) := modIsl_keeps h
  split
  · exact hm
  · exact Keeps.ite (hb _ _ (Keeps.ite hm (modIsl_keeps hm))) hm

theorem onHandle_keeps {s0 s : State} {code : Nat} {wellSized : List Bool → Bool} {act : List Bool → State → State} {f : AirFrame}
    (hb : ∀ x s, Keeps s0 s → Keeps s0 (act x s)) (h : Keeps s0 s) : Keeps s0 (onHandle code wellSized act f s) :=
  onFrame_keeps (fun _ _ hs => Keeps.ite (hb _ _ hs) hs) h

theorem setWalkMark_keeps {s0 s : State} {m : Bool} (h : Keeps s0 s) : Keeps s0 (setWalkMark m s) := by
  unfold setWalkMark
  try dsimp only
  repeat' first
    | with_reducible assumption
    | with_reducible refine modIsl_keeps ?_

theorem execInvWalk_keeps {s0 s : State} {f : AirFrame} (h : Keeps s0 s) : Answers s0 (execInvWalk f s) := by
  unfold execInvWalk
  try dsimp only
  repeat' first
    | with_reducible assumption
    | with_reducible refine modIsl_keeps ?_
    | with_reducible refine tagReplyAt_keeps ?_
    | with_reducible refine onFrame_keeps (fun _ _ _ => ?_) ?_
    | with_reducible refine setWalkMark_keeps ?_
    | with_reducible refine Answers.next ?_
    | with_reducible refine Keeps.ite ?_ ?_

theorem execInvAssign_keeps {s0 s : State} {f : AirFrame} (h : Keeps s0 s) : Answers s0 (execInvAssign f s) := by
  unfold execInvAssign
  try dsimp only
  repeat' first
    | with_reducible assumption
    | with_reducible refine modIsl_keeps ?_
    | with_reducible refine tagReply_keeps ?_
    | with_reducible refine onFrame_keeps (fun _ _ _ => ?_) ?_
    | with_reducible refine Answers.next ?_
    | with_reducible refine Keeps.ite ?_ ?_

theorem execQuiet_keeps {s0 s : State} {f : AirFrame} (h : Keeps s0 s) : Answers s0 (execQuiet f s) := by
  unfold execQuiet
  try dsimp only
  repeat' first
    | with_reducible assumption
    | with_reducible refine modIsl_keeps ?_
    | with_reducible refine tagStatus_keeps ?_
    | with_reducible refine onFrame_keeps (fun _ _ _ => ?_) ?_
    | with_reducible refine Answers.next ?_
    | with_reducible refine Keeps.ite ?_ ?_

theorem execResetAll_keeps {s0 s : State} {f : AirFrame} (h : Keeps s0 s) : Answers s0 (execResetAll f s) := by
  unfold execResetAll
  try dsimp only
  repeat' first
    | with_reducible assumption
    | with_reducible refine modIsl_keeps ?_
    | with_reducible refine onFrame_keeps (fun _ _ _ => ?_) ?_
    | with_reducible refine Answers.next ?_

theorem acceptSecure_keeps {s0 s : State} {frame reply : List Bool} (h : Keeps s0 s) : Keeps s0 (acceptSecure frame reply s) := by
  unfold acceptSecure
  try dsimp only
  repeat' first
    | with_reducible assumption
    | with_reducible refine modIsl_keeps ?_

theorem onSecure_keeps {s0 s : State} {frame : List Bool} {req : List Byte} {mac : Word} {act : State → State × Nat × List Byte}
    (hb : ∀ s, Keeps s0 s → Keeps s0 (act s).1) (h : Keeps s0 s) : Keeps s0 (onSecure frame req mac act s) := by
  unfold onSecure
  dsimp only
  refine Keeps.ite (tagStatus_keeps h) (Keeps.ite (tagReply_keeps (acceptSecure_keeps (hb _ h))) (Keeps.ite (Keeps.ite ?_ ?_) ?_))
  · exact tagReply_keeps h
  · exact tagStatus_keeps h
  · exact tagStatus_keeps h

theorem execRead_keeps {s0 s : State} {f : AirFrame} (h : Keeps s0 s) : Answers s0 (execRead f s) := by
  unfold execRead
  try dsimp only
  repeat' first
    | with_reducible assumption
    | with_reducible refine tagReply_keeps ?_
    | with_reducible refine tagStatus_keeps ?_
    | with_reducible refine onHandle_keeps (fun _ _ _ => ?_) ?_
    | with_reducible refine acceptSecure_keeps ?_
    | with_reducible refine Answers.next ?_
    | with_reducible refine Keeps.ite ?_ ?_

theorem fieldWrite_keeps {s0 s : State} {blk : Nat} {data : Word} (h : Keeps s0 s) : Keeps s0 (fieldWrite blk data s).1 := by
  unfold fieldWrite
  try dsimp only
  repeat' first
    | with_reducible assumption
    | with_reducible refine modIsl_keeps ?_
    | with_reducible refine Keeps.ite ?_ ?_
    | split

theorem islandSupply_keeps {s0 s : State} (h : Keeps s0 s) : Keeps s0 (islandSupply s) := by
  unfold islandSupply
  try dsimp only
  repeat' first
    | with_reducible assumption
    | with_reducible refine modIsl_keeps ?_
    | with_reducible refine closeSession_keeps ?_
    | with_reducible refine Keeps.ite ?_ ?_

theorem execWrite_keeps {s0 s : State} {f : AirFrame} {reservoirMv : Nat} (h : Keeps s0 s) : Answers s0 (execWrite f reservoirMv s) := by
  unfold execWrite
  try dsimp only
  repeat' first
    | with_reducible assumption
    | with_reducible refine modIsl_keeps ?_
    | with_reducible refine tagStatus_keeps ?_
    | with_reducible refine onHandle_keeps (fun _ _ _ => ?_) ?_
    | with_reducible refine onSecure_keeps (fun _ _ => ?_) ?_
    | with_reducible refine fieldWrite_keeps ?_
    | with_reducible refine Keeps.fst (by assumption) (fieldWrite_keeps ?_)
    | with_reducible refine islandSupply_keeps ?_
    | with_reducible refine Answers.next ?_
    | with_reducible refine Keeps.ite ?_ ?_

theorem answerChallenge_keeps {s0 s : State} {rb : Word} {handle : Nat} (h : Keeps s0 s) : Keeps s0 (answerChallenge rb handle s) := by
  unfold answerChallenge
  try dsimp only
  repeat' first
    | with_reducible assumption
    | with_reducible refine modIsl_keeps ?_
    | with_reducible refine used_keeps ?_
    | with_reducible refine tagReply_keeps ?_

theorem execAuth1_keeps {s0 s : State} {f : AirFrame} (h : Keeps s0 s) : Answers s0 (execAuth1 f s) := by
  unfold execAuth1
  try dsimp only
  repeat' first
    | with_reducible assumption
    | with_reducible refine onHandle_keeps (fun _ _ _ => ?_) ?_
    | with_reducible refine answerChallenge_keeps ?_
    | with_reducible refine Answers.next ?_
    | with_reducible refine Keeps.ite ?_ ?_

theorem execAuth1u_keeps {s0 s : State} {f : AirFrame} (h : Keeps s0 s) : Answers s0 (execAuth1u f s) := by
  unfold execAuth1u
  try dsimp only
  repeat' first
    | with_reducible assumption
    | with_reducible refine modIsl_keeps ?_
    | with_reducible refine onFrame_keeps (fun _ _ _ => ?_) ?_
    | with_reducible refine answerChallenge_keeps ?_
    | with_reducible refine Answers.next ?_
    | with_reducible refine Keeps.ite ?_ ?_

theorem execAuth2_keeps {s0 s : State} {f : AirFrame} (h : Keeps s0 s) : Answers s0 (execAuth2 f s) := by
  unfold execAuth2
  try dsimp only
  repeat' first
    | with_reducible assumption
    | with_reducible refine modIsl_keeps ?_
    | with_reducible refine tagStatus_keeps ?_
    | with_reducible refine onFrame_keeps (fun _ _ _ => ?_) ?_
    | with_reducible refine Answers.next ?_
    | with_reducible refine Keeps.ite ?_ ?_

theorem execHStatus_keeps {s0 s : State} {f : AirFrame} (h : Keeps s0 s) : Answers s0 (execHStatus f s) := by
  unfold execHStatus
  try dsimp only
  repeat' first
    | with_reducible assumption
    | with_reducible refine tagReply_keeps ?_
    | with_reducible refine onHandle_keeps (fun _ _ _ => ?_) ?_
    | with_reducible refine Answers.next ?_

theorem hitchChain_keeps {s0 s : State} {op : Nat} {pl : List Byte} (h : Keeps s0 s) : Keeps s0 (hitchChain op pl s).1 := by
  unfold hitchChain
  try dsimp only
  repeat' first
    | with_reducible assumption
    | with_reducible refine chainOp_keeps ?_ _ (by assumption)
    | with_reducible refine Keeps.ite ?_ ?_
    | split

theorem execHChain_keeps {s0 s : State} {f : AirFrame} (h : Keeps s0 s) : Answers s0 (execHChain f s) := by
  unfold execHChain
  try dsimp only
  repeat' first
    | with_reducible assumption
    | with_reducible refine onHandle_keeps (fun _ _ _ => ?_) ?_
    | with_reducible refine onSecure_keeps (fun _ _ => ?_) ?_
    | with_reducible refine hitchChain_keeps ?_
    | with_reducible refine Keeps.fst (by assumption) (hitchChain_keeps ?_)
    | with_reducible refine Answers.next ?_
    | with_reducible refine Keeps.ite ?_ ?_
    | with_reducible refine Answers.ite ?_ ?_
    | split

theorem execHitchFieldRise_keeps {s0 s : State} {reservoirMv : Nat} (h : Keeps s0 s) : Answers s0 (execHitchFieldRise reservoirMv s) := by
  unfold execHitchFieldRise
  try dsimp only
  repeat' first
    | with_reducible assumption
    | with_reducible refine modIsl_keeps ?_
    | with_reducible refine captureTrig_keeps ?_
    | with_reducible refine Answers.next ?_
    | with_reducible refine Keeps.ite ?_ ?_

theorem openSession_keeps {s0 s : State} (h : Keeps s0 s) : Keeps s0 (openSession s) := by
  unfold openSession
  try dsimp only
  repeat' first
    | with_reducible assumption
    | with_reducible refine modIsl_keeps ?_
    | with_reducible refine stageRest_keeps ?_

theorem execHitchLead_keeps {s0 s : State} {cyc : Nat} (h : Keeps s0 s) : Answers s0 (execHitchLead cyc s) := by
  unfold execHitchLead
  try dsimp only
  repeat' first
    | with_reducible assumption
    | with_reducible refine wakeEvent_keeps ?_
    | with_reducible refine openSession_keeps ?_
    | with_reducible refine Answers.next ?_
    | with_reducible refine Keeps.ite ?_ ?_
    | with_reducible refine Answers.ite ?_ ?_

theorem execHitchFieldLoss_keeps {s0 s : State} (h : Keeps s0 s) : Answers s0 (execHitchFieldLoss s) := by
  unfold execHitchFieldLoss
  try dsimp only
  repeat' first
    | with_reducible assumption
    | with_reducible refine modIsl_keeps ?_
    | with_reducible refine closeSession_keeps ?_
    | with_reducible refine Answers.next ?_
    | with_reducible refine Keeps.ite ?_ ?_
    | with_reducible refine Answers.ite ?_ ?_

theorem execIslandBrownout_keeps {s0 s : State} {reservoirMv : Nat} (h : Keeps s0 s) : Answers s0 (execIslandBrownout reservoirMv s) := by
  unfold execIslandBrownout
  try dsimp only
  repeat' first
    | with_reducible assumption
    | with_reducible refine modIsl_keeps ?_
    | with_reducible refine islandSupply_keeps ?_
    | with_reducible refine Answers.next ?_

theorem execWakePattern_keeps {s0 s : State} {f : AirFrame} (h : Keeps s0 s) : Answers s0 (execWakePattern f s) := by
  unfold execWakePattern
  try dsimp only
  repeat' first
    | with_reducible assumption
    | with_reducible refine modIsl_keeps ?_
    | with_reducible refine wakeEvent_keeps ?_
    | with_reducible refine closeSession_keeps ?_
    | with_reducible refine Answers.next ?_
    | with_reducible refine Keeps.ite ?_ ?_
    | with_reducible refine Answers.ite ?_ ?_

/-! ## KeyTimers -/

theorem execSessionLapse_keeps {s0 s : State} {slot : Nat} (h : Keeps s0 s) : Answers s0 (execSessionLapse slot s) := by
  unfold execSessionLapse
  try dsimp only
  repeat' first
    | with_reducible assumption
    | with_reducible refine advanceTo_keeps ?_
    | with_reducible refine toAway_keeps ?_
    | with_reducible refine decideAll_keeps ?_
    | with_reducible refine checkHolds_keeps ?_
    | with_reducible refine Answers.next ?_
    | with_reducible refine Keeps.ite ?_ ?_
    | with_reducible refine Answers.ite ?_ ?_
    | split

theorem dropEnrolDemand_keeps {s0 s : State} {uid : Dword} (h : Keeps s0 s) : Keeps s0 (dropEnrolDemand uid s) := by
  unfold dropEnrolDemand
  try dsimp only
  repeat' first
    | with_reducible assumption
    | with_reducible refine modSched_keeps ?_
    | with_reducible refine Keeps.ite ?_ ?_

theorem execKeyEnrolProofTimeout_keeps {s0 s : State} (h : Keeps s0 s) : Answers s0 (execKeyEnrolProofTimeout s) := by
  unfold execKeyEnrolProofTimeout
  try dsimp only
  repeat' first
    | with_reducible assumption
    | with_reducible refine done_keeps ?_
    | with_reducible refine advanceTo_keeps ?_
    | with_reducible refine dropEnrolDemand_keeps ?_
    | with_reducible refine Answers.next ?_
    | with_reducible refine Keeps.ite ?_ ?_
    | with_reducible refine Answers.ite ?_ ?_
    | split

theorem execConfirmDemand_keeps {s0 s : State} {out : Nat} (h : Keeps s0 s) : Answers s0 (execConfirmDemand out s) := by
  unfold execConfirmDemand
  try dsimp only
  repeat' first
    | with_reducible assumption
    | with_reducible refine advanceTo_keeps ?_
    | with_reducible refine raiseDemand_keeps ?_
    | with_reducible refine Answers.next ?_
    | with_reducible refine Keeps.ite ?_ ?_
    | with_reducible refine Answers.ite ?_ ?_

theorem execConfirmHoldLapse_keeps {s0 s : State} {out : Nat} (h : Keeps s0 s) : Answers s0 (execConfirmHoldLapse out s) := by
  unfold execConfirmHoldLapse
  try dsimp only
  repeat' first
    | with_reducible assumption
    | with_reducible refine modLock_keeps ?_
    | with_reducible refine advanceTo_keeps ?_
    | with_reducible refine dropOutput_keeps ?_
    | with_reducible refine Answers.next ?_
    | with_reducible refine Keeps.ite ?_ ?_
    | with_reducible refine Answers.ite ?_ ?_
    | split

theorem execNotifyTimeout_keeps {s0 s : State} {out : Nat} (h : Keeps s0 s) : Answers s0 (execNotifyTimeout out s) := by
  unfold execNotifyTimeout
  try dsimp only
  repeat' first
    | with_reducible assumption
    | with_reducible refine advanceTo_keeps ?_
    | with_reducible refine withdrawNotice_keeps ?_
    | with_reducible refine Answers.next ?_
    | with_reducible refine Keeps.ite ?_ ?_
    | with_reducible refine Answers.ite ?_ ?_

theorem execLockRequestTimeout_keeps {s0 s : State} {out : Nat} (h : Keeps s0 s) : Answers s0 (execLockRequestTimeout out s) := by
  unfold execLockRequestTimeout
  try dsimp only
  repeat' first
    | with_reducible assumption
    | with_reducible refine advanceTo_keeps ?_
    | with_reducible refine completeRequests_keeps ?_
    | with_reducible refine decideAll_keeps ?_
    | with_reducible refine Answers.next ?_
    | with_reducible refine Keeps.ite ?_ ?_
    | with_reducible refine Answers.ite ?_ ?_
    | split

theorem execIlkCharged_keeps {s0 s : State} {out : Nat} (h : Keeps s0 s) : Answers s0 (execIlkCharged out s) := by
  unfold execIlkCharged
  try dsimp only
  repeat' first
    | with_reducible assumption
    | with_reducible refine advanceTo_keeps ?_
    | with_reducible refine releaseOutput_keeps ?_
    | with_reducible refine checkHolds_keeps ?_
    | with_reducible refine Answers.next ?_
    | with_reducible refine Keeps.ite ?_ ?_
    | with_reducible refine Answers.ite ?_ ?_
    | split

theorem execIlkEchoMissing_keeps {s0 s : State} {out : Nat} (h : Keeps s0 s) : Answers s0 (execIlkEchoMissing out s) := by
  unfold execIlkEchoMissing
  try dsimp only
  repeat' first
    | with_reducible assumption
    | with_reducible refine advanceTo_keeps ?_
    | with_reducible refine readbackFault_keeps ?_
    | with_reducible refine Answers.next ?_
    | with_reducible refine Keeps.ite ?_ ?_
    | with_reducible refine Answers.ite ?_ ?_
    | split

theorem execIlkEchoWhileLocked_keeps {s0 s : State} {out : Nat} (h : Keeps s0 s) : Answers s0 (execIlkEchoWhileLocked out s) := by
  unfold execIlkEchoWhileLocked
  try dsimp only
  repeat' first
    | with_reducible assumption
    | with_reducible refine modDev_keeps ?_
    | with_reducible refine modTwin_keeps ?_
    | with_reducible refine raiseTwin_keeps ?_
    | with_reducible refine postEvent_keeps ?_
    | with_reducible refine sendTwinUp_keeps ?_
    | with_reducible refine readbackFault_keeps ?_
    | with_reducible refine Answers.next ?_
    | with_reducible refine Keeps.ite ?_ ?_
    | with_reducible refine Answers.ite ?_ ?_

theorem execForceLockRelease_keeps {s0 s : State} (h : Keeps s0 s) : Answers s0 (execForceLockRelease s) := by
  unfold execForceLockRelease
  try dsimp only
  repeat' first
    | with_reducible assumption
    | with_reducible refine modDev_keeps ?_
    | with_reducible refine Answers.next ?_
    | with_reducible refine Keeps.ite ?_ ?_
    | with_reducible refine Answers.ite ?_ ?_

/-! ## Supply -/

theorem supplyIsland_keeps {s0 s : State} (h : Keeps s0 s) : Keeps s0 (supplyIsland s) := by
  unfold supplyIsland
  try dsimp only
  repeat' first
    | with_reducible assumption
    | with_reducible refine modIsl_keeps ?_

theorem execPowerOn_keeps {s0 s : State} {vbatMv vioMv : Nat} {defects : BitVec 12} (h : Keeps s0 s) : Answers s0 (execPowerOn vbatMv vioMv defects s) := by
  unfold execPowerOn
  try dsimp only
  repeat' first
    | with_reducible assumption
    | with_reducible refine modDev_keeps ?_
    | with_reducible refine resetDevice_keeps ?_
    | with_reducible refine supplyIsland_keeps ?_
    | with_reducible refine Answers.next ?_
    | with_reducible refine Keeps.ite ?_ ?_
    | with_reducible refine Answers.ite ?_ ?_
    | split

theorem goDown_keeps {s0 s : State} {m : Mode} (h : Keeps s0 s) : Keeps s0 (goDown m s) := by
  unfold goDown
  try dsimp only
  repeat' first
    | with_reducible assumption
    | with_reducible refine modDev_keeps ?_
    | with_reducible refine resetDevice_keeps ?_

theorem execVbatFall_keeps {s0 s : State} (h : Keeps s0 s) : Answers s0 (execVbatFall s) := by
  unfold execVbatFall
  try dsimp only
  repeat' first
    | with_reducible assumption
    | with_reducible refine locksStatic_keeps ?_
    | with_reducible refine islandSupply_keeps ?_
    | with_reducible refine goDown_keeps ?_
    | with_reducible refine Answers.next ?_
    | with_reducible refine Keeps.ite ?_ ?_
    | with_reducible refine Answers.ite ?_ ?_

theorem execVioFall_keeps {s0 s : State} (h : Keeps s0 s) : Answers s0 (execVioFall s) := by
  unfold execVioFall
  try dsimp only
  repeat' first
    | with_reducible assumption
    | with_reducible refine modDev_keeps ?_
    | with_reducible refine locksStatic_keeps ?_
    | with_reducible refine resetDevice_keeps ?_
    | with_reducible refine Answers.next ?_
    | with_reducible refine Keeps.ite ?_ ?_
    | with_reducible refine Answers.ite ?_ ?_

theorem execBrownout_keeps {s0 s : State} {vbatMv : Nat} (h : Keeps s0 s) : Answers s0 (execBrownout vbatMv s) := by
  unfold execBrownout
  try dsimp only
  repeat' first
    | with_reducible assumption
    | with_reducible refine modPwr_keeps ?_
    | with_reducible refine raise_keeps ?_
    | with_reducible refine setVbat_keeps ?_
    | with_reducible refine Answers.next ?_
    | with_reducible refine Keeps.ite ?_ ?_
    | with_reducible refine Answers.ite ?_ ?_

theorem execVbatHigh_keeps {s0 s : State} {vbatMv : Nat} (h : Keeps s0 s) : Answers s0 (execVbatHigh vbatMv s) := by
  unfold execVbatHigh
  try dsimp only
  repeat' first
    | with_reducible assumption
    | with_reducible refine modPwr_keeps ?_
    | with_reducible refine raise_keeps ?_
    | with_reducible refine setVbat_keeps ?_
    | with_reducible refine Answers.next ?_
    | with_reducible refine Keeps.ite ?_ ?_
    | with_reducible refine Answers.ite ?_ ?_

theorem execRstNPulse_keeps {s0 s : State} {lowNs : Nat} (h : Keeps s0 s) : Answers s0 (execRstNPulse lowNs s) := by
  unfold execRstNPulse
  try dsimp only
  repeat' first
    | with_reducible assumption
    | with_reducible refine locksStatic_keeps ?_
    | with_reducible refine resetDevice_keeps ?_
    | with_reducible refine Answers.next ?_
    | with_reducible refine Keeps.ite ?_ ?_
    | with_reducible refine Answers.ite ?_ ?_

theorem execWatchdogExpiry_keeps {s0 s : State} (h : Keeps s0 s) : Answers s0 (execWatchdogExpiry s) := by
  unfold execWatchdogExpiry
  try dsimp only
  repeat' first
    | with_reducible assumption
    | with_reducible refine locksStatic_keeps ?_
    | with_reducible refine watchdogReset_keeps ?_
    | with_reducible refine Answers.next ?_
    | with_reducible refine Keeps.ite ?_ ?_
    | with_reducible refine Answers.ite ?_ ?_

theorem execTrngHealthFailure_keeps {s0 s : State} {test : Nat} (h : Keeps s0 s) : Answers s0 (execTrngHealthFailure test s) := by
  unfold execTrngHealthFailure
  try dsimp only
  repeat' first
    | with_reducible assumption
    | with_reducible refine modSec_keeps ?_
    | with_reducible refine failDevice_keeps ?_
    | with_reducible refine Answers.next ?_
    | with_reducible refine Keeps.ite ?_ ?_
    | with_reducible refine Answers.ite ?_ ?_

theorem execCoreUndervoltage_keeps {s0 s : State} (h : Keeps s0 s) : Answers s0 (execCoreUndervoltage s) := by
  unfold execCoreUndervoltage
  try dsimp only
  repeat' first
    | with_reducible assumption
    | with_reducible refine failDevice_keeps ?_
    | with_reducible refine Answers.next ?_

theorem execEccError_keeps {s0 s : State} {region : Nat} (h : Keeps s0 s) : Answers s0 (execEccError region s) := by
  unfold execEccError
  try dsimp only
  repeat' first
    | with_reducible assumption
    | with_reducible refine failDevice_keeps ?_
    | with_reducible refine Answers.next ?_
    | with_reducible refine Keeps.ite ?_ ?_
    | with_reducible refine Answers.ite ?_ ?_

theorem execEccCorrected_keeps {s0 s : State} {region : Nat} (h : Keeps s0 s) : Answers s0 (execEccCorrected region s) := by
  unfold execEccCorrected
  try dsimp only
  repeat' first
    | with_reducible assumption
    | with_reducible refine modDev_keeps ?_
    | with_reducible refine postEvent_keeps ?_
    | with_reducible refine Answers.next ?_
    | with_reducible refine Keeps.ite ?_ ?_
    | with_reducible refine Answers.ite ?_ ?_

theorem execOvertempFail_keeps {s0 s : State} (h : Keeps s0 s) : Answers s0 (execOvertempFail s) := by
  unfold execOvertempFail
  try dsimp only
  repeat' first
    | with_reducible assumption
    | with_reducible refine failDevice_keeps ?_
    | with_reducible refine Answers.next ?_
    | with_reducible refine Keeps.ite ?_ ?_
    | with_reducible refine Answers.ite ?_ ?_

theorem execBridgeFaultTest_keeps {s0 s : State} {line : Nat} {switchFails : Bool} (h : Keeps s0 s) : Answers s0 (execBridgeFaultTest line switchFails s) := by
  unfold execBridgeFaultTest
  try dsimp only
  repeat' first
    | with_reducible assumption
    | with_reducible refine failDevice_keeps ?_
    | with_reducible refine Answers.next ?_
    | with_reducible refine Keeps.ite ?_ ?_
    | with_reducible refine Answers.ite ?_ ?_

theorem execPeriodicSelftest_keeps {s0 s : State} {failed : Bool} (h : Keeps s0 s) : Answers s0 (execPeriodicSelftest failed s) := by
  unfold execPeriodicSelftest
  try dsimp only
  repeat' first
    | with_reducible assumption
    | with_reducible refine modDev_keeps ?_
    | with_reducible refine advanceTo_keeps ?_
    | with_reducible refine failDevice_keeps ?_
    | with_reducible refine Answers.next ?_
    | with_reducible refine Keeps.ite ?_ ?_
    | with_reducible refine Answers.ite ?_ ?_

/-! ## UpdCmds -/

theorem updHeader_keeps {s0 s : State} {hd : Held} (h : Keeps s0 s) : Keeps s0 (updHeader hd s) := by
  unfold updHeader
  try dsimp only
  repeat' first
    | with_reducible assumption
    | with_reducible refine inTurn_keeps (fun _ _ _ => ?_) ?_
    | with_reducible refine headerSigned_keeps ?_

theorem execUpdHeader_keeps {s0 s : State} {ring : Nat} (h : Keeps s0 s) : Answers s0 (execUpdHeader ring s) := by
  unfold execUpdHeader
  try dsimp only
  repeat' first
    | with_reducible assumption
    | with_reducible refine cmdBuf_keeps (fun _ _ _ => ?_) ?_
    | with_reducible refine updHeader_keeps ?_

theorem updPiece_keeps {s0 s : State} {hd : Held} (h : Keeps s0 s) : Keeps s0 (updPiece hd s) := by
  unfold updPiece
  try dsimp only
  repeat' first
    | with_reducible assumption
    | with_reducible refine done1_keeps ?_
    | with_reducible refine submitJob_keeps ?_
    | with_reducible refine Keeps.ite ?_ ?_
    | split

theorem execUpdPiece_keeps {s0 s : State} {ring : Nat} (h : Keeps s0 s) : Answers s0 (execUpdPiece ring s) := by
  unfold execUpdPiece
  try dsimp only
  repeat' first
    | with_reducible assumption
    | with_reducible refine cmdBuf_keeps (fun _ _ _ => ?_) ?_
    | with_reducible refine updPiece_keeps ?_

theorem updVerify_keeps {s0 s : State} {hd : Held} (h : Keeps s0 s) : Keeps s0 (updVerify hd s) := by
  unfold updVerify
  try dsimp only
  repeat' first
    | with_reducible assumption
    | with_reducible refine done_keeps ?_
    | with_reducible refine setKind_keeps ?_
    | with_reducible refine beginVerify_keeps ?_
    | with_reducible refine Keeps.ite ?_ ?_

theorem execUpdVerify_keeps {s0 s : State} {ring : Nat} (h : Keeps s0 s) : Answers s0 (execUpdVerify ring s) := by
  unfold execUpdVerify
  try dsimp only
  repeat' first
    | with_reducible assumption
    | with_reducible refine cmdPlain_keeps (fun _ _ _ => ?_) ?_
    | with_reducible refine updVerify_keeps ?_

theorem updActivate_keeps {s0 s : State} {hd : Held} (h : Keeps s0 s) : Keeps s0 (updActivate hd s) := by
  unfold updActivate
  try dsimp only
  repeat' first
    | with_reducible assumption
    | with_reducible refine done_keeps ?_
    | with_reducible refine retire_keeps ?_
    | with_reducible refine activateImage_keeps ?_
    | with_reducible refine Keeps.ite ?_ ?_
    | split

theorem execUpdActivate_keeps {s0 s : State} {ring : Nat} (h : Keeps s0 s) : Answers s0 (execUpdActivate ring s) := by
  unfold execUpdActivate
  try dsimp only
  repeat' first
    | with_reducible assumption
    | with_reducible refine cmdPlain_keeps (fun _ _ _ => ?_) ?_
    | with_reducible refine updActivate_keeps ?_

theorem updConfirm_keeps {s0 s : State} {hd : Held} (h : Keeps s0 s) : Keeps s0 (updConfirm hd s) := by
  unfold updConfirm
  try dsimp only
  repeat' first
    | with_reducible assumption
    | with_reducible refine done_keeps ?_
    | with_reducible refine retire_keeps ?_
    | with_reducible refine confirmImage_keeps ?_
    | with_reducible refine Keeps.ite ?_ ?_

theorem execUpdConfirm_keeps {s0 s : State} {ring : Nat} (h : Keeps s0 s) : Answers s0 (execUpdConfirm ring s) := by
  unfold execUpdConfirm
  try dsimp only
  repeat' first
    | with_reducible assumption
    | with_reducible refine cmdPlain_keeps (fun _ _ _ => ?_) ?_
    | with_reducible refine updConfirm_keeps ?_

theorem updStatus_keeps {s0 s : State} {hd : Held} (h : Keeps s0 s) : Keeps s0 (updStatus hd s) := by
  unfold updStatus
  try dsimp only
  repeat' first
    | with_reducible assumption
    | with_reducible refine doneBytes_keeps ?_

theorem execUpdStatus_keeps {s0 s : State} {ring : Nat} (h : Keeps s0 s) : Answers s0 (execUpdStatus ring s) := by
  unfold execUpdStatus
  try dsimp only
  repeat' first
    | with_reducible assumption
    | with_reducible refine cmdBuf_keeps (fun _ _ _ => ?_) ?_
    | with_reducible refine updStatus_keeps ?_

theorem updAbort_keeps {s0 s : State} {hd : Held} (h : Keeps s0 s) : Keeps s0 (updAbort hd s) := by
  unfold updAbort
  try dsimp only
  repeat' first
    | with_reducible assumption
    | with_reducible refine done_keeps ?_
    | with_reducible refine setKind_keeps ?_
    | with_reducible refine abandonImage_keeps ?_
    | with_reducible refine Keeps.ite ?_ ?_

theorem execUpdAbort_keeps {s0 s : State} {ring : Nat} (h : Keeps s0 s) : Answers s0 (execUpdAbort ring s) := by
  unfold execUpdAbort
  try dsimp only
  repeat' first
    | with_reducible assumption
    | with_reducible refine cmdPlain_keeps (fun _ _ _ => ?_) ?_
    | with_reducible refine updAbort_keeps ?_

end Sys2Proof.Machine
end

