-- ==== Sys2Proof/Laws/PerInstr.lean ====
section
/-!
SUPPORT. Sys2Proof/Laws/PerInstr.lean: statements of every command as syntax, one lemma per constructor.
-/
namespace Sys2Proof.Laws

/-- A well-formed command that names a ring names one of the 64 (11 R320). -/
def Ring.Statement (i : Instr) : Prop := i.wf = true → ∀ r, i.ring? = some r → r < 64

theorem ring_below_64 (i : Instr) : Ring.Statement i := by
  intro h r hr
  simp only [Instr.wf, hr, Option.all_some, Bool.and_eq_true, decide_eq_true_eq] at h
  exact h.1

theorem Ring.powerOn a b c : Ring.Statement (.powerOn a b c) := ring_below_64 _
theorem Ring.rstNPulse a : Ring.Statement (.rstNPulse a) := ring_below_64 _
theorem Ring.vbatFall : Ring.Statement .vbatFall := ring_below_64 _
theorem Ring.vioFall : Ring.Statement .vioFall := ring_below_64 _
theorem Ring.brownout a : Ring.Statement (.brownout a) := ring_below_64 _
theorem Ring.vbatHigh a : Ring.Statement (.vbatHigh a) := ring_below_64 _
theorem Ring.bootReady : Ring.Statement .bootReady := ring_below_64 _
theorem Ring.watchdogExpiry : Ring.Statement .watchdogExpiry := ring_below_64 _
theorem Ring.trngHealthFailure a : Ring.Statement (.trngHealthFailure a) := ring_below_64 _
theorem Ring.coreUndervoltage : Ring.Statement .coreUndervoltage := ring_below_64 _
theorem Ring.eccError a : Ring.Statement (.eccError a) := ring_below_64 _
theorem Ring.eccCorrected a : Ring.Statement (.eccCorrected a) := ring_below_64 _
theorem Ring.periodicSelftest a : Ring.Statement (.periodicSelftest a) := ring_below_64 _
theorem Ring.bridgeFaultTest a b : Ring.Statement (.bridgeFaultTest a b) := ring_below_64 _
theorem Ring.overtempFail : Ring.Statement .overtempFail := ring_below_64 _
theorem Ring.spiRegisterWrite a b : Ring.Statement (.spiRegisterWrite a b) := ring_below_64 _
theorem Ring.spiWindowWrite a b c : Ring.Statement (.spiWindowWrite a b c) := ring_below_64 _
theorem Ring.spiWindowRead a b c : Ring.Statement (.spiWindowRead a b c) := ring_below_64 _
theorem Ring.spiFrameAbort a b : Ring.Statement (.spiFrameAbort a b) := ring_below_64 _
theorem Ring.hostReset : Ring.Statement .hostReset := ring_below_64 _
theorem Ring.doorbell a b : Ring.Statement (.doorbell a b) := ring_below_64 _
theorem Ring.tokenViolCountRead : Ring.Statement .tokenViolCountRead := ring_below_64 _
theorem Ring.evtLostRead : Ring.Statement .evtLostRead := ring_below_64 _
theorem Ring.heatDeferRead : Ring.Statement .heatDeferRead := ring_below_64 _
theorem Ring.twinLinkErrRead : Ring.Statement .twinLinkErrRead := ring_below_64 _
theorem Ring.angleEnable a : Ring.Statement (.angleEnable a) := ring_below_64 _
theorem Ring.angleDisable a : Ring.Statement (.angleDisable a) := ring_below_64 _
theorem Ring.angleResync a : Ring.Statement (.angleResync a) := ring_below_64 _
theorem Ring.tmrSwcap a : Ring.Statement (.tmrSwcap a) := ring_below_64 _
theorem Ring.tmrClr a : Ring.Statement (.tmrClr a) := ring_below_64 _
theorem Ring.tmrCompareMatch a : Ring.Statement (.tmrCompareMatch a) := ring_below_64 _
theorem Ring.tmrOverflow a : Ring.Statement (.tmrOverflow a) := ring_below_64 _
theorem Ring.tmrCaptureTrigger a : Ring.Statement (.tmrCaptureTrigger a) := ring_below_64 _
theorem Ring.angleEdge a b c d : Ring.Statement (.angleEdge a b c d) := ring_below_64 _
theorem Ring.angleIndexEdge a b c : Ring.Statement (.angleIndexEdge a b c) := ring_below_64 _
theorem Ring.angleGlitch a b : Ring.Statement (.angleGlitch a b) := ring_below_64 _
theorem Ring.angleStall a : Ring.Statement (.angleStall a) := ring_below_64 _
theorem Ring.entryArm a b : Ring.Statement (.entryArm a b) := ring_below_64 _
theorem Ring.ledgerStep a b : Ring.Statement (.ledgerStep a b) := ring_below_64 _
theorem Ring.admissionFinal a : Ring.Statement (.admissionFinal a) := ring_below_64 _
theorem Ring.entryCrossing a b : Ring.Statement (.entryCrossing a b) := ring_below_64 _
theorem Ring.liveCalStep a b c d : Ring.Statement (.liveCalStep a b c d) := ring_below_64 _
theorem Ring.replyWindowClose a b : Ring.Statement (.replyWindowClose a b) := ring_below_64 _
theorem Ring.lineFault a b : Ring.Statement (.lineFault a b) := ring_below_64 _
theorem Ring.headroomLimit a b c : Ring.Statement (.headroomLimit a b c) := ring_below_64 _
theorem Ring.blockEnd a b : Ring.Statement (.blockEnd a b) := ring_below_64 _
theorem Ring.kpAnswer a : Ring.Statement (.kpAnswer a) := ring_below_64 _
theorem Ring.fobData a : Ring.Statement (.fobData a) := ring_below_64 _
theorem Ring.ztReport a : Ring.Statement (.ztReport a) := ring_below_64 _
theorem Ring.preambleDetected : Ring.Statement .preambleDetected := ring_below_64 _
theorem Ring.radioTxRequest : Ring.Statement .radioTxRequest := ring_below_64 _
theorem Ring.synthLock : Ring.Statement .synthLock := ring_below_64 _
theorem Ring.lockLoss : Ring.Statement .lockLoss := ring_below_64 _
theorem Ring.paRampStart : Ring.Statement .paRampStart := ring_below_64 _
theorem Ring.txEnd : Ring.Statement .txEnd := ring_below_64 _
theorem Ring.txDeadlineExpiry : Ring.Statement .txDeadlineExpiry := ring_below_64 _
theorem Ring.coexWaitExpiry : Ring.Statement .coexWaitExpiry := ring_below_64 _
theorem Ring.coexGrantRise : Ring.Statement .coexGrantRise := ring_below_64 _
theorem Ring.coexGrantFall : Ring.Statement .coexGrantFall := ring_below_64 _
theorem Ring.rangingExchange a : Ring.Statement (.rangingExchange a) := ring_below_64 _
theorem Ring.rangingEnd a : Ring.Statement (.rangingEnd a) := ring_below_64 _
theorem Ring.reportAgeExpiry a : Ring.Statement (.reportAgeExpiry a) := ring_below_64 _
theorem Ring.keyPollListenEnd : Ring.Statement .keyPollListenEnd := ring_below_64 _
theorem Ring.bgCalInterval : Ring.Statement .bgCalInterval := ring_below_64 _
theorem Ring.bgCalSliceEnd : Ring.Statement .bgCalSliceEnd := ring_below_64 _
theorem Ring.sessionLapse a : Ring.Statement (.sessionLapse a) := ring_below_64 _
theorem Ring.confirmDemand a : Ring.Statement (.confirmDemand a) := ring_below_64 _
theorem Ring.confirmHoldLapse a : Ring.Statement (.confirmHoldLapse a) := ring_below_64 _
theorem Ring.notifyTimeout a : Ring.Statement (.notifyTimeout a) := ring_below_64 _
theorem Ring.lockRequestTimeout a : Ring.Statement (.lockRequestTimeout a) := ring_below_64 _
theorem Ring.ilkCharged a : Ring.Statement (.ilkCharged a) := ring_below_64 _
theorem Ring.ilkEchoMissing a : Ring.Statement (.ilkEchoMissing a) := ring_below_64 _
theorem Ring.ilkEchoWhileLocked a : Ring.Statement (.ilkEchoWhileLocked a) := ring_below_64 _
theorem Ring.forceLockRelease : Ring.Statement .forceLockRelease := ring_below_64 _
theorem Ring.keyEnrolProofTimeout : Ring.Statement .keyEnrolProofTimeout := ring_below_64 _
theorem Ring.hitchFieldRise a : Ring.Statement (.hitchFieldRise a) := ring_below_64 _
theorem Ring.hitchLead a : Ring.Statement (.hitchLead a) := ring_below_64 _
theorem Ring.hitchFieldLoss : Ring.Statement .hitchFieldLoss := ring_below_64 _
theorem Ring.wakePattern a : Ring.Statement (.wakePattern a) := ring_below_64 _
theorem Ring.invWalk a : Ring.Statement (.invWalk a) := ring_below_64 _
theorem Ring.invAssign a : Ring.Statement (.invAssign a) := ring_below_64 _
theorem Ring.quiet a : Ring.Statement (.quiet a) := ring_below_64 _
theorem Ring.resetAll a : Ring.Statement (.resetAll a) := ring_below_64 _
theorem Ring.read a : Ring.Statement (.read a) := ring_below_64 _
theorem Ring.write a b : Ring.Statement (.write a b) := ring_below_64 _
theorem Ring.auth1 a : Ring.Statement (.auth1 a) := ring_below_64 _
theorem Ring.auth1u a : Ring.Statement (.auth1u a) := ring_below_64 _
theorem Ring.auth2 a : Ring.Statement (.auth2 a) := ring_below_64 _
theorem Ring.hStatus a : Ring.Statement (.hStatus a) := ring_below_64 _
theorem Ring.hChain a : Ring.Statement (.hChain a) := ring_below_64 _
theorem Ring.islandCommitComplete : Ring.Statement .islandCommitComplete := ring_below_64 _
theorem Ring.xpmApplied : Ring.Statement .xpmApplied := ring_below_64 _
theorem Ring.chainOffer a b : Ring.Statement (.chainOffer a b) := ring_below_64 _
theorem Ring.chainData a b : Ring.Statement (.chainData a b) := ring_below_64 _
theorem Ring.chainStatus a : Ring.Statement (.chainStatus a) := ring_below_64 _
theorem Ring.chainWithdraw a : Ring.Statement (.chainWithdraw a) := ring_below_64 _
theorem Ring.chainOfferTimer : Ring.Statement .chainOfferTimer := ring_below_64 _
theorem Ring.autoConfirm : Ring.Statement .autoConfirm := ring_below_64 _
theorem Ring.hello a b c : Ring.Statement (.hello a b c) := ring_below_64 _
theorem Ring.heartbeat a : Ring.Statement (.heartbeat a) := ring_below_64 _
theorem Ring.mirror a b c : Ring.Statement (.mirror a b c) := ring_below_64 _
theorem Ring.mirrorAck a b : Ring.Statement (.mirrorAck a b) := ring_below_64 _
theorem Ring.notify a b : Ring.Statement (.notify a b) := ring_below_64 _
theorem Ring.notifyAck a b : Ring.Statement (.notifyAck a b) := ring_below_64 _
theorem Ring.drop a b : Ring.Statement (.drop a b) := ring_below_64 _
theorem Ring.noticeEnd a : Ring.Statement (.noticeEnd a) := ring_below_64 _
theorem Ring.noticeTable a b : Ring.Statement (.noticeTable a b) := ring_below_64 _
theorem Ring.sleep a b : Ring.Statement (.sleep a b) := ring_below_64 _
theorem Ring.sleepAck a b : Ring.Statement (.sleepAck a b) := ring_below_64 _
theorem Ring.failedFrame a b c : Ring.Statement (.failedFrame a b c) := ring_below_64 _
theorem Ring.resetReq a : Ring.Statement (.resetReq a) := ring_below_64 _
theorem Ring.unpair a : Ring.Statement (.unpair a) := ring_below_64 _
theorem Ring.pairHello a : Ring.Statement (.pairHello a) := ring_below_64 _
theorem Ring.pairKey a : Ring.Statement (.pairKey a) := ring_below_64 _
theorem Ring.pairConfirm a : Ring.Statement (.pairConfirm a) := ring_below_64 _
theorem Ring.pairDone : Ring.Statement .pairDone := ring_below_64 _
theorem Ring.twinPeerTimeout : Ring.Statement .twinPeerTimeout := ring_below_64 _
theorem Ring.twinHbTimeout : Ring.Statement .twinHbTimeout := ring_below_64 _
theorem Ring.twinLinkDown : Ring.Statement .twinLinkDown := ring_below_64 _
theorem Ring.twinLinkFail : Ring.Statement .twinLinkFail := ring_below_64 _
theorem Ring.roleDecision : Ring.Statement .roleDecision := ring_below_64 _
theorem Ring.busRequestRx a : Ring.Statement (.busRequestRx a) := ring_below_64 _
theorem Ring.tpFrameRx a : Ring.Statement (.tpFrameRx a) := ring_below_64 _
theorem Ring.addressClaimRx a : Ring.Statement (.addressClaimRx a) := ring_below_64 _
theorem Ring.commandedAddressRx a b : Ring.Statement (.commandedAddressRx a b) := ring_below_64 _
theorem Ring.proprietaryARx a : Ring.Statement (.proprietaryARx a) := ring_below_64 _
theorem Ring.busFrameRx a : Ring.Statement (.busFrameRx a) := ring_below_64 _
theorem Ring.tpTimeout a : Ring.Statement (.tpTimeout a) := ring_below_64 _
theorem Ring.bamFrameTimer : Ring.Statement .bamFrameTimer := ring_below_64 _
theorem Ring.claimHoldoffExpiry : Ring.Statement .claimHoldoffExpiry := ring_below_64 _
theorem Ring.busOffEntry : Ring.Statement .busOffEntry := ring_below_64 _
theorem Ring.busOffRecovery : Ring.Statement .busOffRecovery := ring_below_64 _
theorem Ring.wakeSourceEvent a : Ring.Statement (.wakeSourceEvent a) := ring_below_64 _
theorem Ring.wakeTimerExpiry : Ring.Statement .wakeTimerExpiry := ring_below_64 _
theorem Ring.wakeStepReady a : Ring.Statement (.wakeStepReady a) := ring_below_64 _
theorem Ring.wakeStepTimeout : Ring.Statement .wakeStepTimeout := ring_below_64 _
theorem Ring.sleepPrepareTimeout : Ring.Statement .sleepPrepareTimeout := ring_below_64 _
theorem Ring.sleepCommit : Ring.Statement .sleepCommit := ring_below_64 _
theorem Ring.patrolHourlyCheck : Ring.Statement .patrolHourlyCheck := ring_below_64 _
theorem Ring.elapsedTimeSave : Ring.Statement .elapsedTimeSave := ring_below_64 _
theorem Ring.maintActivityEnd a : Ring.Statement (.maintActivityEnd a) := ring_below_64 _
theorem Ring.engineJobComplete a : Ring.Statement (.engineJobComplete a) := ring_below_64 _
theorem Ring.sysReset a : Ring.Statement (.sysReset a) := ring_below_64 _
theorem Ring.sysXpmRead a : Ring.Statement (.sysXpmRead a) := ring_below_64 _
theorem Ring.sysXpmWrite a : Ring.Statement (.sysXpmWrite a) := ring_below_64 _
theorem Ring.sysBusSend a : Ring.Statement (.sysBusSend a) := ring_below_64 _
theorem Ring.sysBusClaim a : Ring.Statement (.sysBusClaim a) := ring_below_64 _
theorem Ring.paramGet a : Ring.Statement (.paramGet a) := ring_below_64 _
theorem Ring.paramSet a : Ring.Statement (.paramSet a) := ring_below_64 _
theorem Ring.paramGetMany a : Ring.Statement (.paramGetMany a) := ring_below_64 _
theorem Ring.paramSetMany a : Ring.Statement (.paramSetMany a) := ring_below_64 _
theorem Ring.paramSave a : Ring.Statement (.paramSave a) := ring_below_64 _
theorem Ring.ringSetup a : Ring.Statement (.ringSetup a) := ring_below_64 _
theorem Ring.ringPost a : Ring.Statement (.ringPost a) := ring_below_64 _
theorem Ring.ringCancel a : Ring.Statement (.ringCancel a) := ring_below_64 _
theorem Ring.routeLineClear a : Ring.Statement (.routeLineClear a) := ring_below_64 _
theorem Ring.routeStatus a : Ring.Statement (.routeStatus a) := ring_below_64 _
theorem Ring.svcDefine a : Ring.Statement (.svcDefine a) := ring_below_64 _
theorem Ring.svcUndefine a : Ring.Statement (.svcUndefine a) := ring_below_64 _
theorem Ring.svcDemand a : Ring.Statement (.svcDemand a) := ring_below_64 _
theorem Ring.rosterAdd a : Ring.Statement (.rosterAdd a) := ring_below_64 _
theorem Ring.rosterFind a : Ring.Statement (.rosterFind a) := ring_below_64 _
theorem Ring.rosterGet a : Ring.Statement (.rosterGet a) := ring_below_64 _
theorem Ring.rosterSetOwner a : Ring.Statement (.rosterSetOwner a) := ring_below_64 _
theorem Ring.rosterDelete a : Ring.Statement (.rosterDelete a) := ring_below_64 _
theorem Ring.rosterCompact a : Ring.Statement (.rosterCompact a) := ring_below_64 _
theorem Ring.authKey a : Ring.Statement (.authKey a) := ring_below_64 _
theorem Ring.authStatus a : Ring.Statement (.authStatus a) := ring_below_64 _
theorem Ring.lockRequest a : Ring.Statement (.lockRequest a) := ring_below_64 _
theorem Ring.lockEngineStopped a : Ring.Statement (.lockEngineStopped a) := ring_below_64 _
theorem Ring.lockDrop a : Ring.Statement (.lockDrop a) := ring_below_64 _
theorem Ring.lockClear a b : Ring.Statement (.lockClear a b) := ring_below_64 _
theorem Ring.zoneFix a : Ring.Statement (.zoneFix a) := ring_below_64 _
theorem Ring.zoneGet a : Ring.Statement (.zoneGet a) := ring_below_64 _
theorem Ring.rangeDetail a : Ring.Statement (.rangeDetail a) := ring_below_64 _
theorem Ring.radioCal a : Ring.Statement (.radioCal a) := ring_below_64 _
theorem Ring.radioCw a : Ring.Statement (.radioCw a) := ring_below_64 _
theorem Ring.radioCwEnd : Ring.Statement .radioCwEnd := ring_below_64 _
theorem Ring.radioStop a : Ring.Statement (.radioStop a) := ring_below_64 _
theorem Ring.keyEnrol a : Ring.Statement (.keyEnrol a) := ring_below_64 _
theorem Ring.keyRevoke a : Ring.Statement (.keyRevoke a) := ring_below_64 _
theorem Ring.keyList a : Ring.Statement (.keyList a) := ring_below_64 _
theorem Ring.keyOemRoot a : Ring.Statement (.keyOemRoot a) := ring_below_64 _
theorem Ring.keyOtpWrite a : Ring.Statement (.keyOtpWrite a) := ring_below_64 _
theorem Ring.keyOtpRead a : Ring.Statement (.keyOtpRead a) := ring_below_64 _
theorem Ring.keyXportOpen a : Ring.Statement (.keyXportOpen a) := ring_below_64 _
theorem Ring.keyImport a : Ring.Statement (.keyImport a) := ring_below_64 _
theorem Ring.keyGenerate a : Ring.Statement (.keyGenerate a) := ring_below_64 _
theorem Ring.keyHitchEnrol a : Ring.Statement (.keyHitchEnrol a) := ring_below_64 _
theorem Ring.keyDestroy a : Ring.Statement (.keyDestroy a) := ring_below_64 _
theorem Ring.keyCmac a : Ring.Statement (.keyCmac a) := ring_below_64 _
theorem Ring.keyCcmEnc a : Ring.Statement (.keyCcmEnc a) := ring_below_64 _
theorem Ring.keyCcmDec a : Ring.Statement (.keyCcmDec a) := ring_below_64 _
theorem Ring.keySha a : Ring.Statement (.keySha a) := ring_below_64 _
theorem Ring.keySign a : Ring.Statement (.keySign a) := ring_below_64 _
theorem Ring.keyVerify a : Ring.Statement (.keyVerify a) := ring_below_64 _
theorem Ring.keyCtrAdvance a : Ring.Statement (.keyCtrAdvance a) := ring_below_64 _
theorem Ring.keyAttest a : Ring.Statement (.keyAttest a) := ring_below_64 _
theorem Ring.keyCertRead a : Ring.Statement (.keyCertRead a) := ring_below_64 _
theorem Ring.keyLifecycle a : Ring.Statement (.keyLifecycle a) := ring_below_64 _
theorem Ring.updHeader a : Ring.Statement (.updHeader a) := ring_below_64 _
theorem Ring.updPiece a : Ring.Statement (.updPiece a) := ring_below_64 _
theorem Ring.updVerify a : Ring.Statement (.updVerify a) := ring_below_64 _
theorem Ring.updActivate a : Ring.Statement (.updActivate a) := ring_below_64 _
theorem Ring.updConfirm a : Ring.Statement (.updConfirm a) := ring_below_64 _
theorem Ring.updStatus a : Ring.Statement (.updStatus a) := ring_below_64 _
theorem Ring.updAbort a : Ring.Statement (.updAbort a) := ring_below_64 _
theorem Ring.twinPair a : Ring.Statement (.twinPair a) := ring_below_64 _
theorem Ring.twinUnpair a : Ring.Statement (.twinUnpair a) := ring_below_64 _
theorem Ring.twinResync a : Ring.Statement (.twinResync a) := ring_below_64 _
theorem Ring.twinStatus a : Ring.Statement (.twinStatus a) := ring_below_64 _
theorem Ring.maintRefresh a : Ring.Statement (.maintRefresh a) := ring_below_64 _
theorem Ring.maintCalSweep a : Ring.Statement (.maintCalSweep a) := ring_below_64 _
theorem Ring.maintCancel a : Ring.Statement (.maintCancel a) := ring_below_64 _
theorem Ring.maintStatus a : Ring.Statement (.maintStatus a) := ring_below_64 _
theorem Ring.pwrSleep a : Ring.Statement (.pwrSleep a) := ring_below_64 _
theorem Ring.pwrHeat a : Ring.Statement (.pwrHeat a) := ring_below_64 _
theorem Ring.diagTtRead a : Ring.Statement (.diagTtRead a) := ring_below_64 _
theorem Ring.diagCapture a : Ring.Statement (.diagCapture a) := ring_below_64 _
theorem Ring.diagSelftest a b : Ring.Statement (.diagSelftest a b) := ring_below_64 _
theorem Ring.diagFaultLog a : Ring.Statement (.diagFaultLog a) := ring_below_64 _
theorem Ring.diagEcho a : Ring.Statement (.diagEcho a) := ring_below_64 _
theorem Ring.islandBrownout a : Ring.Statement (.islandBrownout a) := ring_below_64 _
theorem Ring.sleepAckTimeout : Ring.Statement .sleepAckTimeout := ring_below_64 _
theorem Ring.forceLockNotice a b : Ring.Statement (.forceLockNotice a b) := ring_below_64 _
theorem Ring.heartbeatResumed : Ring.Statement .heartbeatResumed := ring_below_64 _
theorem Ring.heartbeatTimer : Ring.Statement .heartbeatTimer := ring_below_64 _
theorem Ring.canFrameSent : Ring.Statement .canFrameSent := ring_below_64 _
theorem Ring.flashWriteComplete : Ring.Statement .flashWriteComplete := ring_below_64 _
theorem Ring.vendorProvisioning a b c : Ring.Statement (.vendorProvisioning a b c) := ring_below_64 _
theorem Ring.asleepRegisterRead a : Ring.Statement (.asleepRegisterRead a) := ring_below_64 _
theorem Ring.takeoverEchoSettled a : Ring.Statement (.takeoverEchoSettled a) := ring_below_64 _

end Sys2Proof.Laws
end

