-- ==== Sys2Proof/Laws/State.lean ====
section
/-!
SUPPORT. Sys2Proof/Laws/State.lean: what each field is after each update of the state: one lemma per field per update, so that no proof unfolds
a record update.
-/
namespace Sys2Proof.Machine

/-! ## modDev -/

@[simp] theorem modDev_dev (f : Dev → Dev) (s : State) : (modDev f s).dev = f s.dev := rfl
@[simp] theorem modDev_pending (f : Dev → Dev) (s : State) : (modDev f s).pending = s.pending := rfl
@[simp] theorem modDev_clk (f : Dev → Dev) (s : State) : (modDev f s).clk = s.clk := rfl
@[simp] theorem modDev_free (f : Dev → Dev) (s : State) : (modDev f s).free = s.free := rfl
@[simp] theorem modDev_fresh (f : Dev → Dev) (s : State) : (modDev f s).fresh = s.fresh := rfl
@[simp] theorem modDev_nv (f : Dev → Dev) (s : State) : (modDev f s).nv = s.nv := rfl
@[simp] theorem modDev_port (f : Dev → Dev) (s : State) : (modDev f s).port = s.port := rfl
@[simp] theorem modDev_win (f : Dev → Dev) (s : State) : (modDev f s).win = s.win := rfl
@[simp] theorem modDev_par (f : Dev → Dev) (s : State) : (modDev f s).par = s.par := rfl
@[simp] theorem modDev_staged (f : Dev → Dev) (s : State) : (modDev f s).staged = s.staged := rfl
@[simp] theorem modDev_tb (f : Dev → Dev) (s : State) : (modDev f s).tb = s.tb := rfl
@[simp] theorem modDev_sched (f : Dev → Dev) (s : State) : (modDev f s).sched = s.sched := rfl
@[simp] theorem modDev_lines (f : Dev → Dev) (s : State) : (modDev f s).lines = s.lines := rfl
@[simp] theorem modDev_roster (f : Dev → Dev) (s : State) : (modDev f s).roster = s.roster := rfl
@[simp] theorem modDev_isl (f : Dev → Dev) (s : State) : (modDev f s).isl = s.isl := rfl
@[simp] theorem modDev_keys (f : Dev → Dev) (s : State) : (modDev f s).keys = s.keys := rfl
@[simp] theorem modDev_locks (f : Dev → Dev) (s : State) : (modDev f s).locks = s.locks := rfl
@[simp] theorem modDev_ilkEvents (f : Dev → Dev) (s : State) : (modDev f s).ilkEvents = s.ilkEvents := rfl
@[simp] theorem modDev_prox (f : Dev → Dev) (s : State) : (modDev f s).prox = s.prox := rfl
@[simp] theorem modDev_radio (f : Dev → Dev) (s : State) : (modDev f s).radio = s.radio := rfl
@[simp] theorem modDev_sec (f : Dev → Dev) (s : State) : (modDev f s).sec = s.sec := rfl
@[simp] theorem modDev_pwr (f : Dev → Dev) (s : State) : (modDev f s).pwr = s.pwr := rfl
@[simp] theorem modDev_twin (f : Dev → Dev) (s : State) : (modDev f s).twin = s.twin := rfl
@[simp] theorem modDev_bus (f : Dev → Dev) (s : State) : (modDev f s).bus = s.bus := rfl
@[simp] theorem modDev_upd (f : Dev → Dev) (s : State) : (modDev f s).upd = s.upd := rfl
@[simp] theorem modDev_mnt (f : Dev → Dev) (s : State) : (modDev f s).mnt = s.mnt := rfl

/-! ## modNv -/

@[simp] theorem modNv_nv (f : Nv → Nv) (s : State) : (modNv f s).nv = f s.nv := rfl
@[simp] theorem modNv_pending (f : Nv → Nv) (s : State) : (modNv f s).pending = s.pending := rfl
@[simp] theorem modNv_clk (f : Nv → Nv) (s : State) : (modNv f s).clk = s.clk := rfl
@[simp] theorem modNv_free (f : Nv → Nv) (s : State) : (modNv f s).free = s.free := rfl
@[simp] theorem modNv_fresh (f : Nv → Nv) (s : State) : (modNv f s).fresh = s.fresh := rfl
@[simp] theorem modNv_dev (f : Nv → Nv) (s : State) : (modNv f s).dev = s.dev := rfl
@[simp] theorem modNv_port (f : Nv → Nv) (s : State) : (modNv f s).port = s.port := rfl
@[simp] theorem modNv_win (f : Nv → Nv) (s : State) : (modNv f s).win = s.win := rfl
@[simp] theorem modNv_par (f : Nv → Nv) (s : State) : (modNv f s).par = s.par := rfl
@[simp] theorem modNv_staged (f : Nv → Nv) (s : State) : (modNv f s).staged = s.staged := rfl
@[simp] theorem modNv_tb (f : Nv → Nv) (s : State) : (modNv f s).tb = s.tb := rfl
@[simp] theorem modNv_sched (f : Nv → Nv) (s : State) : (modNv f s).sched = s.sched := rfl
@[simp] theorem modNv_lines (f : Nv → Nv) (s : State) : (modNv f s).lines = s.lines := rfl
@[simp] theorem modNv_roster (f : Nv → Nv) (s : State) : (modNv f s).roster = s.roster := rfl
@[simp] theorem modNv_isl (f : Nv → Nv) (s : State) : (modNv f s).isl = s.isl := rfl
@[simp] theorem modNv_keys (f : Nv → Nv) (s : State) : (modNv f s).keys = s.keys := rfl
@[simp] theorem modNv_locks (f : Nv → Nv) (s : State) : (modNv f s).locks = s.locks := rfl
@[simp] theorem modNv_ilkEvents (f : Nv → Nv) (s : State) : (modNv f s).ilkEvents = s.ilkEvents := rfl
@[simp] theorem modNv_prox (f : Nv → Nv) (s : State) : (modNv f s).prox = s.prox := rfl
@[simp] theorem modNv_radio (f : Nv → Nv) (s : State) : (modNv f s).radio = s.radio := rfl
@[simp] theorem modNv_sec (f : Nv → Nv) (s : State) : (modNv f s).sec = s.sec := rfl
@[simp] theorem modNv_pwr (f : Nv → Nv) (s : State) : (modNv f s).pwr = s.pwr := rfl
@[simp] theorem modNv_twin (f : Nv → Nv) (s : State) : (modNv f s).twin = s.twin := rfl
@[simp] theorem modNv_bus (f : Nv → Nv) (s : State) : (modNv f s).bus = s.bus := rfl
@[simp] theorem modNv_upd (f : Nv → Nv) (s : State) : (modNv f s).upd = s.upd := rfl
@[simp] theorem modNv_mnt (f : Nv → Nv) (s : State) : (modNv f s).mnt = s.mnt := rfl

/-! ## modPort -/

@[simp] theorem modPort_port (f : Port → Port) (s : State) : (modPort f s).port = f s.port := rfl
@[simp] theorem modPort_pending (f : Port → Port) (s : State) : (modPort f s).pending = s.pending := rfl
@[simp] theorem modPort_clk (f : Port → Port) (s : State) : (modPort f s).clk = s.clk := rfl
@[simp] theorem modPort_free (f : Port → Port) (s : State) : (modPort f s).free = s.free := rfl
@[simp] theorem modPort_fresh (f : Port → Port) (s : State) : (modPort f s).fresh = s.fresh := rfl
@[simp] theorem modPort_dev (f : Port → Port) (s : State) : (modPort f s).dev = s.dev := rfl
@[simp] theorem modPort_nv (f : Port → Port) (s : State) : (modPort f s).nv = s.nv := rfl
@[simp] theorem modPort_win (f : Port → Port) (s : State) : (modPort f s).win = s.win := rfl
@[simp] theorem modPort_par (f : Port → Port) (s : State) : (modPort f s).par = s.par := rfl
@[simp] theorem modPort_staged (f : Port → Port) (s : State) : (modPort f s).staged = s.staged := rfl
@[simp] theorem modPort_tb (f : Port → Port) (s : State) : (modPort f s).tb = s.tb := rfl
@[simp] theorem modPort_sched (f : Port → Port) (s : State) : (modPort f s).sched = s.sched := rfl
@[simp] theorem modPort_lines (f : Port → Port) (s : State) : (modPort f s).lines = s.lines := rfl
@[simp] theorem modPort_roster (f : Port → Port) (s : State) : (modPort f s).roster = s.roster := rfl
@[simp] theorem modPort_isl (f : Port → Port) (s : State) : (modPort f s).isl = s.isl := rfl
@[simp] theorem modPort_keys (f : Port → Port) (s : State) : (modPort f s).keys = s.keys := rfl
@[simp] theorem modPort_locks (f : Port → Port) (s : State) : (modPort f s).locks = s.locks := rfl
@[simp] theorem modPort_ilkEvents (f : Port → Port) (s : State) : (modPort f s).ilkEvents = s.ilkEvents := rfl
@[simp] theorem modPort_prox (f : Port → Port) (s : State) : (modPort f s).prox = s.prox := rfl
@[simp] theorem modPort_radio (f : Port → Port) (s : State) : (modPort f s).radio = s.radio := rfl
@[simp] theorem modPort_sec (f : Port → Port) (s : State) : (modPort f s).sec = s.sec := rfl
@[simp] theorem modPort_pwr (f : Port → Port) (s : State) : (modPort f s).pwr = s.pwr := rfl
@[simp] theorem modPort_twin (f : Port → Port) (s : State) : (modPort f s).twin = s.twin := rfl
@[simp] theorem modPort_bus (f : Port → Port) (s : State) : (modPort f s).bus = s.bus := rfl
@[simp] theorem modPort_upd (f : Port → Port) (s : State) : (modPort f s).upd = s.upd := rfl
@[simp] theorem modPort_mnt (f : Port → Port) (s : State) : (modPort f s).mnt = s.mnt := rfl

/-! ## modTb -/

@[simp] theorem modTb_tb (f : TimeBase → TimeBase) (s : State) : (modTb f s).tb = f s.tb := rfl
@[simp] theorem modTb_pending (f : TimeBase → TimeBase) (s : State) : (modTb f s).pending = s.pending := rfl
@[simp] theorem modTb_clk (f : TimeBase → TimeBase) (s : State) : (modTb f s).clk = s.clk := rfl
@[simp] theorem modTb_free (f : TimeBase → TimeBase) (s : State) : (modTb f s).free = s.free := rfl
@[simp] theorem modTb_fresh (f : TimeBase → TimeBase) (s : State) : (modTb f s).fresh = s.fresh := rfl
@[simp] theorem modTb_dev (f : TimeBase → TimeBase) (s : State) : (modTb f s).dev = s.dev := rfl
@[simp] theorem modTb_nv (f : TimeBase → TimeBase) (s : State) : (modTb f s).nv = s.nv := rfl
@[simp] theorem modTb_port (f : TimeBase → TimeBase) (s : State) : (modTb f s).port = s.port := rfl
@[simp] theorem modTb_win (f : TimeBase → TimeBase) (s : State) : (modTb f s).win = s.win := rfl
@[simp] theorem modTb_par (f : TimeBase → TimeBase) (s : State) : (modTb f s).par = s.par := rfl
@[simp] theorem modTb_staged (f : TimeBase → TimeBase) (s : State) : (modTb f s).staged = s.staged := rfl
@[simp] theorem modTb_sched (f : TimeBase → TimeBase) (s : State) : (modTb f s).sched = s.sched := rfl
@[simp] theorem modTb_lines (f : TimeBase → TimeBase) (s : State) : (modTb f s).lines = s.lines := rfl
@[simp] theorem modTb_roster (f : TimeBase → TimeBase) (s : State) : (modTb f s).roster = s.roster := rfl
@[simp] theorem modTb_isl (f : TimeBase → TimeBase) (s : State) : (modTb f s).isl = s.isl := rfl
@[simp] theorem modTb_keys (f : TimeBase → TimeBase) (s : State) : (modTb f s).keys = s.keys := rfl
@[simp] theorem modTb_locks (f : TimeBase → TimeBase) (s : State) : (modTb f s).locks = s.locks := rfl
@[simp] theorem modTb_ilkEvents (f : TimeBase → TimeBase) (s : State) : (modTb f s).ilkEvents = s.ilkEvents := rfl
@[simp] theorem modTb_prox (f : TimeBase → TimeBase) (s : State) : (modTb f s).prox = s.prox := rfl
@[simp] theorem modTb_radio (f : TimeBase → TimeBase) (s : State) : (modTb f s).radio = s.radio := rfl
@[simp] theorem modTb_sec (f : TimeBase → TimeBase) (s : State) : (modTb f s).sec = s.sec := rfl
@[simp] theorem modTb_pwr (f : TimeBase → TimeBase) (s : State) : (modTb f s).pwr = s.pwr := rfl
@[simp] theorem modTb_twin (f : TimeBase → TimeBase) (s : State) : (modTb f s).twin = s.twin := rfl
@[simp] theorem modTb_bus (f : TimeBase → TimeBase) (s : State) : (modTb f s).bus = s.bus := rfl
@[simp] theorem modTb_upd (f : TimeBase → TimeBase) (s : State) : (modTb f s).upd = s.upd := rfl
@[simp] theorem modTb_mnt (f : TimeBase → TimeBase) (s : State) : (modTb f s).mnt = s.mnt := rfl

/-! ## modSched -/

@[simp] theorem modSched_sched (f : Sched → Sched) (s : State) : (modSched f s).sched = f s.sched := rfl
@[simp] theorem modSched_pending (f : Sched → Sched) (s : State) : (modSched f s).pending = s.pending := rfl
@[simp] theorem modSched_clk (f : Sched → Sched) (s : State) : (modSched f s).clk = s.clk := rfl
@[simp] theorem modSched_free (f : Sched → Sched) (s : State) : (modSched f s).free = s.free := rfl
@[simp] theorem modSched_fresh (f : Sched → Sched) (s : State) : (modSched f s).fresh = s.fresh := rfl
@[simp] theorem modSched_dev (f : Sched → Sched) (s : State) : (modSched f s).dev = s.dev := rfl
@[simp] theorem modSched_nv (f : Sched → Sched) (s : State) : (modSched f s).nv = s.nv := rfl
@[simp] theorem modSched_port (f : Sched → Sched) (s : State) : (modSched f s).port = s.port := rfl
@[simp] theorem modSched_win (f : Sched → Sched) (s : State) : (modSched f s).win = s.win := rfl
@[simp] theorem modSched_par (f : Sched → Sched) (s : State) : (modSched f s).par = s.par := rfl
@[simp] theorem modSched_staged (f : Sched → Sched) (s : State) : (modSched f s).staged = s.staged := rfl
@[simp] theorem modSched_tb (f : Sched → Sched) (s : State) : (modSched f s).tb = s.tb := rfl
@[simp] theorem modSched_lines (f : Sched → Sched) (s : State) : (modSched f s).lines = s.lines := rfl
@[simp] theorem modSched_roster (f : Sched → Sched) (s : State) : (modSched f s).roster = s.roster := rfl
@[simp] theorem modSched_isl (f : Sched → Sched) (s : State) : (modSched f s).isl = s.isl := rfl
@[simp] theorem modSched_keys (f : Sched → Sched) (s : State) : (modSched f s).keys = s.keys := rfl
@[simp] theorem modSched_locks (f : Sched → Sched) (s : State) : (modSched f s).locks = s.locks := rfl
@[simp] theorem modSched_ilkEvents (f : Sched → Sched) (s : State) : (modSched f s).ilkEvents = s.ilkEvents := rfl
@[simp] theorem modSched_prox (f : Sched → Sched) (s : State) : (modSched f s).prox = s.prox := rfl
@[simp] theorem modSched_radio (f : Sched → Sched) (s : State) : (modSched f s).radio = s.radio := rfl
@[simp] theorem modSched_sec (f : Sched → Sched) (s : State) : (modSched f s).sec = s.sec := rfl
@[simp] theorem modSched_pwr (f : Sched → Sched) (s : State) : (modSched f s).pwr = s.pwr := rfl
@[simp] theorem modSched_twin (f : Sched → Sched) (s : State) : (modSched f s).twin = s.twin := rfl
@[simp] theorem modSched_bus (f : Sched → Sched) (s : State) : (modSched f s).bus = s.bus := rfl
@[simp] theorem modSched_upd (f : Sched → Sched) (s : State) : (modSched f s).upd = s.upd := rfl
@[simp] theorem modSched_mnt (f : Sched → Sched) (s : State) : (modSched f s).mnt = s.mnt := rfl

/-! ## modRoster -/

@[simp] theorem modRoster_roster (f : Roster → Roster) (s : State) : (modRoster f s).roster = f s.roster := rfl
@[simp] theorem modRoster_pending (f : Roster → Roster) (s : State) : (modRoster f s).pending = s.pending := rfl
@[simp] theorem modRoster_clk (f : Roster → Roster) (s : State) : (modRoster f s).clk = s.clk := rfl
@[simp] theorem modRoster_free (f : Roster → Roster) (s : State) : (modRoster f s).free = s.free := rfl
@[simp] theorem modRoster_fresh (f : Roster → Roster) (s : State) : (modRoster f s).fresh = s.fresh := rfl
@[simp] theorem modRoster_dev (f : Roster → Roster) (s : State) : (modRoster f s).dev = s.dev := rfl
@[simp] theorem modRoster_nv (f : Roster → Roster) (s : State) : (modRoster f s).nv = s.nv := rfl
@[simp] theorem modRoster_port (f : Roster → Roster) (s : State) : (modRoster f s).port = s.port := rfl
@[simp] theorem modRoster_win (f : Roster → Roster) (s : State) : (modRoster f s).win = s.win := rfl
@[simp] theorem modRoster_par (f : Roster → Roster) (s : State) : (modRoster f s).par = s.par := rfl
@[simp] theorem modRoster_staged (f : Roster → Roster) (s : State) : (modRoster f s).staged = s.staged := rfl
@[simp] theorem modRoster_tb (f : Roster → Roster) (s : State) : (modRoster f s).tb = s.tb := rfl
@[simp] theorem modRoster_sched (f : Roster → Roster) (s : State) : (modRoster f s).sched = s.sched := rfl
@[simp] theorem modRoster_lines (f : Roster → Roster) (s : State) : (modRoster f s).lines = s.lines := rfl
@[simp] theorem modRoster_isl (f : Roster → Roster) (s : State) : (modRoster f s).isl = s.isl := rfl
@[simp] theorem modRoster_keys (f : Roster → Roster) (s : State) : (modRoster f s).keys = s.keys := rfl
@[simp] theorem modRoster_locks (f : Roster → Roster) (s : State) : (modRoster f s).locks = s.locks := rfl
@[simp] theorem modRoster_ilkEvents (f : Roster → Roster) (s : State) : (modRoster f s).ilkEvents = s.ilkEvents := rfl
@[simp] theorem modRoster_prox (f : Roster → Roster) (s : State) : (modRoster f s).prox = s.prox := rfl
@[simp] theorem modRoster_radio (f : Roster → Roster) (s : State) : (modRoster f s).radio = s.radio := rfl
@[simp] theorem modRoster_sec (f : Roster → Roster) (s : State) : (modRoster f s).sec = s.sec := rfl
@[simp] theorem modRoster_pwr (f : Roster → Roster) (s : State) : (modRoster f s).pwr = s.pwr := rfl
@[simp] theorem modRoster_twin (f : Roster → Roster) (s : State) : (modRoster f s).twin = s.twin := rfl
@[simp] theorem modRoster_bus (f : Roster → Roster) (s : State) : (modRoster f s).bus = s.bus := rfl
@[simp] theorem modRoster_upd (f : Roster → Roster) (s : State) : (modRoster f s).upd = s.upd := rfl
@[simp] theorem modRoster_mnt (f : Roster → Roster) (s : State) : (modRoster f s).mnt = s.mnt := rfl

/-! ## modIsl -/

@[simp] theorem modIsl_isl (f : Island → Island) (s : State) : (modIsl f s).isl = f s.isl := rfl
@[simp] theorem modIsl_pending (f : Island → Island) (s : State) : (modIsl f s).pending = s.pending := rfl
@[simp] theorem modIsl_clk (f : Island → Island) (s : State) : (modIsl f s).clk = s.clk := rfl
@[simp] theorem modIsl_free (f : Island → Island) (s : State) : (modIsl f s).free = s.free := rfl
@[simp] theorem modIsl_fresh (f : Island → Island) (s : State) : (modIsl f s).fresh = s.fresh := rfl
@[simp] theorem modIsl_dev (f : Island → Island) (s : State) : (modIsl f s).dev = s.dev := rfl
@[simp] theorem modIsl_nv (f : Island → Island) (s : State) : (modIsl f s).nv = s.nv := rfl
@[simp] theorem modIsl_port (f : Island → Island) (s : State) : (modIsl f s).port = s.port := rfl
@[simp] theorem modIsl_win (f : Island → Island) (s : State) : (modIsl f s).win = s.win := rfl
@[simp] theorem modIsl_par (f : Island → Island) (s : State) : (modIsl f s).par = s.par := rfl
@[simp] theorem modIsl_staged (f : Island → Island) (s : State) : (modIsl f s).staged = s.staged := rfl
@[simp] theorem modIsl_tb (f : Island → Island) (s : State) : (modIsl f s).tb = s.tb := rfl
@[simp] theorem modIsl_sched (f : Island → Island) (s : State) : (modIsl f s).sched = s.sched := rfl
@[simp] theorem modIsl_lines (f : Island → Island) (s : State) : (modIsl f s).lines = s.lines := rfl
@[simp] theorem modIsl_roster (f : Island → Island) (s : State) : (modIsl f s).roster = s.roster := rfl
@[simp] theorem modIsl_keys (f : Island → Island) (s : State) : (modIsl f s).keys = s.keys := rfl
@[simp] theorem modIsl_locks (f : Island → Island) (s : State) : (modIsl f s).locks = s.locks := rfl
@[simp] theorem modIsl_ilkEvents (f : Island → Island) (s : State) : (modIsl f s).ilkEvents = s.ilkEvents := rfl
@[simp] theorem modIsl_prox (f : Island → Island) (s : State) : (modIsl f s).prox = s.prox := rfl
@[simp] theorem modIsl_radio (f : Island → Island) (s : State) : (modIsl f s).radio = s.radio := rfl
@[simp] theorem modIsl_sec (f : Island → Island) (s : State) : (modIsl f s).sec = s.sec := rfl
@[simp] theorem modIsl_pwr (f : Island → Island) (s : State) : (modIsl f s).pwr = s.pwr := rfl
@[simp] theorem modIsl_twin (f : Island → Island) (s : State) : (modIsl f s).twin = s.twin := rfl
@[simp] theorem modIsl_bus (f : Island → Island) (s : State) : (modIsl f s).bus = s.bus := rfl
@[simp] theorem modIsl_upd (f : Island → Island) (s : State) : (modIsl f s).upd = s.upd := rfl
@[simp] theorem modIsl_mnt (f : Island → Island) (s : State) : (modIsl f s).mnt = s.mnt := rfl

/-! ## modProx -/

@[simp] theorem modProx_prox (f : Prox → Prox) (s : State) : (modProx f s).prox = f s.prox := rfl
@[simp] theorem modProx_pending (f : Prox → Prox) (s : State) : (modProx f s).pending = s.pending := rfl
@[simp] theorem modProx_clk (f : Prox → Prox) (s : State) : (modProx f s).clk = s.clk := rfl
@[simp] theorem modProx_free (f : Prox → Prox) (s : State) : (modProx f s).free = s.free := rfl
@[simp] theorem modProx_fresh (f : Prox → Prox) (s : State) : (modProx f s).fresh = s.fresh := rfl
@[simp] theorem modProx_dev (f : Prox → Prox) (s : State) : (modProx f s).dev = s.dev := rfl
@[simp] theorem modProx_nv (f : Prox → Prox) (s : State) : (modProx f s).nv = s.nv := rfl
@[simp] theorem modProx_port (f : Prox → Prox) (s : State) : (modProx f s).port = s.port := rfl
@[simp] theorem modProx_win (f : Prox → Prox) (s : State) : (modProx f s).win = s.win := rfl
@[simp] theorem modProx_par (f : Prox → Prox) (s : State) : (modProx f s).par = s.par := rfl
@[simp] theorem modProx_staged (f : Prox → Prox) (s : State) : (modProx f s).staged = s.staged := rfl
@[simp] theorem modProx_tb (f : Prox → Prox) (s : State) : (modProx f s).tb = s.tb := rfl
@[simp] theorem modProx_sched (f : Prox → Prox) (s : State) : (modProx f s).sched = s.sched := rfl
@[simp] theorem modProx_lines (f : Prox → Prox) (s : State) : (modProx f s).lines = s.lines := rfl
@[simp] theorem modProx_roster (f : Prox → Prox) (s : State) : (modProx f s).roster = s.roster := rfl
@[simp] theorem modProx_isl (f : Prox → Prox) (s : State) : (modProx f s).isl = s.isl := rfl
@[simp] theorem modProx_keys (f : Prox → Prox) (s : State) : (modProx f s).keys = s.keys := rfl
@[simp] theorem modProx_locks (f : Prox → Prox) (s : State) : (modProx f s).locks = s.locks := rfl
@[simp] theorem modProx_ilkEvents (f : Prox → Prox) (s : State) : (modProx f s).ilkEvents = s.ilkEvents := rfl
@[simp] theorem modProx_radio (f : Prox → Prox) (s : State) : (modProx f s).radio = s.radio := rfl
@[simp] theorem modProx_sec (f : Prox → Prox) (s : State) : (modProx f s).sec = s.sec := rfl
@[simp] theorem modProx_pwr (f : Prox → Prox) (s : State) : (modProx f s).pwr = s.pwr := rfl
@[simp] theorem modProx_twin (f : Prox → Prox) (s : State) : (modProx f s).twin = s.twin := rfl
@[simp] theorem modProx_bus (f : Prox → Prox) (s : State) : (modProx f s).bus = s.bus := rfl
@[simp] theorem modProx_upd (f : Prox → Prox) (s : State) : (modProx f s).upd = s.upd := rfl
@[simp] theorem modProx_mnt (f : Prox → Prox) (s : State) : (modProx f s).mnt = s.mnt := rfl

/-! ## modRadio -/

@[simp] theorem modRadio_radio (f : Radio → Radio) (s : State) : (modRadio f s).radio = f s.radio := rfl
@[simp] theorem modRadio_pending (f : Radio → Radio) (s : State) : (modRadio f s).pending = s.pending := rfl
@[simp] theorem modRadio_clk (f : Radio → Radio) (s : State) : (modRadio f s).clk = s.clk := rfl
@[simp] theorem modRadio_free (f : Radio → Radio) (s : State) : (modRadio f s).free = s.free := rfl
@[simp] theorem modRadio_fresh (f : Radio → Radio) (s : State) : (modRadio f s).fresh = s.fresh := rfl
@[simp] theorem modRadio_dev (f : Radio → Radio) (s : State) : (modRadio f s).dev = s.dev := rfl
@[simp] theorem modRadio_nv (f : Radio → Radio) (s : State) : (modRadio f s).nv = s.nv := rfl
@[simp] theorem modRadio_port (f : Radio → Radio) (s : State) : (modRadio f s).port = s.port := rfl
@[simp] theorem modRadio_win (f : Radio → Radio) (s : State) : (modRadio f s).win = s.win := rfl
@[simp] theorem modRadio_par (f : Radio → Radio) (s : State) : (modRadio f s).par = s.par := rfl
@[simp] theorem modRadio_staged (f : Radio → Radio) (s : State) : (modRadio f s).staged = s.staged := rfl
@[simp] theorem modRadio_tb (f : Radio → Radio) (s : State) : (modRadio f s).tb = s.tb := rfl
@[simp] theorem modRadio_sched (f : Radio → Radio) (s : State) : (modRadio f s).sched = s.sched := rfl
@[simp] theorem modRadio_lines (f : Radio → Radio) (s : State) : (modRadio f s).lines = s.lines := rfl
@[simp] theorem modRadio_roster (f : Radio → Radio) (s : State) : (modRadio f s).roster = s.roster := rfl
@[simp] theorem modRadio_isl (f : Radio → Radio) (s : State) : (modRadio f s).isl = s.isl := rfl
@[simp] theorem modRadio_keys (f : Radio → Radio) (s : State) : (modRadio f s).keys = s.keys := rfl
@[simp] theorem modRadio_locks (f : Radio → Radio) (s : State) : (modRadio f s).locks = s.locks := rfl
@[simp] theorem modRadio_ilkEvents (f : Radio → Radio) (s : State) : (modRadio f s).ilkEvents = s.ilkEvents := rfl
@[simp] theorem modRadio_prox (f : Radio → Radio) (s : State) : (modRadio f s).prox = s.prox := rfl
@[simp] theorem modRadio_sec (f : Radio → Radio) (s : State) : (modRadio f s).sec = s.sec := rfl
@[simp] theorem modRadio_pwr (f : Radio → Radio) (s : State) : (modRadio f s).pwr = s.pwr := rfl
@[simp] theorem modRadio_twin (f : Radio → Radio) (s : State) : (modRadio f s).twin = s.twin := rfl
@[simp] theorem modRadio_bus (f : Radio → Radio) (s : State) : (modRadio f s).bus = s.bus := rfl
@[simp] theorem modRadio_upd (f : Radio → Radio) (s : State) : (modRadio f s).upd = s.upd := rfl
@[simp] theorem modRadio_mnt (f : Radio → Radio) (s : State) : (modRadio f s).mnt = s.mnt := rfl

/-! ## modSec -/

@[simp] theorem modSec_sec (f : Sec → Sec) (s : State) : (modSec f s).sec = f s.sec := rfl
@[simp] theorem modSec_pending (f : Sec → Sec) (s : State) : (modSec f s).pending = s.pending := rfl
@[simp] theorem modSec_clk (f : Sec → Sec) (s : State) : (modSec f s).clk = s.clk := rfl
@[simp] theorem modSec_free (f : Sec → Sec) (s : State) : (modSec f s).free = s.free := rfl
@[simp] theorem modSec_fresh (f : Sec → Sec) (s : State) : (modSec f s).fresh = s.fresh := rfl
@[simp] theorem modSec_dev (f : Sec → Sec) (s : State) : (modSec f s).dev = s.dev := rfl
@[simp] theorem modSec_nv (f : Sec → Sec) (s : State) : (modSec f s).nv = s.nv := rfl
@[simp] theorem modSec_port (f : Sec → Sec) (s : State) : (modSec f s).port = s.port := rfl
@[simp] theorem modSec_win (f : Sec → Sec) (s : State) : (modSec f s).win = s.win := rfl
@[simp] theorem modSec_par (f : Sec → Sec) (s : State) : (modSec f s).par = s.par := rfl
@[simp] theorem modSec_staged (f : Sec → Sec) (s : State) : (modSec f s).staged = s.staged := rfl
@[simp] theorem modSec_tb (f : Sec → Sec) (s : State) : (modSec f s).tb = s.tb := rfl
@[simp] theorem modSec_sched (f : Sec → Sec) (s : State) : (modSec f s).sched = s.sched := rfl
@[simp] theorem modSec_lines (f : Sec → Sec) (s : State) : (modSec f s).lines = s.lines := rfl
@[simp] theorem modSec_roster (f : Sec → Sec) (s : State) : (modSec f s).roster = s.roster := rfl
@[simp] theorem modSec_isl (f : Sec → Sec) (s : State) : (modSec f s).isl = s.isl := rfl
@[simp] theorem modSec_keys (f : Sec → Sec) (s : State) : (modSec f s).keys = s.keys := rfl
@[simp] theorem modSec_locks (f : Sec → Sec) (s : State) : (modSec f s).locks = s.locks := rfl
@[simp] theorem modSec_ilkEvents (f : Sec → Sec) (s : State) : (modSec f s).ilkEvents = s.ilkEvents := rfl
@[simp] theorem modSec_prox (f : Sec → Sec) (s : State) : (modSec f s).prox = s.prox := rfl
@[simp] theorem modSec_radio (f : Sec → Sec) (s : State) : (modSec f s).radio = s.radio := rfl
@[simp] theorem modSec_pwr (f : Sec → Sec) (s : State) : (modSec f s).pwr = s.pwr := rfl
@[simp] theorem modSec_twin (f : Sec → Sec) (s : State) : (modSec f s).twin = s.twin := rfl
@[simp] theorem modSec_bus (f : Sec → Sec) (s : State) : (modSec f s).bus = s.bus := rfl
@[simp] theorem modSec_upd (f : Sec → Sec) (s : State) : (modSec f s).upd = s.upd := rfl
@[simp] theorem modSec_mnt (f : Sec → Sec) (s : State) : (modSec f s).mnt = s.mnt := rfl

/-! ## modPwr -/

@[simp] theorem modPwr_pwr (f : Pwr → Pwr) (s : State) : (modPwr f s).pwr = f s.pwr := rfl
@[simp] theorem modPwr_pending (f : Pwr → Pwr) (s : State) : (modPwr f s).pending = s.pending := rfl
@[simp] theorem modPwr_clk (f : Pwr → Pwr) (s : State) : (modPwr f s).clk = s.clk := rfl
@[simp] theorem modPwr_free (f : Pwr → Pwr) (s : State) : (modPwr f s).free = s.free := rfl
@[simp] theorem modPwr_fresh (f : Pwr → Pwr) (s : State) : (modPwr f s).fresh = s.fresh := rfl
@[simp] theorem modPwr_dev (f : Pwr → Pwr) (s : State) : (modPwr f s).dev = s.dev := rfl
@[simp] theorem modPwr_nv (f : Pwr → Pwr) (s : State) : (modPwr f s).nv = s.nv := rfl
@[simp] theorem modPwr_port (f : Pwr → Pwr) (s : State) : (modPwr f s).port = s.port := rfl
@[simp] theorem modPwr_win (f : Pwr → Pwr) (s : State) : (modPwr f s).win = s.win := rfl
@[simp] theorem modPwr_par (f : Pwr → Pwr) (s : State) : (modPwr f s).par = s.par := rfl
@[simp] theorem modPwr_staged (f : Pwr → Pwr) (s : State) : (modPwr f s).staged = s.staged := rfl
@[simp] theorem modPwr_tb (f : Pwr → Pwr) (s : State) : (modPwr f s).tb = s.tb := rfl
@[simp] theorem modPwr_sched (f : Pwr → Pwr) (s : State) : (modPwr f s).sched = s.sched := rfl
@[simp] theorem modPwr_lines (f : Pwr → Pwr) (s : State) : (modPwr f s).lines = s.lines := rfl
@[simp] theorem modPwr_roster (f : Pwr → Pwr) (s : State) : (modPwr f s).roster = s.roster := rfl
@[simp] theorem modPwr_isl (f : Pwr → Pwr) (s : State) : (modPwr f s).isl = s.isl := rfl
@[simp] theorem modPwr_keys (f : Pwr → Pwr) (s : State) : (modPwr f s).keys = s.keys := rfl
@[simp] theorem modPwr_locks (f : Pwr → Pwr) (s : State) : (modPwr f s).locks = s.locks := rfl
@[simp] theorem modPwr_ilkEvents (f : Pwr → Pwr) (s : State) : (modPwr f s).ilkEvents = s.ilkEvents := rfl
@[simp] theorem modPwr_prox (f : Pwr → Pwr) (s : State) : (modPwr f s).prox = s.prox := rfl
@[simp] theorem modPwr_radio (f : Pwr → Pwr) (s : State) : (modPwr f s).radio = s.radio := rfl
@[simp] theorem modPwr_sec (f : Pwr → Pwr) (s : State) : (modPwr f s).sec = s.sec := rfl
@[simp] theorem modPwr_twin (f : Pwr → Pwr) (s : State) : (modPwr f s).twin = s.twin := rfl
@[simp] theorem modPwr_bus (f : Pwr → Pwr) (s : State) : (modPwr f s).bus = s.bus := rfl
@[simp] theorem modPwr_upd (f : Pwr → Pwr) (s : State) : (modPwr f s).upd = s.upd := rfl
@[simp] theorem modPwr_mnt (f : Pwr → Pwr) (s : State) : (modPwr f s).mnt = s.mnt := rfl

/-! ## modTwin -/

@[simp] theorem modTwin_twin (f : Twin → Twin) (s : State) : (modTwin f s).twin = f s.twin := rfl
@[simp] theorem modTwin_pending (f : Twin → Twin) (s : State) : (modTwin f s).pending = s.pending := rfl
@[simp] theorem modTwin_clk (f : Twin → Twin) (s : State) : (modTwin f s).clk = s.clk := rfl
@[simp] theorem modTwin_free (f : Twin → Twin) (s : State) : (modTwin f s).free = s.free := rfl
@[simp] theorem modTwin_fresh (f : Twin → Twin) (s : State) : (modTwin f s).fresh = s.fresh := rfl
@[simp] theorem modTwin_dev (f : Twin → Twin) (s : State) : (modTwin f s).dev = s.dev := rfl
@[simp] theorem modTwin_nv (f : Twin → Twin) (s : State) : (modTwin f s).nv = s.nv := rfl
@[simp] theorem modTwin_port (f : Twin → Twin) (s : State) : (modTwin f s).port = s.port := rfl
@[simp] theorem modTwin_win (f : Twin → Twin) (s : State) : (modTwin f s).win = s.win := rfl
@[simp] theorem modTwin_par (f : Twin → Twin) (s : State) : (modTwin f s).par = s.par := rfl
@[simp] theorem modTwin_staged (f : Twin → Twin) (s : State) : (modTwin f s).staged = s.staged := rfl
@[simp] theorem modTwin_tb (f : Twin → Twin) (s : State) : (modTwin f s).tb = s.tb := rfl
@[simp] theorem modTwin_sched (f : Twin → Twin) (s : State) : (modTwin f s).sched = s.sched := rfl
@[simp] theorem modTwin_lines (f : Twin → Twin) (s : State) : (modTwin f s).lines = s.lines := rfl
@[simp] theorem modTwin_roster (f : Twin → Twin) (s : State) : (modTwin f s).roster = s.roster := rfl
@[simp] theorem modTwin_isl (f : Twin → Twin) (s : State) : (modTwin f s).isl = s.isl := rfl
@[simp] theorem modTwin_keys (f : Twin → Twin) (s : State) : (modTwin f s).keys = s.keys := rfl
@[simp] theorem modTwin_locks (f : Twin → Twin) (s : State) : (modTwin f s).locks = s.locks := rfl
@[simp] theorem modTwin_ilkEvents (f : Twin → Twin) (s : State) : (modTwin f s).ilkEvents = s.ilkEvents := rfl
@[simp] theorem modTwin_prox (f : Twin → Twin) (s : State) : (modTwin f s).prox = s.prox := rfl
@[simp] theorem modTwin_radio (f : Twin → Twin) (s : State) : (modTwin f s).radio = s.radio := rfl
@[simp] theorem modTwin_sec (f : Twin → Twin) (s : State) : (modTwin f s).sec = s.sec := rfl
@[simp] theorem modTwin_pwr (f : Twin → Twin) (s : State) : (modTwin f s).pwr = s.pwr := rfl
@[simp] theorem modTwin_bus (f : Twin → Twin) (s : State) : (modTwin f s).bus = s.bus := rfl
@[simp] theorem modTwin_upd (f : Twin → Twin) (s : State) : (modTwin f s).upd = s.upd := rfl
@[simp] theorem modTwin_mnt (f : Twin → Twin) (s : State) : (modTwin f s).mnt = s.mnt := rfl

/-! ## modBus -/

@[simp] theorem modBus_bus (f : Bus → Bus) (s : State) : (modBus f s).bus = f s.bus := rfl
@[simp] theorem modBus_pending (f : Bus → Bus) (s : State) : (modBus f s).pending = s.pending := rfl
@[simp] theorem modBus_clk (f : Bus → Bus) (s : State) : (modBus f s).clk = s.clk := rfl
@[simp] theorem modBus_free (f : Bus → Bus) (s : State) : (modBus f s).free = s.free := rfl
@[simp] theorem modBus_fresh (f : Bus → Bus) (s : State) : (modBus f s).fresh = s.fresh := rfl
@[simp] theorem modBus_dev (f : Bus → Bus) (s : State) : (modBus f s).dev = s.dev := rfl
@[simp] theorem modBus_nv (f : Bus → Bus) (s : State) : (modBus f s).nv = s.nv := rfl
@[simp] theorem modBus_port (f : Bus → Bus) (s : State) : (modBus f s).port = s.port := rfl
@[simp] theorem modBus_win (f : Bus → Bus) (s : State) : (modBus f s).win = s.win := rfl
@[simp] theorem modBus_par (f : Bus → Bus) (s : State) : (modBus f s).par = s.par := rfl
@[simp] theorem modBus_staged (f : Bus → Bus) (s : State) : (modBus f s).staged = s.staged := rfl
@[simp] theorem modBus_tb (f : Bus → Bus) (s : State) : (modBus f s).tb = s.tb := rfl
@[simp] theorem modBus_sched (f : Bus → Bus) (s : State) : (modBus f s).sched = s.sched := rfl
@[simp] theorem modBus_lines (f : Bus → Bus) (s : State) : (modBus f s).lines = s.lines := rfl
@[simp] theorem modBus_roster (f : Bus → Bus) (s : State) : (modBus f s).roster = s.roster := rfl
@[simp] theorem modBus_isl (f : Bus → Bus) (s : State) : (modBus f s).isl = s.isl := rfl
@[simp] theorem modBus_keys (f : Bus → Bus) (s : State) : (modBus f s).keys = s.keys := rfl
@[simp] theorem modBus_locks (f : Bus → Bus) (s : State) : (modBus f s).locks = s.locks := rfl
@[simp] theorem modBus_ilkEvents (f : Bus → Bus) (s : State) : (modBus f s).ilkEvents = s.ilkEvents := rfl
@[simp] theorem modBus_prox (f : Bus → Bus) (s : State) : (modBus f s).prox = s.prox := rfl
@[simp] theorem modBus_radio (f : Bus → Bus) (s : State) : (modBus f s).radio = s.radio := rfl
@[simp] theorem modBus_sec (f : Bus → Bus) (s : State) : (modBus f s).sec = s.sec := rfl
@[simp] theorem modBus_pwr (f : Bus → Bus) (s : State) : (modBus f s).pwr = s.pwr := rfl
@[simp] theorem modBus_twin (f : Bus → Bus) (s : State) : (modBus f s).twin = s.twin := rfl
@[simp] theorem modBus_upd (f : Bus → Bus) (s : State) : (modBus f s).upd = s.upd := rfl
@[simp] theorem modBus_mnt (f : Bus → Bus) (s : State) : (modBus f s).mnt = s.mnt := rfl

/-! ## modUpd -/

@[simp] theorem modUpd_upd (f : Upd → Upd) (s : State) : (modUpd f s).upd = f s.upd := rfl
@[simp] theorem modUpd_pending (f : Upd → Upd) (s : State) : (modUpd f s).pending = s.pending := rfl
@[simp] theorem modUpd_clk (f : Upd → Upd) (s : State) : (modUpd f s).clk = s.clk := rfl
@[simp] theorem modUpd_free (f : Upd → Upd) (s : State) : (modUpd f s).free = s.free := rfl
@[simp] theorem modUpd_fresh (f : Upd → Upd) (s : State) : (modUpd f s).fresh = s.fresh := rfl
@[simp] theorem modUpd_dev (f : Upd → Upd) (s : State) : (modUpd f s).dev = s.dev := rfl
@[simp] theorem modUpd_nv (f : Upd → Upd) (s : State) : (modUpd f s).nv = s.nv := rfl
@[simp] theorem modUpd_port (f : Upd → Upd) (s : State) : (modUpd f s).port = s.port := rfl
@[simp] theorem modUpd_win (f : Upd → Upd) (s : State) : (modUpd f s).win = s.win := rfl
@[simp] theorem modUpd_par (f : Upd → Upd) (s : State) : (modUpd f s).par = s.par := rfl
@[simp] theorem modUpd_staged (f : Upd → Upd) (s : State) : (modUpd f s).staged = s.staged := rfl
@[simp] theorem modUpd_tb (f : Upd → Upd) (s : State) : (modUpd f s).tb = s.tb := rfl
@[simp] theorem modUpd_sched (f : Upd → Upd) (s : State) : (modUpd f s).sched = s.sched := rfl
@[simp] theorem modUpd_lines (f : Upd → Upd) (s : State) : (modUpd f s).lines = s.lines := rfl
@[simp] theorem modUpd_roster (f : Upd → Upd) (s : State) : (modUpd f s).roster = s.roster := rfl
@[simp] theorem modUpd_isl (f : Upd → Upd) (s : State) : (modUpd f s).isl = s.isl := rfl
@[simp] theorem modUpd_keys (f : Upd → Upd) (s : State) : (modUpd f s).keys = s.keys := rfl
@[simp] theorem modUpd_locks (f : Upd → Upd) (s : State) : (modUpd f s).locks = s.locks := rfl
@[simp] theorem modUpd_ilkEvents (f : Upd → Upd) (s : State) : (modUpd f s).ilkEvents = s.ilkEvents := rfl
@[simp] theorem modUpd_prox (f : Upd → Upd) (s : State) : (modUpd f s).prox = s.prox := rfl
@[simp] theorem modUpd_radio (f : Upd → Upd) (s : State) : (modUpd f s).radio = s.radio := rfl
@[simp] theorem modUpd_sec (f : Upd → Upd) (s : State) : (modUpd f s).sec = s.sec := rfl
@[simp] theorem modUpd_pwr (f : Upd → Upd) (s : State) : (modUpd f s).pwr = s.pwr := rfl
@[simp] theorem modUpd_twin (f : Upd → Upd) (s : State) : (modUpd f s).twin = s.twin := rfl
@[simp] theorem modUpd_bus (f : Upd → Upd) (s : State) : (modUpd f s).bus = s.bus := rfl
@[simp] theorem modUpd_mnt (f : Upd → Upd) (s : State) : (modUpd f s).mnt = s.mnt := rfl

/-! ## modMnt -/

@[simp] theorem modMnt_mnt (f : Maint → Maint) (s : State) : (modMnt f s).mnt = f s.mnt := rfl
@[simp] theorem modMnt_pending (f : Maint → Maint) (s : State) : (modMnt f s).pending = s.pending := rfl
@[simp] theorem modMnt_clk (f : Maint → Maint) (s : State) : (modMnt f s).clk = s.clk := rfl
@[simp] theorem modMnt_free (f : Maint → Maint) (s : State) : (modMnt f s).free = s.free := rfl
@[simp] theorem modMnt_fresh (f : Maint → Maint) (s : State) : (modMnt f s).fresh = s.fresh := rfl
@[simp] theorem modMnt_dev (f : Maint → Maint) (s : State) : (modMnt f s).dev = s.dev := rfl
@[simp] theorem modMnt_nv (f : Maint → Maint) (s : State) : (modMnt f s).nv = s.nv := rfl
@[simp] theorem modMnt_port (f : Maint → Maint) (s : State) : (modMnt f s).port = s.port := rfl
@[simp] theorem modMnt_win (f : Maint → Maint) (s : State) : (modMnt f s).win = s.win := rfl
@[simp] theorem modMnt_par (f : Maint → Maint) (s : State) : (modMnt f s).par = s.par := rfl
@[simp] theorem modMnt_staged (f : Maint → Maint) (s : State) : (modMnt f s).staged = s.staged := rfl
@[simp] theorem modMnt_tb (f : Maint → Maint) (s : State) : (modMnt f s).tb = s.tb := rfl
@[simp] theorem modMnt_sched (f : Maint → Maint) (s : State) : (modMnt f s).sched = s.sched := rfl
@[simp] theorem modMnt_lines (f : Maint → Maint) (s : State) : (modMnt f s).lines = s.lines := rfl
@[simp] theorem modMnt_roster (f : Maint → Maint) (s : State) : (modMnt f s).roster = s.roster := rfl
@[simp] theorem modMnt_isl (f : Maint → Maint) (s : State) : (modMnt f s).isl = s.isl := rfl
@[simp] theorem modMnt_keys (f : Maint → Maint) (s : State) : (modMnt f s).keys = s.keys := rfl
@[simp] theorem modMnt_locks (f : Maint → Maint) (s : State) : (modMnt f s).locks = s.locks := rfl
@[simp] theorem modMnt_ilkEvents (f : Maint → Maint) (s : State) : (modMnt f s).ilkEvents = s.ilkEvents := rfl
@[simp] theorem modMnt_prox (f : Maint → Maint) (s : State) : (modMnt f s).prox = s.prox := rfl
@[simp] theorem modMnt_radio (f : Maint → Maint) (s : State) : (modMnt f s).radio = s.radio := rfl
@[simp] theorem modMnt_sec (f : Maint → Maint) (s : State) : (modMnt f s).sec = s.sec := rfl
@[simp] theorem modMnt_pwr (f : Maint → Maint) (s : State) : (modMnt f s).pwr = s.pwr := rfl
@[simp] theorem modMnt_twin (f : Maint → Maint) (s : State) : (modMnt f s).twin = s.twin := rfl
@[simp] theorem modMnt_bus (f : Maint → Maint) (s : State) : (modMnt f s).bus = s.bus := rfl
@[simp] theorem modMnt_upd (f : Maint → Maint) (s : State) : (modMnt f s).upd = s.upd := rfl

/-! ## modPar -/

@[simp] theorem modPar_par (f : Cells → Cells) (s : State) : (modPar f s).par = f s.par := rfl
@[simp] theorem modPar_pending (f : Cells → Cells) (s : State) : (modPar f s).pending = s.pending := rfl
@[simp] theorem modPar_clk (f : Cells → Cells) (s : State) : (modPar f s).clk = s.clk := rfl
@[simp] theorem modPar_free (f : Cells → Cells) (s : State) : (modPar f s).free = s.free := rfl
@[simp] theorem modPar_fresh (f : Cells → Cells) (s : State) : (modPar f s).fresh = s.fresh := rfl
@[simp] theorem modPar_dev (f : Cells → Cells) (s : State) : (modPar f s).dev = s.dev := rfl
@[simp] theorem modPar_nv (f : Cells → Cells) (s : State) : (modPar f s).nv = s.nv := rfl
@[simp] theorem modPar_port (f : Cells → Cells) (s : State) : (modPar f s).port = s.port := rfl
@[simp] theorem modPar_win (f : Cells → Cells) (s : State) : (modPar f s).win = s.win := rfl
@[simp] theorem modPar_staged (f : Cells → Cells) (s : State) : (modPar f s).staged = s.staged := rfl
@[simp] theorem modPar_tb (f : Cells → Cells) (s : State) : (modPar f s).tb = s.tb := rfl
@[simp] theorem modPar_sched (f : Cells → Cells) (s : State) : (modPar f s).sched = s.sched := rfl
@[simp] theorem modPar_lines (f : Cells → Cells) (s : State) : (modPar f s).lines = s.lines := rfl
@[simp] theorem modPar_roster (f : Cells → Cells) (s : State) : (modPar f s).roster = s.roster := rfl
@[simp] theorem modPar_isl (f : Cells → Cells) (s : State) : (modPar f s).isl = s.isl := rfl
@[simp] theorem modPar_keys (f : Cells → Cells) (s : State) : (modPar f s).keys = s.keys := rfl
@[simp] theorem modPar_locks (f : Cells → Cells) (s : State) : (modPar f s).locks = s.locks := rfl
@[simp] theorem modPar_ilkEvents (f : Cells → Cells) (s : State) : (modPar f s).ilkEvents = s.ilkEvents := rfl
@[simp] theorem modPar_prox (f : Cells → Cells) (s : State) : (modPar f s).prox = s.prox := rfl
@[simp] theorem modPar_radio (f : Cells → Cells) (s : State) : (modPar f s).radio = s.radio := rfl
@[simp] theorem modPar_sec (f : Cells → Cells) (s : State) : (modPar f s).sec = s.sec := rfl
@[simp] theorem modPar_pwr (f : Cells → Cells) (s : State) : (modPar f s).pwr = s.pwr := rfl
@[simp] theorem modPar_twin (f : Cells → Cells) (s : State) : (modPar f s).twin = s.twin := rfl
@[simp] theorem modPar_bus (f : Cells → Cells) (s : State) : (modPar f s).bus = s.bus := rfl
@[simp] theorem modPar_upd (f : Cells → Cells) (s : State) : (modPar f s).upd = s.upd := rfl
@[simp] theorem modPar_mnt (f : Cells → Cells) (s : State) : (modPar f s).mnt = s.mnt := rfl

/-! ## modStaged -/

@[simp] theorem modStaged_staged (f : Cells → Cells) (s : State) : (modStaged f s).staged = f s.staged := rfl
@[simp] theorem modStaged_pending (f : Cells → Cells) (s : State) : (modStaged f s).pending = s.pending := rfl
@[simp] theorem modStaged_clk (f : Cells → Cells) (s : State) : (modStaged f s).clk = s.clk := rfl
@[simp] theorem modStaged_free (f : Cells → Cells) (s : State) : (modStaged f s).free = s.free := rfl
@[simp] theorem modStaged_fresh (f : Cells → Cells) (s : State) : (modStaged f s).fresh = s.fresh := rfl
@[simp] theorem modStaged_dev (f : Cells → Cells) (s : State) : (modStaged f s).dev = s.dev := rfl
@[simp] theorem modStaged_nv (f : Cells → Cells) (s : State) : (modStaged f s).nv = s.nv := rfl
@[simp] theorem modStaged_port (f : Cells → Cells) (s : State) : (modStaged f s).port = s.port := rfl
@[simp] theorem modStaged_win (f : Cells → Cells) (s : State) : (modStaged f s).win = s.win := rfl
@[simp] theorem modStaged_par (f : Cells → Cells) (s : State) : (modStaged f s).par = s.par := rfl
@[simp] theorem modStaged_tb (f : Cells → Cells) (s : State) : (modStaged f s).tb = s.tb := rfl
@[simp] theorem modStaged_sched (f : Cells → Cells) (s : State) : (modStaged f s).sched = s.sched := rfl
@[simp] theorem modStaged_lines (f : Cells → Cells) (s : State) : (modStaged f s).lines = s.lines := rfl
@[simp] theorem modStaged_roster (f : Cells → Cells) (s : State) : (modStaged f s).roster = s.roster := rfl
@[simp] theorem modStaged_isl (f : Cells → Cells) (s : State) : (modStaged f s).isl = s.isl := rfl
@[simp] theorem modStaged_keys (f : Cells → Cells) (s : State) : (modStaged f s).keys = s.keys := rfl
@[simp] theorem modStaged_locks (f : Cells → Cells) (s : State) : (modStaged f s).locks = s.locks := rfl
@[simp] theorem modStaged_ilkEvents (f : Cells → Cells) (s : State) : (modStaged f s).ilkEvents = s.ilkEvents := rfl
@[simp] theorem modStaged_prox (f : Cells → Cells) (s : State) : (modStaged f s).prox = s.prox := rfl
@[simp] theorem modStaged_radio (f : Cells → Cells) (s : State) : (modStaged f s).radio = s.radio := rfl
@[simp] theorem modStaged_sec (f : Cells → Cells) (s : State) : (modStaged f s).sec = s.sec := rfl
@[simp] theorem modStaged_pwr (f : Cells → Cells) (s : State) : (modStaged f s).pwr = s.pwr := rfl
@[simp] theorem modStaged_twin (f : Cells → Cells) (s : State) : (modStaged f s).twin = s.twin := rfl
@[simp] theorem modStaged_bus (f : Cells → Cells) (s : State) : (modStaged f s).bus = s.bus := rfl
@[simp] theorem modStaged_upd (f : Cells → Cells) (s : State) : (modStaged f s).upd = s.upd := rfl
@[simp] theorem modStaged_mnt (f : Cells → Cells) (s : State) : (modStaged f s).mnt = s.mnt := rfl

/-! ## modIlk -/

@[simp] theorem modIlk_ilkEvents (f : BitVec 12 → BitVec 12) (s : State) : (modIlk f s).ilkEvents = f s.ilkEvents := rfl
@[simp] theorem modIlk_pending (f : BitVec 12 → BitVec 12) (s : State) : (modIlk f s).pending = s.pending := rfl
@[simp] theorem modIlk_clk (f : BitVec 12 → BitVec 12) (s : State) : (modIlk f s).clk = s.clk := rfl
@[simp] theorem modIlk_free (f : BitVec 12 → BitVec 12) (s : State) : (modIlk f s).free = s.free := rfl
@[simp] theorem modIlk_fresh (f : BitVec 12 → BitVec 12) (s : State) : (modIlk f s).fresh = s.fresh := rfl
@[simp] theorem modIlk_dev (f : BitVec 12 → BitVec 12) (s : State) : (modIlk f s).dev = s.dev := rfl
@[simp] theorem modIlk_nv (f : BitVec 12 → BitVec 12) (s : State) : (modIlk f s).nv = s.nv := rfl
@[simp] theorem modIlk_port (f : BitVec 12 → BitVec 12) (s : State) : (modIlk f s).port = s.port := rfl
@[simp] theorem modIlk_win (f : BitVec 12 → BitVec 12) (s : State) : (modIlk f s).win = s.win := rfl
@[simp] theorem modIlk_par (f : BitVec 12 → BitVec 12) (s : State) : (modIlk f s).par = s.par := rfl
@[simp] theorem modIlk_staged (f : BitVec 12 → BitVec 12) (s : State) : (modIlk f s).staged = s.staged := rfl
@[simp] theorem modIlk_tb (f : BitVec 12 → BitVec 12) (s : State) : (modIlk f s).tb = s.tb := rfl
@[simp] theorem modIlk_sched (f : BitVec 12 → BitVec 12) (s : State) : (modIlk f s).sched = s.sched := rfl
@[simp] theorem modIlk_lines (f : BitVec 12 → BitVec 12) (s : State) : (modIlk f s).lines = s.lines := rfl
@[simp] theorem modIlk_roster (f : BitVec 12 → BitVec 12) (s : State) : (modIlk f s).roster = s.roster := rfl
@[simp] theorem modIlk_isl (f : BitVec 12 → BitVec 12) (s : State) : (modIlk f s).isl = s.isl := rfl
@[simp] theorem modIlk_keys (f : BitVec 12 → BitVec 12) (s : State) : (modIlk f s).keys = s.keys := rfl
@[simp] theorem modIlk_locks (f : BitVec 12 → BitVec 12) (s : State) : (modIlk f s).locks = s.locks := rfl
@[simp] theorem modIlk_prox (f : BitVec 12 → BitVec 12) (s : State) : (modIlk f s).prox = s.prox := rfl
@[simp] theorem modIlk_radio (f : BitVec 12 → BitVec 12) (s : State) : (modIlk f s).radio = s.radio := rfl
@[simp] theorem modIlk_sec (f : BitVec 12 → BitVec 12) (s : State) : (modIlk f s).sec = s.sec := rfl
@[simp] theorem modIlk_pwr (f : BitVec 12 → BitVec 12) (s : State) : (modIlk f s).pwr = s.pwr := rfl
@[simp] theorem modIlk_twin (f : BitVec 12 → BitVec 12) (s : State) : (modIlk f s).twin = s.twin := rfl
@[simp] theorem modIlk_bus (f : BitVec 12 → BitVec 12) (s : State) : (modIlk f s).bus = s.bus := rfl
@[simp] theorem modIlk_upd (f : BitVec 12 → BitVec 12) (s : State) : (modIlk f s).upd = s.upd := rfl
@[simp] theorem modIlk_mnt (f : BitVec 12 → BitVec 12) (s : State) : (modIlk f s).mnt = s.mnt := rfl

/-! ## modKeys -/

@[simp] theorem modKeys_keys (f : List Key → List Key) (s : State) : (modKeys f s).keys = f s.keys := rfl
@[simp] theorem modKeys_pending (f : List Key → List Key) (s : State) : (modKeys f s).pending = s.pending := rfl
@[simp] theorem modKeys_clk (f : List Key → List Key) (s : State) : (modKeys f s).clk = s.clk := rfl
@[simp] theorem modKeys_free (f : List Key → List Key) (s : State) : (modKeys f s).free = s.free := rfl
@[simp] theorem modKeys_fresh (f : List Key → List Key) (s : State) : (modKeys f s).fresh = s.fresh := rfl
@[simp] theorem modKeys_dev (f : List Key → List Key) (s : State) : (modKeys f s).dev = s.dev := rfl
@[simp] theorem modKeys_nv (f : List Key → List Key) (s : State) : (modKeys f s).nv = s.nv := rfl
@[simp] theorem modKeys_port (f : List Key → List Key) (s : State) : (modKeys f s).port = s.port := rfl
@[simp] theorem modKeys_win (f : List Key → List Key) (s : State) : (modKeys f s).win = s.win := rfl
@[simp] theorem modKeys_par (f : List Key → List Key) (s : State) : (modKeys f s).par = s.par := rfl
@[simp] theorem modKeys_staged (f : List Key → List Key) (s : State) : (modKeys f s).staged = s.staged := rfl
@[simp] theorem modKeys_tb (f : List Key → List Key) (s : State) : (modKeys f s).tb = s.tb := rfl
@[simp] theorem modKeys_sched (f : List Key → List Key) (s : State) : (modKeys f s).sched = s.sched := rfl
@[simp] theorem modKeys_lines (f : List Key → List Key) (s : State) : (modKeys f s).lines = s.lines := rfl
@[simp] theorem modKeys_roster (f : List Key → List Key) (s : State) : (modKeys f s).roster = s.roster := rfl
@[simp] theorem modKeys_isl (f : List Key → List Key) (s : State) : (modKeys f s).isl = s.isl := rfl
@[simp] theorem modKeys_locks (f : List Key → List Key) (s : State) : (modKeys f s).locks = s.locks := rfl
@[simp] theorem modKeys_ilkEvents (f : List Key → List Key) (s : State) : (modKeys f s).ilkEvents = s.ilkEvents := rfl
@[simp] theorem modKeys_prox (f : List Key → List Key) (s : State) : (modKeys f s).prox = s.prox := rfl
@[simp] theorem modKeys_radio (f : List Key → List Key) (s : State) : (modKeys f s).radio = s.radio := rfl
@[simp] theorem modKeys_sec (f : List Key → List Key) (s : State) : (modKeys f s).sec = s.sec := rfl
@[simp] theorem modKeys_pwr (f : List Key → List Key) (s : State) : (modKeys f s).pwr = s.pwr := rfl
@[simp] theorem modKeys_twin (f : List Key → List Key) (s : State) : (modKeys f s).twin = s.twin := rfl
@[simp] theorem modKeys_bus (f : List Key → List Key) (s : State) : (modKeys f s).bus = s.bus := rfl
@[simp] theorem modKeys_upd (f : List Key → List Key) (s : State) : (modKeys f s).upd = s.upd := rfl
@[simp] theorem modKeys_mnt (f : List Key → List Key) (s : State) : (modKeys f s).mnt = s.mnt := rfl

/-! ## modLine -/

@[simp] theorem modLine_lines (n : Nat) (f : Line → Line) (s : State) : (modLine n f s).lines = modNth s.lines n f := rfl
@[simp] theorem modLine_pending (n : Nat) (f : Line → Line) (s : State) : (modLine n f s).pending = s.pending := rfl
@[simp] theorem modLine_clk (n : Nat) (f : Line → Line) (s : State) : (modLine n f s).clk = s.clk := rfl
@[simp] theorem modLine_free (n : Nat) (f : Line → Line) (s : State) : (modLine n f s).free = s.free := rfl
@[simp] theorem modLine_fresh (n : Nat) (f : Line → Line) (s : State) : (modLine n f s).fresh = s.fresh := rfl
@[simp] theorem modLine_dev (n : Nat) (f : Line → Line) (s : State) : (modLine n f s).dev = s.dev := rfl
@[simp] theorem modLine_nv (n : Nat) (f : Line → Line) (s : State) : (modLine n f s).nv = s.nv := rfl
@[simp] theorem modLine_port (n : Nat) (f : Line → Line) (s : State) : (modLine n f s).port = s.port := rfl
@[simp] theorem modLine_win (n : Nat) (f : Line → Line) (s : State) : (modLine n f s).win = s.win := rfl
@[simp] theorem modLine_par (n : Nat) (f : Line → Line) (s : State) : (modLine n f s).par = s.par := rfl
@[simp] theorem modLine_staged (n : Nat) (f : Line → Line) (s : State) : (modLine n f s).staged = s.staged := rfl
@[simp] theorem modLine_tb (n : Nat) (f : Line → Line) (s : State) : (modLine n f s).tb = s.tb := rfl
@[simp] theorem modLine_sched (n : Nat) (f : Line → Line) (s : State) : (modLine n f s).sched = s.sched := rfl
@[simp] theorem modLine_roster (n : Nat) (f : Line → Line) (s : State) : (modLine n f s).roster = s.roster := rfl
@[simp] theorem modLine_isl (n : Nat) (f : Line → Line) (s : State) : (modLine n f s).isl = s.isl := rfl
@[simp] theorem modLine_keys (n : Nat) (f : Line → Line) (s : State) : (modLine n f s).keys = s.keys := rfl
@[simp] theorem modLine_locks (n : Nat) (f : Line → Line) (s : State) : (modLine n f s).locks = s.locks := rfl
@[simp] theorem modLine_ilkEvents (n : Nat) (f : Line → Line) (s : State) : (modLine n f s).ilkEvents = s.ilkEvents := rfl
@[simp] theorem modLine_prox (n : Nat) (f : Line → Line) (s : State) : (modLine n f s).prox = s.prox := rfl
@[simp] theorem modLine_radio (n : Nat) (f : Line → Line) (s : State) : (modLine n f s).radio = s.radio := rfl
@[simp] theorem modLine_sec (n : Nat) (f : Line → Line) (s : State) : (modLine n f s).sec = s.sec := rfl
@[simp] theorem modLine_pwr (n : Nat) (f : Line → Line) (s : State) : (modLine n f s).pwr = s.pwr := rfl
@[simp] theorem modLine_twin (n : Nat) (f : Line → Line) (s : State) : (modLine n f s).twin = s.twin := rfl
@[simp] theorem modLine_bus (n : Nat) (f : Line → Line) (s : State) : (modLine n f s).bus = s.bus := rfl
@[simp] theorem modLine_upd (n : Nat) (f : Line → Line) (s : State) : (modLine n f s).upd = s.upd := rfl
@[simp] theorem modLine_mnt (n : Nat) (f : Line → Line) (s : State) : (modLine n f s).mnt = s.mnt := rfl

/-! ## modKey -/

@[simp] theorem modKey_keys (n : Nat) (f : Key → Key) (s : State) : (modKey n f s).keys = modNth s.keys n f := rfl
@[simp] theorem modKey_pending (n : Nat) (f : Key → Key) (s : State) : (modKey n f s).pending = s.pending := rfl
@[simp] theorem modKey_clk (n : Nat) (f : Key → Key) (s : State) : (modKey n f s).clk = s.clk := rfl
@[simp] theorem modKey_free (n : Nat) (f : Key → Key) (s : State) : (modKey n f s).free = s.free := rfl
@[simp] theorem modKey_fresh (n : Nat) (f : Key → Key) (s : State) : (modKey n f s).fresh = s.fresh := rfl
@[simp] theorem modKey_dev (n : Nat) (f : Key → Key) (s : State) : (modKey n f s).dev = s.dev := rfl
@[simp] theorem modKey_nv (n : Nat) (f : Key → Key) (s : State) : (modKey n f s).nv = s.nv := rfl
@[simp] theorem modKey_port (n : Nat) (f : Key → Key) (s : State) : (modKey n f s).port = s.port := rfl
@[simp] theorem modKey_win (n : Nat) (f : Key → Key) (s : State) : (modKey n f s).win = s.win := rfl
@[simp] theorem modKey_par (n : Nat) (f : Key → Key) (s : State) : (modKey n f s).par = s.par := rfl
@[simp] theorem modKey_staged (n : Nat) (f : Key → Key) (s : State) : (modKey n f s).staged = s.staged := rfl
@[simp] theorem modKey_tb (n : Nat) (f : Key → Key) (s : State) : (modKey n f s).tb = s.tb := rfl
@[simp] theorem modKey_sched (n : Nat) (f : Key → Key) (s : State) : (modKey n f s).sched = s.sched := rfl
@[simp] theorem modKey_lines (n : Nat) (f : Key → Key) (s : State) : (modKey n f s).lines = s.lines := rfl
@[simp] theorem modKey_roster (n : Nat) (f : Key → Key) (s : State) : (modKey n f s).roster = s.roster := rfl
@[simp] theorem modKey_isl (n : Nat) (f : Key → Key) (s : State) : (modKey n f s).isl = s.isl := rfl
@[simp] theorem modKey_locks (n : Nat) (f : Key → Key) (s : State) : (modKey n f s).locks = s.locks := rfl
@[simp] theorem modKey_ilkEvents (n : Nat) (f : Key → Key) (s : State) : (modKey n f s).ilkEvents = s.ilkEvents := rfl
@[simp] theorem modKey_prox (n : Nat) (f : Key → Key) (s : State) : (modKey n f s).prox = s.prox := rfl
@[simp] theorem modKey_radio (n : Nat) (f : Key → Key) (s : State) : (modKey n f s).radio = s.radio := rfl
@[simp] theorem modKey_sec (n : Nat) (f : Key → Key) (s : State) : (modKey n f s).sec = s.sec := rfl
@[simp] theorem modKey_pwr (n : Nat) (f : Key → Key) (s : State) : (modKey n f s).pwr = s.pwr := rfl
@[simp] theorem modKey_twin (n : Nat) (f : Key → Key) (s : State) : (modKey n f s).twin = s.twin := rfl
@[simp] theorem modKey_bus (n : Nat) (f : Key → Key) (s : State) : (modKey n f s).bus = s.bus := rfl
@[simp] theorem modKey_upd (n : Nat) (f : Key → Key) (s : State) : (modKey n f s).upd = s.upd := rfl
@[simp] theorem modKey_mnt (n : Nat) (f : Key → Key) (s : State) : (modKey n f s).mnt = s.mnt := rfl

/-! ## modLock -/

@[simp] theorem modLock_locks (n : Nat) (f : Lock → Lock) (s : State) : (modLock n f s).locks = modNth s.locks n f := rfl
@[simp] theorem modLock_pending (n : Nat) (f : Lock → Lock) (s : State) : (modLock n f s).pending = s.pending := rfl
@[simp] theorem modLock_clk (n : Nat) (f : Lock → Lock) (s : State) : (modLock n f s).clk = s.clk := rfl
@[simp] theorem modLock_free (n : Nat) (f : Lock → Lock) (s : State) : (modLock n f s).free = s.free := rfl
@[simp] theorem modLock_fresh (n : Nat) (f : Lock → Lock) (s : State) : (modLock n f s).fresh = s.fresh := rfl
@[simp] theorem modLock_dev (n : Nat) (f : Lock → Lock) (s : State) : (modLock n f s).dev = s.dev := rfl
@[simp] theorem modLock_nv (n : Nat) (f : Lock → Lock) (s : State) : (modLock n f s).nv = s.nv := rfl
@[simp] theorem modLock_port (n : Nat) (f : Lock → Lock) (s : State) : (modLock n f s).port = s.port := rfl
@[simp] theorem modLock_win (n : Nat) (f : Lock → Lock) (s : State) : (modLock n f s).win = s.win := rfl
@[simp] theorem modLock_par (n : Nat) (f : Lock → Lock) (s : State) : (modLock n f s).par = s.par := rfl
@[simp] theorem modLock_staged (n : Nat) (f : Lock → Lock) (s : State) : (modLock n f s).staged = s.staged := rfl
@[simp] theorem modLock_tb (n : Nat) (f : Lock → Lock) (s : State) : (modLock n f s).tb = s.tb := rfl
@[simp] theorem modLock_sched (n : Nat) (f : Lock → Lock) (s : State) : (modLock n f s).sched = s.sched := rfl
@[simp] theorem modLock_lines (n : Nat) (f : Lock → Lock) (s : State) : (modLock n f s).lines = s.lines := rfl
@[simp] theorem modLock_roster (n : Nat) (f : Lock → Lock) (s : State) : (modLock n f s).roster = s.roster := rfl
@[simp] theorem modLock_isl (n : Nat) (f : Lock → Lock) (s : State) : (modLock n f s).isl = s.isl := rfl
@[simp] theorem modLock_keys (n : Nat) (f : Lock → Lock) (s : State) : (modLock n f s).keys = s.keys := rfl
@[simp] theorem modLock_ilkEvents (n : Nat) (f : Lock → Lock) (s : State) : (modLock n f s).ilkEvents = s.ilkEvents := rfl
@[simp] theorem modLock_prox (n : Nat) (f : Lock → Lock) (s : State) : (modLock n f s).prox = s.prox := rfl
@[simp] theorem modLock_radio (n : Nat) (f : Lock → Lock) (s : State) : (modLock n f s).radio = s.radio := rfl
@[simp] theorem modLock_sec (n : Nat) (f : Lock → Lock) (s : State) : (modLock n f s).sec = s.sec := rfl
@[simp] theorem modLock_pwr (n : Nat) (f : Lock → Lock) (s : State) : (modLock n f s).pwr = s.pwr := rfl
@[simp] theorem modLock_twin (n : Nat) (f : Lock → Lock) (s : State) : (modLock n f s).twin = s.twin := rfl
@[simp] theorem modLock_bus (n : Nat) (f : Lock → Lock) (s : State) : (modLock n f s).bus = s.bus := rfl
@[simp] theorem modLock_upd (n : Nat) (f : Lock → Lock) (s : State) : (modLock n f s).upd = s.upd := rfl
@[simp] theorem modLock_mnt (n : Nat) (f : Lock → Lock) (s : State) : (modLock n f s).mnt = s.mnt := rfl

/-! ## modKeyNv -/

@[simp] theorem modKeyNv_nv (n : Nat) (f : KeyNv → KeyNv) (s : State) : (modKeyNv n f s).nv = { s.nv with keyTab := modNth s.nv.keyTab n f } := rfl
@[simp] theorem modKeyNv_pending (n : Nat) (f : KeyNv → KeyNv) (s : State) : (modKeyNv n f s).pending = s.pending := rfl
@[simp] theorem modKeyNv_clk (n : Nat) (f : KeyNv → KeyNv) (s : State) : (modKeyNv n f s).clk = s.clk := rfl
@[simp] theorem modKeyNv_free (n : Nat) (f : KeyNv → KeyNv) (s : State) : (modKeyNv n f s).free = s.free := rfl
@[simp] theorem modKeyNv_fresh (n : Nat) (f : KeyNv → KeyNv) (s : State) : (modKeyNv n f s).fresh = s.fresh := rfl
@[simp] theorem modKeyNv_dev (n : Nat) (f : KeyNv → KeyNv) (s : State) : (modKeyNv n f s).dev = s.dev := rfl
@[simp] theorem modKeyNv_port (n : Nat) (f : KeyNv → KeyNv) (s : State) : (modKeyNv n f s).port = s.port := rfl
@[simp] theorem modKeyNv_win (n : Nat) (f : KeyNv → KeyNv) (s : State) : (modKeyNv n f s).win = s.win := rfl
@[simp] theorem modKeyNv_par (n : Nat) (f : KeyNv → KeyNv) (s : State) : (modKeyNv n f s).par = s.par := rfl
@[simp] theorem modKeyNv_staged (n : Nat) (f : KeyNv → KeyNv) (s : State) : (modKeyNv n f s).staged = s.staged := rfl
@[simp] theorem modKeyNv_tb (n : Nat) (f : KeyNv → KeyNv) (s : State) : (modKeyNv n f s).tb = s.tb := rfl
@[simp] theorem modKeyNv_sched (n : Nat) (f : KeyNv → KeyNv) (s : State) : (modKeyNv n f s).sched = s.sched := rfl
@[simp] theorem modKeyNv_lines (n : Nat) (f : KeyNv → KeyNv) (s : State) : (modKeyNv n f s).lines = s.lines := rfl
@[simp] theorem modKeyNv_roster (n : Nat) (f : KeyNv → KeyNv) (s : State) : (modKeyNv n f s).roster = s.roster := rfl
@[simp] theorem modKeyNv_isl (n : Nat) (f : KeyNv → KeyNv) (s : State) : (modKeyNv n f s).isl = s.isl := rfl
@[simp] theorem modKeyNv_keys (n : Nat) (f : KeyNv → KeyNv) (s : State) : (modKeyNv n f s).keys = s.keys := rfl
@[simp] theorem modKeyNv_locks (n : Nat) (f : KeyNv → KeyNv) (s : State) : (modKeyNv n f s).locks = s.locks := rfl
@[simp] theorem modKeyNv_ilkEvents (n : Nat) (f : KeyNv → KeyNv) (s : State) : (modKeyNv n f s).ilkEvents = s.ilkEvents := rfl
@[simp] theorem modKeyNv_prox (n : Nat) (f : KeyNv → KeyNv) (s : State) : (modKeyNv n f s).prox = s.prox := rfl
@[simp] theorem modKeyNv_radio (n : Nat) (f : KeyNv → KeyNv) (s : State) : (modKeyNv n f s).radio = s.radio := rfl
@[simp] theorem modKeyNv_sec (n : Nat) (f : KeyNv → KeyNv) (s : State) : (modKeyNv n f s).sec = s.sec := rfl
@[simp] theorem modKeyNv_pwr (n : Nat) (f : KeyNv → KeyNv) (s : State) : (modKeyNv n f s).pwr = s.pwr := rfl
@[simp] theorem modKeyNv_twin (n : Nat) (f : KeyNv → KeyNv) (s : State) : (modKeyNv n f s).twin = s.twin := rfl
@[simp] theorem modKeyNv_bus (n : Nat) (f : KeyNv → KeyNv) (s : State) : (modKeyNv n f s).bus = s.bus := rfl
@[simp] theorem modKeyNv_upd (n : Nat) (f : KeyNv → KeyNv) (s : State) : (modKeyNv n f s).upd = s.upd := rfl
@[simp] theorem modKeyNv_mnt (n : Nat) (f : KeyNv → KeyNv) (s : State) : (modKeyNv n f s).mnt = s.mnt := rfl

/-! ## modRing -/

@[simp] theorem modRing_port (n : Nat) (f : Ring → Ring) (s : State) : (modRing n f s).port = { s.port with rings := modNth s.port.rings n f } := rfl
@[simp] theorem modRing_pending (n : Nat) (f : Ring → Ring) (s : State) : (modRing n f s).pending = s.pending := rfl
@[simp] theorem modRing_clk (n : Nat) (f : Ring → Ring) (s : State) : (modRing n f s).clk = s.clk := rfl
@[simp] theorem modRing_free (n : Nat) (f : Ring → Ring) (s : State) : (modRing n f s).free = s.free := rfl
@[simp] theorem modRing_fresh (n : Nat) (f : Ring → Ring) (s : State) : (modRing n f s).fresh = s.fresh := rfl
@[simp] theorem modRing_dev (n : Nat) (f : Ring → Ring) (s : State) : (modRing n f s).dev = s.dev := rfl
@[simp] theorem modRing_nv (n : Nat) (f : Ring → Ring) (s : State) : (modRing n f s).nv = s.nv := rfl
@[simp] theorem modRing_win (n : Nat) (f : Ring → Ring) (s : State) : (modRing n f s).win = s.win := rfl
@[simp] theorem modRing_par (n : Nat) (f : Ring → Ring) (s : State) : (modRing n f s).par = s.par := rfl
@[simp] theorem modRing_staged (n : Nat) (f : Ring → Ring) (s : State) : (modRing n f s).staged = s.staged := rfl
@[simp] theorem modRing_tb (n : Nat) (f : Ring → Ring) (s : State) : (modRing n f s).tb = s.tb := rfl
@[simp] theorem modRing_sched (n : Nat) (f : Ring → Ring) (s : State) : (modRing n f s).sched = s.sched := rfl
@[simp] theorem modRing_lines (n : Nat) (f : Ring → Ring) (s : State) : (modRing n f s).lines = s.lines := rfl
@[simp] theorem modRing_roster (n : Nat) (f : Ring → Ring) (s : State) : (modRing n f s).roster = s.roster := rfl
@[simp] theorem modRing_isl (n : Nat) (f : Ring → Ring) (s : State) : (modRing n f s).isl = s.isl := rfl
@[simp] theorem modRing_keys (n : Nat) (f : Ring → Ring) (s : State) : (modRing n f s).keys = s.keys := rfl
@[simp] theorem modRing_locks (n : Nat) (f : Ring → Ring) (s : State) : (modRing n f s).locks = s.locks := rfl
@[simp] theorem modRing_ilkEvents (n : Nat) (f : Ring → Ring) (s : State) : (modRing n f s).ilkEvents = s.ilkEvents := rfl
@[simp] theorem modRing_prox (n : Nat) (f : Ring → Ring) (s : State) : (modRing n f s).prox = s.prox := rfl
@[simp] theorem modRing_radio (n : Nat) (f : Ring → Ring) (s : State) : (modRing n f s).radio = s.radio := rfl
@[simp] theorem modRing_sec (n : Nat) (f : Ring → Ring) (s : State) : (modRing n f s).sec = s.sec := rfl
@[simp] theorem modRing_pwr (n : Nat) (f : Ring → Ring) (s : State) : (modRing n f s).pwr = s.pwr := rfl
@[simp] theorem modRing_twin (n : Nat) (f : Ring → Ring) (s : State) : (modRing n f s).twin = s.twin := rfl
@[simp] theorem modRing_bus (n : Nat) (f : Ring → Ring) (s : State) : (modRing n f s).bus = s.bus := rfl
@[simp] theorem modRing_upd (n : Nat) (f : Ring → Ring) (s : State) : (modRing n f s).upd = s.upd := rfl
@[simp] theorem modRing_mnt (n : Nat) (f : Ring → Ring) (s : State) : (modRing n f s).mnt = s.mnt := rfl

/-! ## modSrc -/

@[simp] theorem modSrc_tb (n : Nat) (f : AngleSrc → AngleSrc) (s : State) : (modSrc n f s).tb = { s.tb with src := modNth s.tb.src n f } := rfl
@[simp] theorem modSrc_pending (n : Nat) (f : AngleSrc → AngleSrc) (s : State) : (modSrc n f s).pending = s.pending := rfl
@[simp] theorem modSrc_clk (n : Nat) (f : AngleSrc → AngleSrc) (s : State) : (modSrc n f s).clk = s.clk := rfl
@[simp] theorem modSrc_free (n : Nat) (f : AngleSrc → AngleSrc) (s : State) : (modSrc n f s).free = s.free := rfl
@[simp] theorem modSrc_fresh (n : Nat) (f : AngleSrc → AngleSrc) (s : State) : (modSrc n f s).fresh = s.fresh := rfl
@[simp] theorem modSrc_dev (n : Nat) (f : AngleSrc → AngleSrc) (s : State) : (modSrc n f s).dev = s.dev := rfl
@[simp] theorem modSrc_nv (n : Nat) (f : AngleSrc → AngleSrc) (s : State) : (modSrc n f s).nv = s.nv := rfl
@[simp] theorem modSrc_port (n : Nat) (f : AngleSrc → AngleSrc) (s : State) : (modSrc n f s).port = s.port := rfl
@[simp] theorem modSrc_win (n : Nat) (f : AngleSrc → AngleSrc) (s : State) : (modSrc n f s).win = s.win := rfl
@[simp] theorem modSrc_par (n : Nat) (f : AngleSrc → AngleSrc) (s : State) : (modSrc n f s).par = s.par := rfl
@[simp] theorem modSrc_staged (n : Nat) (f : AngleSrc → AngleSrc) (s : State) : (modSrc n f s).staged = s.staged := rfl
@[simp] theorem modSrc_sched (n : Nat) (f : AngleSrc → AngleSrc) (s : State) : (modSrc n f s).sched = s.sched := rfl
@[simp] theorem modSrc_lines (n : Nat) (f : AngleSrc → AngleSrc) (s : State) : (modSrc n f s).lines = s.lines := rfl
@[simp] theorem modSrc_roster (n : Nat) (f : AngleSrc → AngleSrc) (s : State) : (modSrc n f s).roster = s.roster := rfl
@[simp] theorem modSrc_isl (n : Nat) (f : AngleSrc → AngleSrc) (s : State) : (modSrc n f s).isl = s.isl := rfl
@[simp] theorem modSrc_keys (n : Nat) (f : AngleSrc → AngleSrc) (s : State) : (modSrc n f s).keys = s.keys := rfl
@[simp] theorem modSrc_locks (n : Nat) (f : AngleSrc → AngleSrc) (s : State) : (modSrc n f s).locks = s.locks := rfl
@[simp] theorem modSrc_ilkEvents (n : Nat) (f : AngleSrc → AngleSrc) (s : State) : (modSrc n f s).ilkEvents = s.ilkEvents := rfl
@[simp] theorem modSrc_prox (n : Nat) (f : AngleSrc → AngleSrc) (s : State) : (modSrc n f s).prox = s.prox := rfl
@[simp] theorem modSrc_radio (n : Nat) (f : AngleSrc → AngleSrc) (s : State) : (modSrc n f s).radio = s.radio := rfl
@[simp] theorem modSrc_sec (n : Nat) (f : AngleSrc → AngleSrc) (s : State) : (modSrc n f s).sec = s.sec := rfl
@[simp] theorem modSrc_pwr (n : Nat) (f : AngleSrc → AngleSrc) (s : State) : (modSrc n f s).pwr = s.pwr := rfl
@[simp] theorem modSrc_twin (n : Nat) (f : AngleSrc → AngleSrc) (s : State) : (modSrc n f s).twin = s.twin := rfl
@[simp] theorem modSrc_bus (n : Nat) (f : AngleSrc → AngleSrc) (s : State) : (modSrc n f s).bus = s.bus := rfl
@[simp] theorem modSrc_upd (n : Nat) (f : AngleSrc → AngleSrc) (s : State) : (modSrc n f s).upd = s.upd := rfl
@[simp] theorem modSrc_mnt (n : Nat) (f : AngleSrc → AngleSrc) (s : State) : (modSrc n f s).mnt = s.mnt := rfl

/-! ## modTmr -/

@[simp] theorem modTmr_tb (n : Nat) (f : Tmr → Tmr) (s : State) : (modTmr n f s).tb = { s.tb with tmr := modNth s.tb.tmr n f } := rfl
@[simp] theorem modTmr_pending (n : Nat) (f : Tmr → Tmr) (s : State) : (modTmr n f s).pending = s.pending := rfl
@[simp] theorem modTmr_clk (n : Nat) (f : Tmr → Tmr) (s : State) : (modTmr n f s).clk = s.clk := rfl
@[simp] theorem modTmr_free (n : Nat) (f : Tmr → Tmr) (s : State) : (modTmr n f s).free = s.free := rfl
@[simp] theorem modTmr_fresh (n : Nat) (f : Tmr → Tmr) (s : State) : (modTmr n f s).fresh = s.fresh := rfl
@[simp] theorem modTmr_dev (n : Nat) (f : Tmr → Tmr) (s : State) : (modTmr n f s).dev = s.dev := rfl
@[simp] theorem modTmr_nv (n : Nat) (f : Tmr → Tmr) (s : State) : (modTmr n f s).nv = s.nv := rfl
@[simp] theorem modTmr_port (n : Nat) (f : Tmr → Tmr) (s : State) : (modTmr n f s).port = s.port := rfl
@[simp] theorem modTmr_win (n : Nat) (f : Tmr → Tmr) (s : State) : (modTmr n f s).win = s.win := rfl
@[simp] theorem modTmr_par (n : Nat) (f : Tmr → Tmr) (s : State) : (modTmr n f s).par = s.par := rfl
@[simp] theorem modTmr_staged (n : Nat) (f : Tmr → Tmr) (s : State) : (modTmr n f s).staged = s.staged := rfl
@[simp] theorem modTmr_sched (n : Nat) (f : Tmr → Tmr) (s : State) : (modTmr n f s).sched = s.sched := rfl
@[simp] theorem modTmr_lines (n : Nat) (f : Tmr → Tmr) (s : State) : (modTmr n f s).lines = s.lines := rfl
@[simp] theorem modTmr_roster (n : Nat) (f : Tmr → Tmr) (s : State) : (modTmr n f s).roster = s.roster := rfl
@[simp] theorem modTmr_isl (n : Nat) (f : Tmr → Tmr) (s : State) : (modTmr n f s).isl = s.isl := rfl
@[simp] theorem modTmr_keys (n : Nat) (f : Tmr → Tmr) (s : State) : (modTmr n f s).keys = s.keys := rfl
@[simp] theorem modTmr_locks (n : Nat) (f : Tmr → Tmr) (s : State) : (modTmr n f s).locks = s.locks := rfl
@[simp] theorem modTmr_ilkEvents (n : Nat) (f : Tmr → Tmr) (s : State) : (modTmr n f s).ilkEvents = s.ilkEvents := rfl
@[simp] theorem modTmr_prox (n : Nat) (f : Tmr → Tmr) (s : State) : (modTmr n f s).prox = s.prox := rfl
@[simp] theorem modTmr_radio (n : Nat) (f : Tmr → Tmr) (s : State) : (modTmr n f s).radio = s.radio := rfl
@[simp] theorem modTmr_sec (n : Nat) (f : Tmr → Tmr) (s : State) : (modTmr n f s).sec = s.sec := rfl
@[simp] theorem modTmr_pwr (n : Nat) (f : Tmr → Tmr) (s : State) : (modTmr n f s).pwr = s.pwr := rfl
@[simp] theorem modTmr_twin (n : Nat) (f : Tmr → Tmr) (s : State) : (modTmr n f s).twin = s.twin := rfl
@[simp] theorem modTmr_bus (n : Nat) (f : Tmr → Tmr) (s : State) : (modTmr n f s).bus = s.bus := rfl
@[simp] theorem modTmr_upd (n : Nat) (f : Tmr → Tmr) (s : State) : (modTmr n f s).upd = s.upd := rfl
@[simp] theorem modTmr_mnt (n : Nat) (f : Tmr → Tmr) (s : State) : (modTmr n f s).mnt = s.mnt := rfl

/-! ## winWrite, used, raise -/

@[simp] theorem winWrite_pending (a : Nat) (bs : List Byte) (s : State) : (winWrite a bs s).pending = s.pending := rfl
@[simp] theorem winWrite_clk (a : Nat) (bs : List Byte) (s : State) : (winWrite a bs s).clk = s.clk := rfl
@[simp] theorem winWrite_free (a : Nat) (bs : List Byte) (s : State) : (winWrite a bs s).free = s.free := rfl
@[simp] theorem winWrite_fresh (a : Nat) (bs : List Byte) (s : State) : (winWrite a bs s).fresh = s.fresh := rfl
@[simp] theorem winWrite_dev (a : Nat) (bs : List Byte) (s : State) : (winWrite a bs s).dev = s.dev := rfl
@[simp] theorem winWrite_nv (a : Nat) (bs : List Byte) (s : State) : (winWrite a bs s).nv = s.nv := rfl
@[simp] theorem winWrite_port (a : Nat) (bs : List Byte) (s : State) : (winWrite a bs s).port = s.port := rfl
@[simp] theorem winWrite_par (a : Nat) (bs : List Byte) (s : State) : (winWrite a bs s).par = s.par := rfl
@[simp] theorem winWrite_staged (a : Nat) (bs : List Byte) (s : State) : (winWrite a bs s).staged = s.staged := rfl
@[simp] theorem winWrite_tb (a : Nat) (bs : List Byte) (s : State) : (winWrite a bs s).tb = s.tb := rfl
@[simp] theorem winWrite_sched (a : Nat) (bs : List Byte) (s : State) : (winWrite a bs s).sched = s.sched := rfl
@[simp] theorem winWrite_lines (a : Nat) (bs : List Byte) (s : State) : (winWrite a bs s).lines = s.lines := rfl
@[simp] theorem winWrite_roster (a : Nat) (bs : List Byte) (s : State) : (winWrite a bs s).roster = s.roster := rfl
@[simp] theorem winWrite_isl (a : Nat) (bs : List Byte) (s : State) : (winWrite a bs s).isl = s.isl := rfl
@[simp] theorem winWrite_keys (a : Nat) (bs : List Byte) (s : State) : (winWrite a bs s).keys = s.keys := rfl
@[simp] theorem winWrite_locks (a : Nat) (bs : List Byte) (s : State) : (winWrite a bs s).locks = s.locks := rfl
@[simp] theorem winWrite_ilkEvents (a : Nat) (bs : List Byte) (s : State) : (winWrite a bs s).ilkEvents = s.ilkEvents := rfl
@[simp] theorem winWrite_prox (a : Nat) (bs : List Byte) (s : State) : (winWrite a bs s).prox = s.prox := rfl
@[simp] theorem winWrite_radio (a : Nat) (bs : List Byte) (s : State) : (winWrite a bs s).radio = s.radio := rfl
@[simp] theorem winWrite_sec (a : Nat) (bs : List Byte) (s : State) : (winWrite a bs s).sec = s.sec := rfl
@[simp] theorem winWrite_pwr (a : Nat) (bs : List Byte) (s : State) : (winWrite a bs s).pwr = s.pwr := rfl
@[simp] theorem winWrite_twin (a : Nat) (bs : List Byte) (s : State) : (winWrite a bs s).twin = s.twin := rfl
@[simp] theorem winWrite_bus (a : Nat) (bs : List Byte) (s : State) : (winWrite a bs s).bus = s.bus := rfl
@[simp] theorem winWrite_upd (a : Nat) (bs : List Byte) (s : State) : (winWrite a bs s).upd = s.upd := rfl
@[simp] theorem winWrite_mnt (a : Nat) (bs : List Byte) (s : State) : (winWrite a bs s).mnt = s.mnt := rfl
@[simp] theorem used_pending (n : Nat) (s : State) : (used n s).pending = s.pending := rfl
@[simp] theorem used_clk (n : Nat) (s : State) : (used n s).clk = s.clk := rfl
@[simp] theorem used_fresh (n : Nat) (s : State) : (used n s).fresh = s.fresh := rfl
@[simp] theorem used_dev (n : Nat) (s : State) : (used n s).dev = s.dev := rfl
@[simp] theorem used_nv (n : Nat) (s : State) : (used n s).nv = s.nv := rfl
@[simp] theorem used_port (n : Nat) (s : State) : (used n s).port = s.port := rfl
@[simp] theorem used_win (n : Nat) (s : State) : (used n s).win = s.win := rfl
@[simp] theorem used_par (n : Nat) (s : State) : (used n s).par = s.par := rfl
@[simp] theorem used_staged (n : Nat) (s : State) : (used n s).staged = s.staged := rfl
@[simp] theorem used_tb (n : Nat) (s : State) : (used n s).tb = s.tb := rfl
@[simp] theorem used_sched (n : Nat) (s : State) : (used n s).sched = s.sched := rfl
@[simp] theorem used_lines (n : Nat) (s : State) : (used n s).lines = s.lines := rfl
@[simp] theorem used_roster (n : Nat) (s : State) : (used n s).roster = s.roster := rfl
@[simp] theorem used_isl (n : Nat) (s : State) : (used n s).isl = s.isl := rfl
@[simp] theorem used_keys (n : Nat) (s : State) : (used n s).keys = s.keys := rfl
@[simp] theorem used_locks (n : Nat) (s : State) : (used n s).locks = s.locks := rfl
@[simp] theorem used_ilkEvents (n : Nat) (s : State) : (used n s).ilkEvents = s.ilkEvents := rfl
@[simp] theorem used_prox (n : Nat) (s : State) : (used n s).prox = s.prox := rfl
@[simp] theorem used_radio (n : Nat) (s : State) : (used n s).radio = s.radio := rfl
@[simp] theorem used_sec (n : Nat) (s : State) : (used n s).sec = s.sec := rfl
@[simp] theorem used_pwr (n : Nat) (s : State) : (used n s).pwr = s.pwr := rfl
@[simp] theorem used_twin (n : Nat) (s : State) : (used n s).twin = s.twin := rfl
@[simp] theorem used_bus (n : Nat) (s : State) : (used n s).bus = s.bus := rfl
@[simp] theorem used_upd (n : Nat) (s : State) : (used n s).upd = s.upd := rfl
@[simp] theorem used_mnt (n : Nat) (s : State) : (used n s).mnt = s.mnt := rfl
@[simp] theorem raise_pending (a b : Nat) (s : State) : (raise a b s).pending = s.pending := rfl
@[simp] theorem raise_clk (a b : Nat) (s : State) : (raise a b s).clk = s.clk := rfl
@[simp] theorem raise_free (a b : Nat) (s : State) : (raise a b s).free = s.free := rfl
@[simp] theorem raise_dev (a b : Nat) (s : State) : (raise a b s).dev = s.dev := rfl
@[simp] theorem raise_nv (a b : Nat) (s : State) : (raise a b s).nv = s.nv := rfl
@[simp] theorem raise_port (a b : Nat) (s : State) : (raise a b s).port = s.port := rfl
@[simp] theorem raise_win (a b : Nat) (s : State) : (raise a b s).win = s.win := rfl
@[simp] theorem raise_par (a b : Nat) (s : State) : (raise a b s).par = s.par := rfl
@[simp] theorem raise_staged (a b : Nat) (s : State) : (raise a b s).staged = s.staged := rfl
@[simp] theorem raise_tb (a b : Nat) (s : State) : (raise a b s).tb = s.tb := rfl
@[simp] theorem raise_sched (a b : Nat) (s : State) : (raise a b s).sched = s.sched := rfl
@[simp] theorem raise_lines (a b : Nat) (s : State) : (raise a b s).lines = s.lines := rfl
@[simp] theorem raise_roster (a b : Nat) (s : State) : (raise a b s).roster = s.roster := rfl
@[simp] theorem raise_isl (a b : Nat) (s : State) : (raise a b s).isl = s.isl := rfl
@[simp] theorem raise_keys (a b : Nat) (s : State) : (raise a b s).keys = s.keys := rfl
@[simp] theorem raise_locks (a b : Nat) (s : State) : (raise a b s).locks = s.locks := rfl
@[simp] theorem raise_ilkEvents (a b : Nat) (s : State) : (raise a b s).ilkEvents = s.ilkEvents := rfl
@[simp] theorem raise_prox (a b : Nat) (s : State) : (raise a b s).prox = s.prox := rfl
@[simp] theorem raise_radio (a b : Nat) (s : State) : (raise a b s).radio = s.radio := rfl
@[simp] theorem raise_sec (a b : Nat) (s : State) : (raise a b s).sec = s.sec := rfl
@[simp] theorem raise_pwr (a b : Nat) (s : State) : (raise a b s).pwr = s.pwr := rfl
@[simp] theorem raise_twin (a b : Nat) (s : State) : (raise a b s).twin = s.twin := rfl
@[simp] theorem raise_bus (a b : Nat) (s : State) : (raise a b s).bus = s.bus := rfl
@[simp] theorem raise_upd (a b : Nat) (s : State) : (raise a b s).upd = s.upd := rfl
@[simp] theorem raise_mnt (a b : Nat) (s : State) : (raise a b s).mnt = s.mnt := rfl
@[simp] theorem raiseIf_pending (c : Bool) (a b : Nat) (s : State) : (raiseIf c a b s).pending = s.pending := rfl
@[simp] theorem raiseIf_clk (c : Bool) (a b : Nat) (s : State) : (raiseIf c a b s).clk = s.clk := rfl
@[simp] theorem raiseIf_free (c : Bool) (a b : Nat) (s : State) : (raiseIf c a b s).free = s.free := rfl
@[simp] theorem raiseIf_dev (c : Bool) (a b : Nat) (s : State) : (raiseIf c a b s).dev = s.dev := rfl
@[simp] theorem raiseIf_nv (c : Bool) (a b : Nat) (s : State) : (raiseIf c a b s).nv = s.nv := rfl
@[simp] theorem raiseIf_port (c : Bool) (a b : Nat) (s : State) : (raiseIf c a b s).port = s.port := rfl
@[simp] theorem raiseIf_win (c : Bool) (a b : Nat) (s : State) : (raiseIf c a b s).win = s.win := rfl
@[simp] theorem raiseIf_par (c : Bool) (a b : Nat) (s : State) : (raiseIf c a b s).par = s.par := rfl
@[simp] theorem raiseIf_staged (c : Bool) (a b : Nat) (s : State) : (raiseIf c a b s).staged = s.staged := rfl
@[simp] theorem raiseIf_tb (c : Bool) (a b : Nat) (s : State) : (raiseIf c a b s).tb = s.tb := rfl
@[simp] theorem raiseIf_sched (c : Bool) (a b : Nat) (s : State) : (raiseIf c a b s).sched = s.sched := rfl
@[simp] theorem raiseIf_lines (c : Bool) (a b : Nat) (s : State) : (raiseIf c a b s).lines = s.lines := rfl
@[simp] theorem raiseIf_roster (c : Bool) (a b : Nat) (s : State) : (raiseIf c a b s).roster = s.roster := rfl
@[simp] theorem raiseIf_isl (c : Bool) (a b : Nat) (s : State) : (raiseIf c a b s).isl = s.isl := rfl
@[simp] theorem raiseIf_keys (c : Bool) (a b : Nat) (s : State) : (raiseIf c a b s).keys = s.keys := rfl
@[simp] theorem raiseIf_locks (c : Bool) (a b : Nat) (s : State) : (raiseIf c a b s).locks = s.locks := rfl
@[simp] theorem raiseIf_ilkEvents (c : Bool) (a b : Nat) (s : State) : (raiseIf c a b s).ilkEvents = s.ilkEvents := rfl
@[simp] theorem raiseIf_prox (c : Bool) (a b : Nat) (s : State) : (raiseIf c a b s).prox = s.prox := rfl
@[simp] theorem raiseIf_radio (c : Bool) (a b : Nat) (s : State) : (raiseIf c a b s).radio = s.radio := rfl
@[simp] theorem raiseIf_sec (c : Bool) (a b : Nat) (s : State) : (raiseIf c a b s).sec = s.sec := rfl
@[simp] theorem raiseIf_pwr (c : Bool) (a b : Nat) (s : State) : (raiseIf c a b s).pwr = s.pwr := rfl
@[simp] theorem raiseIf_twin (c : Bool) (a b : Nat) (s : State) : (raiseIf c a b s).twin = s.twin := rfl
@[simp] theorem raiseIf_bus (c : Bool) (a b : Nat) (s : State) : (raiseIf c a b s).bus = s.bus := rfl
@[simp] theorem raiseIf_upd (c : Bool) (a b : Nat) (s : State) : (raiseIf c a b s).upd = s.upd := rfl
@[simp] theorem raiseIf_mnt (c : Bool) (a b : Nat) (s : State) : (raiseIf c a b s).mnt = s.mnt := rfl

end Sys2Proof.Machine
end

