-- ==== Sys2Proof/Laws/Port.lean ====
section
/-!
SUPPORT. Sys2Proof/Laws/Port.lean: the operations that touch only the port and the window leave every other field as it was.
-/
namespace Sys2Proof.Machine

theorem done1_apart (h : Held) (st : Nat) (w4 : Word) (s : State) : ApartPort (done1 h st w4 s) s := finish_apart _ _ _ _ _ _ _

theorem complete_apart (r i st : Nat) (w4 w5 w6 : Word) (n : Nat) (s : State) : ApartPort (complete r i st w4 w5 w6 n s) s := by
  unfold complete
  split
  · exact finish_apart _ _ _ _ _ _ _
  · exact ApartPort.refl _

theorem completeWhere_apart (p : Held → Bool) (st : Nat) (w4 w5 w6 : Word) (s : State) : ApartPort (completeWhere p st w4 w5 w6 s) s := by
  unfold completeWhere
  generalize s.port.held.filter p = l
  induction l generalizing s with
  | nil => exact ApartPort.refl _
  | cons x xs ih =>
    rw [List.foldl_cons]
    exact ApartPort.trans (ih _) (finish_apart x st w4 w5 w6 0 s)

/-! ## Fields of states that differ in port and window only -/

theorem ApartPort.pending {u s : State} (h : ApartPort u s) : u.pending = s.pending := by
  have e : ({ u with port := s.port, win := s.win, fresh := s.fresh } : State).pending = s.pending := congrArg State.pending h
  exact e

theorem ApartPort.clk {u s : State} (h : ApartPort u s) : u.clk = s.clk := by
  have e : ({ u with port := s.port, win := s.win, fresh := s.fresh } : State).clk = s.clk := congrArg State.clk h
  exact e

theorem ApartPort.free {u s : State} (h : ApartPort u s) : u.free = s.free := by
  have e : ({ u with port := s.port, win := s.win, fresh := s.fresh } : State).free = s.free := congrArg State.free h
  exact e

theorem ApartPort.dev {u s : State} (h : ApartPort u s) : u.dev = s.dev := by
  have e : ({ u with port := s.port, win := s.win, fresh := s.fresh } : State).dev = s.dev := congrArg State.dev h
  exact e

theorem ApartPort.nv {u s : State} (h : ApartPort u s) : u.nv = s.nv := by
  have e : ({ u with port := s.port, win := s.win, fresh := s.fresh } : State).nv = s.nv := congrArg State.nv h
  exact e

theorem ApartPort.par {u s : State} (h : ApartPort u s) : u.par = s.par := by
  have e : ({ u with port := s.port, win := s.win, fresh := s.fresh } : State).par = s.par := congrArg State.par h
  exact e

theorem ApartPort.staged {u s : State} (h : ApartPort u s) : u.staged = s.staged := by
  have e : ({ u with port := s.port, win := s.win, fresh := s.fresh } : State).staged = s.staged := congrArg State.staged h
  exact e

theorem ApartPort.tb {u s : State} (h : ApartPort u s) : u.tb = s.tb := by
  have e : ({ u with port := s.port, win := s.win, fresh := s.fresh } : State).tb = s.tb := congrArg State.tb h
  exact e

theorem ApartPort.sched {u s : State} (h : ApartPort u s) : u.sched = s.sched := by
  have e : ({ u with port := s.port, win := s.win, fresh := s.fresh } : State).sched = s.sched := congrArg State.sched h
  exact e

theorem ApartPort.lines {u s : State} (h : ApartPort u s) : u.lines = s.lines := by
  have e : ({ u with port := s.port, win := s.win, fresh := s.fresh } : State).lines = s.lines := congrArg State.lines h
  exact e

theorem ApartPort.roster {u s : State} (h : ApartPort u s) : u.roster = s.roster := by
  have e : ({ u with port := s.port, win := s.win, fresh := s.fresh } : State).roster = s.roster := congrArg State.roster h
  exact e

theorem ApartPort.isl {u s : State} (h : ApartPort u s) : u.isl = s.isl := by
  have e : ({ u with port := s.port, win := s.win, fresh := s.fresh } : State).isl = s.isl := congrArg State.isl h
  exact e

theorem ApartPort.keys {u s : State} (h : ApartPort u s) : u.keys = s.keys := by
  have e : ({ u with port := s.port, win := s.win, fresh := s.fresh } : State).keys = s.keys := congrArg State.keys h
  exact e

theorem ApartPort.locks {u s : State} (h : ApartPort u s) : u.locks = s.locks := by
  have e : ({ u with port := s.port, win := s.win, fresh := s.fresh } : State).locks = s.locks := congrArg State.locks h
  exact e

theorem ApartPort.ilkEvents {u s : State} (h : ApartPort u s) : u.ilkEvents = s.ilkEvents := by
  have e : ({ u with port := s.port, win := s.win, fresh := s.fresh } : State).ilkEvents = s.ilkEvents := congrArg State.ilkEvents h
  exact e

theorem ApartPort.prox {u s : State} (h : ApartPort u s) : u.prox = s.prox := by
  have e : ({ u with port := s.port, win := s.win, fresh := s.fresh } : State).prox = s.prox := congrArg State.prox h
  exact e

theorem ApartPort.radio {u s : State} (h : ApartPort u s) : u.radio = s.radio := by
  have e : ({ u with port := s.port, win := s.win, fresh := s.fresh } : State).radio = s.radio := congrArg State.radio h
  exact e

theorem ApartPort.sec {u s : State} (h : ApartPort u s) : u.sec = s.sec := by
  have e : ({ u with port := s.port, win := s.win, fresh := s.fresh } : State).sec = s.sec := congrArg State.sec h
  exact e

theorem ApartPort.pwr {u s : State} (h : ApartPort u s) : u.pwr = s.pwr := by
  have e : ({ u with port := s.port, win := s.win, fresh := s.fresh } : State).pwr = s.pwr := congrArg State.pwr h
  exact e

theorem ApartPort.twin {u s : State} (h : ApartPort u s) : u.twin = s.twin := by
  have e : ({ u with port := s.port, win := s.win, fresh := s.fresh } : State).twin = s.twin := congrArg State.twin h
  exact e

theorem ApartPort.bus {u s : State} (h : ApartPort u s) : u.bus = s.bus := by
  have e : ({ u with port := s.port, win := s.win, fresh := s.fresh } : State).bus = s.bus := congrArg State.bus h
  exact e

theorem ApartPort.upd {u s : State} (h : ApartPort u s) : u.upd = s.upd := by
  have e : ({ u with port := s.port, win := s.win, fresh := s.fresh } : State).upd = s.upd := congrArg State.upd h
  exact e

theorem ApartPort.mnt {u s : State} (h : ApartPort u s) : u.mnt = s.mnt := by
  have e : ({ u with port := s.port, win := s.win, fresh := s.fresh } : State).mnt = s.mnt := congrArg State.mnt h
  exact e


/-! ## writeBack -/

@[simp] theorem writeBack_pending (off : Nat) (w0 : Word) (w1 : Option Word) (w4 w5 w6 w7 : Word) (s : State) : (writeBack off w0 w1 w4 w5 w6 w7 s).pending = s.pending := (writeBack_apart _ _ _ _ _ _ _ _).pending
@[simp] theorem writeBack_clk (off : Nat) (w0 : Word) (w1 : Option Word) (w4 w5 w6 w7 : Word) (s : State) : (writeBack off w0 w1 w4 w5 w6 w7 s).clk = s.clk := (writeBack_apart _ _ _ _ _ _ _ _).clk
@[simp] theorem writeBack_free (off : Nat) (w0 : Word) (w1 : Option Word) (w4 w5 w6 w7 : Word) (s : State) : (writeBack off w0 w1 w4 w5 w6 w7 s).free = s.free := (writeBack_apart _ _ _ _ _ _ _ _).free
@[simp] theorem writeBack_dev (off : Nat) (w0 : Word) (w1 : Option Word) (w4 w5 w6 w7 : Word) (s : State) : (writeBack off w0 w1 w4 w5 w6 w7 s).dev = s.dev := (writeBack_apart _ _ _ _ _ _ _ _).dev
@[simp] theorem writeBack_nv (off : Nat) (w0 : Word) (w1 : Option Word) (w4 w5 w6 w7 : Word) (s : State) : (writeBack off w0 w1 w4 w5 w6 w7 s).nv = s.nv := (writeBack_apart _ _ _ _ _ _ _ _).nv
@[simp] theorem writeBack_par (off : Nat) (w0 : Word) (w1 : Option Word) (w4 w5 w6 w7 : Word) (s : State) : (writeBack off w0 w1 w4 w5 w6 w7 s).par = s.par := (writeBack_apart _ _ _ _ _ _ _ _).par
@[simp] theorem writeBack_staged (off : Nat) (w0 : Word) (w1 : Option Word) (w4 w5 w6 w7 : Word) (s : State) : (writeBack off w0 w1 w4 w5 w6 w7 s).staged = s.staged := (writeBack_apart _ _ _ _ _ _ _ _).staged
@[simp] theorem writeBack_tb (off : Nat) (w0 : Word) (w1 : Option Word) (w4 w5 w6 w7 : Word) (s : State) : (writeBack off w0 w1 w4 w5 w6 w7 s).tb = s.tb := (writeBack_apart _ _ _ _ _ _ _ _).tb
@[simp] theorem writeBack_sched (off : Nat) (w0 : Word) (w1 : Option Word) (w4 w5 w6 w7 : Word) (s : State) : (writeBack off w0 w1 w4 w5 w6 w7 s).sched = s.sched := (writeBack_apart _ _ _ _ _ _ _ _).sched
@[simp] theorem writeBack_lines (off : Nat) (w0 : Word) (w1 : Option Word) (w4 w5 w6 w7 : Word) (s : State) : (writeBack off w0 w1 w4 w5 w6 w7 s).lines = s.lines := (writeBack_apart _ _ _ _ _ _ _ _).lines
@[simp] theorem writeBack_roster (off : Nat) (w0 : Word) (w1 : Option Word) (w4 w5 w6 w7 : Word) (s : State) : (writeBack off w0 w1 w4 w5 w6 w7 s).roster = s.roster := (writeBack_apart _ _ _ _ _ _ _ _).roster
@[simp] theorem writeBack_isl (off : Nat) (w0 : Word) (w1 : Option Word) (w4 w5 w6 w7 : Word) (s : State) : (writeBack off w0 w1 w4 w5 w6 w7 s).isl = s.isl := (writeBack_apart _ _ _ _ _ _ _ _).isl
@[simp] theorem writeBack_keys (off : Nat) (w0 : Word) (w1 : Option Word) (w4 w5 w6 w7 : Word) (s : State) : (writeBack off w0 w1 w4 w5 w6 w7 s).keys = s.keys := (writeBack_apart _ _ _ _ _ _ _ _).keys
@[simp] theorem writeBack_locks (off : Nat) (w0 : Word) (w1 : Option Word) (w4 w5 w6 w7 : Word) (s : State) : (writeBack off w0 w1 w4 w5 w6 w7 s).locks = s.locks := (writeBack_apart _ _ _ _ _ _ _ _).locks
@[simp] theorem writeBack_ilkEvents (off : Nat) (w0 : Word) (w1 : Option Word) (w4 w5 w6 w7 : Word) (s : State) : (writeBack off w0 w1 w4 w5 w6 w7 s).ilkEvents = s.ilkEvents := (writeBack_apart _ _ _ _ _ _ _ _).ilkEvents
@[simp] theorem writeBack_prox (off : Nat) (w0 : Word) (w1 : Option Word) (w4 w5 w6 w7 : Word) (s : State) : (writeBack off w0 w1 w4 w5 w6 w7 s).prox = s.prox := (writeBack_apart _ _ _ _ _ _ _ _).prox
@[simp] theorem writeBack_radio (off : Nat) (w0 : Word) (w1 : Option Word) (w4 w5 w6 w7 : Word) (s : State) : (writeBack off w0 w1 w4 w5 w6 w7 s).radio = s.radio := (writeBack_apart _ _ _ _ _ _ _ _).radio
@[simp] theorem writeBack_sec (off : Nat) (w0 : Word) (w1 : Option Word) (w4 w5 w6 w7 : Word) (s : State) : (writeBack off w0 w1 w4 w5 w6 w7 s).sec = s.sec := (writeBack_apart _ _ _ _ _ _ _ _).sec
@[simp] theorem writeBack_pwr (off : Nat) (w0 : Word) (w1 : Option Word) (w4 w5 w6 w7 : Word) (s : State) : (writeBack off w0 w1 w4 w5 w6 w7 s).pwr = s.pwr := (writeBack_apart _ _ _ _ _ _ _ _).pwr
@[simp] theorem writeBack_twin (off : Nat) (w0 : Word) (w1 : Option Word) (w4 w5 w6 w7 : Word) (s : State) : (writeBack off w0 w1 w4 w5 w6 w7 s).twin = s.twin := (writeBack_apart _ _ _ _ _ _ _ _).twin
@[simp] theorem writeBack_bus (off : Nat) (w0 : Word) (w1 : Option Word) (w4 w5 w6 w7 : Word) (s : State) : (writeBack off w0 w1 w4 w5 w6 w7 s).bus = s.bus := (writeBack_apart _ _ _ _ _ _ _ _).bus
@[simp] theorem writeBack_upd (off : Nat) (w0 : Word) (w1 : Option Word) (w4 w5 w6 w7 : Word) (s : State) : (writeBack off w0 w1 w4 w5 w6 w7 s).upd = s.upd := (writeBack_apart _ _ _ _ _ _ _ _).upd
@[simp] theorem writeBack_mnt (off : Nat) (w0 : Word) (w1 : Option Word) (w4 w5 w6 w7 : Word) (s : State) : (writeBack off w0 w1 w4 w5 w6 w7 s).mnt = s.mnt := (writeBack_apart _ _ _ _ _ _ _ _).mnt

/-! ## releaseHeld -/

@[simp] theorem releaseHeld_pending (h : Held) (s : State) : (releaseHeld h s).pending = s.pending := (releaseHeld_apart _ _).pending
@[simp] theorem releaseHeld_clk (h : Held) (s : State) : (releaseHeld h s).clk = s.clk := (releaseHeld_apart _ _).clk
@[simp] theorem releaseHeld_free (h : Held) (s : State) : (releaseHeld h s).free = s.free := (releaseHeld_apart _ _).free
@[simp] theorem releaseHeld_dev (h : Held) (s : State) : (releaseHeld h s).dev = s.dev := (releaseHeld_apart _ _).dev
@[simp] theorem releaseHeld_nv (h : Held) (s : State) : (releaseHeld h s).nv = s.nv := (releaseHeld_apart _ _).nv
@[simp] theorem releaseHeld_par (h : Held) (s : State) : (releaseHeld h s).par = s.par := (releaseHeld_apart _ _).par
@[simp] theorem releaseHeld_staged (h : Held) (s : State) : (releaseHeld h s).staged = s.staged := (releaseHeld_apart _ _).staged
@[simp] theorem releaseHeld_tb (h : Held) (s : State) : (releaseHeld h s).tb = s.tb := (releaseHeld_apart _ _).tb
@[simp] theorem releaseHeld_sched (h : Held) (s : State) : (releaseHeld h s).sched = s.sched := (releaseHeld_apart _ _).sched
@[simp] theorem releaseHeld_lines (h : Held) (s : State) : (releaseHeld h s).lines = s.lines := (releaseHeld_apart _ _).lines
@[simp] theorem releaseHeld_roster (h : Held) (s : State) : (releaseHeld h s).roster = s.roster := (releaseHeld_apart _ _).roster
@[simp] theorem releaseHeld_isl (h : Held) (s : State) : (releaseHeld h s).isl = s.isl := (releaseHeld_apart _ _).isl
@[simp] theorem releaseHeld_keys (h : Held) (s : State) : (releaseHeld h s).keys = s.keys := (releaseHeld_apart _ _).keys
@[simp] theorem releaseHeld_locks (h : Held) (s : State) : (releaseHeld h s).locks = s.locks := (releaseHeld_apart _ _).locks
@[simp] theorem releaseHeld_ilkEvents (h : Held) (s : State) : (releaseHeld h s).ilkEvents = s.ilkEvents := (releaseHeld_apart _ _).ilkEvents
@[simp] theorem releaseHeld_prox (h : Held) (s : State) : (releaseHeld h s).prox = s.prox := (releaseHeld_apart _ _).prox
@[simp] theorem releaseHeld_radio (h : Held) (s : State) : (releaseHeld h s).radio = s.radio := (releaseHeld_apart _ _).radio
@[simp] theorem releaseHeld_sec (h : Held) (s : State) : (releaseHeld h s).sec = s.sec := (releaseHeld_apart _ _).sec
@[simp] theorem releaseHeld_pwr (h : Held) (s : State) : (releaseHeld h s).pwr = s.pwr := (releaseHeld_apart _ _).pwr
@[simp] theorem releaseHeld_twin (h : Held) (s : State) : (releaseHeld h s).twin = s.twin := (releaseHeld_apart _ _).twin
@[simp] theorem releaseHeld_bus (h : Held) (s : State) : (releaseHeld h s).bus = s.bus := (releaseHeld_apart _ _).bus
@[simp] theorem releaseHeld_upd (h : Held) (s : State) : (releaseHeld h s).upd = s.upd := (releaseHeld_apart _ _).upd
@[simp] theorem releaseHeld_mnt (h : Held) (s : State) : (releaseHeld h s).mnt = s.mnt := (releaseHeld_apart _ _).mnt

/-! ## finish -/

@[simp] theorem finish_pending (h : Held) (st : Nat) (w4 w5 w6 : Word) (n : Nat) (s : State) : (finish h st w4 w5 w6 n s).pending = s.pending := (finish_apart _ _ _ _ _ _ _).pending
@[simp] theorem finish_clk (h : Held) (st : Nat) (w4 w5 w6 : Word) (n : Nat) (s : State) : (finish h st w4 w5 w6 n s).clk = s.clk := (finish_apart _ _ _ _ _ _ _).clk
@[simp] theorem finish_free (h : Held) (st : Nat) (w4 w5 w6 : Word) (n : Nat) (s : State) : (finish h st w4 w5 w6 n s).free = s.free := (finish_apart _ _ _ _ _ _ _).free
@[simp] theorem finish_dev (h : Held) (st : Nat) (w4 w5 w6 : Word) (n : Nat) (s : State) : (finish h st w4 w5 w6 n s).dev = s.dev := (finish_apart _ _ _ _ _ _ _).dev
@[simp] theorem finish_nv (h : Held) (st : Nat) (w4 w5 w6 : Word) (n : Nat) (s : State) : (finish h st w4 w5 w6 n s).nv = s.nv := (finish_apart _ _ _ _ _ _ _).nv
@[simp] theorem finish_par (h : Held) (st : Nat) (w4 w5 w6 : Word) (n : Nat) (s : State) : (finish h st w4 w5 w6 n s).par = s.par := (finish_apart _ _ _ _ _ _ _).par
@[simp] theorem finish_staged (h : Held) (st : Nat) (w4 w5 w6 : Word) (n : Nat) (s : State) : (finish h st w4 w5 w6 n s).staged = s.staged := (finish_apart _ _ _ _ _ _ _).staged
@[simp] theorem finish_tb (h : Held) (st : Nat) (w4 w5 w6 : Word) (n : Nat) (s : State) : (finish h st w4 w5 w6 n s).tb = s.tb := (finish_apart _ _ _ _ _ _ _).tb
@[simp] theorem finish_sched (h : Held) (st : Nat) (w4 w5 w6 : Word) (n : Nat) (s : State) : (finish h st w4 w5 w6 n s).sched = s.sched := (finish_apart _ _ _ _ _ _ _).sched
@[simp] theorem finish_lines (h : Held) (st : Nat) (w4 w5 w6 : Word) (n : Nat) (s : State) : (finish h st w4 w5 w6 n s).lines = s.lines := (finish_apart _ _ _ _ _ _ _).lines
@[simp] theorem finish_roster (h : Held) (st : Nat) (w4 w5 w6 : Word) (n : Nat) (s : State) : (finish h st w4 w5 w6 n s).roster = s.roster := (finish_apart _ _ _ _ _ _ _).roster
@[simp] theorem finish_isl (h : Held) (st : Nat) (w4 w5 w6 : Word) (n : Nat) (s : State) : (finish h st w4 w5 w6 n s).isl = s.isl := (finish_apart _ _ _ _ _ _ _).isl
@[simp] theorem finish_keys (h : Held) (st : Nat) (w4 w5 w6 : Word) (n : Nat) (s : State) : (finish h st w4 w5 w6 n s).keys = s.keys := (finish_apart _ _ _ _ _ _ _).keys
@[simp] theorem finish_locks (h : Held) (st : Nat) (w4 w5 w6 : Word) (n : Nat) (s : State) : (finish h st w4 w5 w6 n s).locks = s.locks := (finish_apart _ _ _ _ _ _ _).locks
@[simp] theorem finish_ilkEvents (h : Held) (st : Nat) (w4 w5 w6 : Word) (n : Nat) (s : State) : (finish h st w4 w5 w6 n s).ilkEvents = s.ilkEvents := (finish_apart _ _ _ _ _ _ _).ilkEvents
@[simp] theorem finish_prox (h : Held) (st : Nat) (w4 w5 w6 : Word) (n : Nat) (s : State) : (finish h st w4 w5 w6 n s).prox = s.prox := (finish_apart _ _ _ _ _ _ _).prox
@[simp] theorem finish_radio (h : Held) (st : Nat) (w4 w5 w6 : Word) (n : Nat) (s : State) : (finish h st w4 w5 w6 n s).radio = s.radio := (finish_apart _ _ _ _ _ _ _).radio
@[simp] theorem finish_sec (h : Held) (st : Nat) (w4 w5 w6 : Word) (n : Nat) (s : State) : (finish h st w4 w5 w6 n s).sec = s.sec := (finish_apart _ _ _ _ _ _ _).sec
@[simp] theorem finish_pwr (h : Held) (st : Nat) (w4 w5 w6 : Word) (n : Nat) (s : State) : (finish h st w4 w5 w6 n s).pwr = s.pwr := (finish_apart _ _ _ _ _ _ _).pwr
@[simp] theorem finish_twin (h : Held) (st : Nat) (w4 w5 w6 : Word) (n : Nat) (s : State) : (finish h st w4 w5 w6 n s).twin = s.twin := (finish_apart _ _ _ _ _ _ _).twin
@[simp] theorem finish_bus (h : Held) (st : Nat) (w4 w5 w6 : Word) (n : Nat) (s : State) : (finish h st w4 w5 w6 n s).bus = s.bus := (finish_apart _ _ _ _ _ _ _).bus
@[simp] theorem finish_upd (h : Held) (st : Nat) (w4 w5 w6 : Word) (n : Nat) (s : State) : (finish h st w4 w5 w6 n s).upd = s.upd := (finish_apart _ _ _ _ _ _ _).upd
@[simp] theorem finish_mnt (h : Held) (st : Nat) (w4 w5 w6 : Word) (n : Nat) (s : State) : (finish h st w4 w5 w6 n s).mnt = s.mnt := (finish_apart _ _ _ _ _ _ _).mnt

/-! ## done -/

@[simp] theorem done_pending (h : Held) (st : Nat) (s : State) : (done h st s).pending = s.pending := (done_apart _ _ _).pending
@[simp] theorem done_clk (h : Held) (st : Nat) (s : State) : (done h st s).clk = s.clk := (done_apart _ _ _).clk
@[simp] theorem done_free (h : Held) (st : Nat) (s : State) : (done h st s).free = s.free := (done_apart _ _ _).free
@[simp] theorem done_dev (h : Held) (st : Nat) (s : State) : (done h st s).dev = s.dev := (done_apart _ _ _).dev
@[simp] theorem done_nv (h : Held) (st : Nat) (s : State) : (done h st s).nv = s.nv := (done_apart _ _ _).nv
@[simp] theorem done_par (h : Held) (st : Nat) (s : State) : (done h st s).par = s.par := (done_apart _ _ _).par
@[simp] theorem done_staged (h : Held) (st : Nat) (s : State) : (done h st s).staged = s.staged := (done_apart _ _ _).staged
@[simp] theorem done_tb (h : Held) (st : Nat) (s : State) : (done h st s).tb = s.tb := (done_apart _ _ _).tb
@[simp] theorem done_sched (h : Held) (st : Nat) (s : State) : (done h st s).sched = s.sched := (done_apart _ _ _).sched
@[simp] theorem done_lines (h : Held) (st : Nat) (s : State) : (done h st s).lines = s.lines := (done_apart _ _ _).lines
@[simp] theorem done_roster (h : Held) (st : Nat) (s : State) : (done h st s).roster = s.roster := (done_apart _ _ _).roster
@[simp] theorem done_isl (h : Held) (st : Nat) (s : State) : (done h st s).isl = s.isl := (done_apart _ _ _).isl
@[simp] theorem done_keys (h : Held) (st : Nat) (s : State) : (done h st s).keys = s.keys := (done_apart _ _ _).keys
@[simp] theorem done_locks (h : Held) (st : Nat) (s : State) : (done h st s).locks = s.locks := (done_apart _ _ _).locks
@[simp] theorem done_ilkEvents (h : Held) (st : Nat) (s : State) : (done h st s).ilkEvents = s.ilkEvents := (done_apart _ _ _).ilkEvents
@[simp] theorem done_prox (h : Held) (st : Nat) (s : State) : (done h st s).prox = s.prox := (done_apart _ _ _).prox
@[simp] theorem done_radio (h : Held) (st : Nat) (s : State) : (done h st s).radio = s.radio := (done_apart _ _ _).radio
@[simp] theorem done_sec (h : Held) (st : Nat) (s : State) : (done h st s).sec = s.sec := (done_apart _ _ _).sec
@[simp] theorem done_pwr (h : Held) (st : Nat) (s : State) : (done h st s).pwr = s.pwr := (done_apart _ _ _).pwr
@[simp] theorem done_twin (h : Held) (st : Nat) (s : State) : (done h st s).twin = s.twin := (done_apart _ _ _).twin
@[simp] theorem done_bus (h : Held) (st : Nat) (s : State) : (done h st s).bus = s.bus := (done_apart _ _ _).bus
@[simp] theorem done_upd (h : Held) (st : Nat) (s : State) : (done h st s).upd = s.upd := (done_apart _ _ _).upd
@[simp] theorem done_mnt (h : Held) (st : Nat) (s : State) : (done h st s).mnt = s.mnt := (done_apart _ _ _).mnt

/-! ## done1 -/

@[simp] theorem done1_pending (h : Held) (st : Nat) (w4 : Word) (s : State) : (done1 h st w4 s).pending = s.pending := (done1_apart _ _ _ _).pending
@[simp] theorem done1_clk (h : Held) (st : Nat) (w4 : Word) (s : State) : (done1 h st w4 s).clk = s.clk := (done1_apart _ _ _ _).clk
@[simp] theorem done1_free (h : Held) (st : Nat) (w4 : Word) (s : State) : (done1 h st w4 s).free = s.free := (done1_apart _ _ _ _).free
@[simp] theorem done1_dev (h : Held) (st : Nat) (w4 : Word) (s : State) : (done1 h st w4 s).dev = s.dev := (done1_apart _ _ _ _).dev
@[simp] theorem done1_nv (h : Held) (st : Nat) (w4 : Word) (s : State) : (done1 h st w4 s).nv = s.nv := (done1_apart _ _ _ _).nv
@[simp] theorem done1_par (h : Held) (st : Nat) (w4 : Word) (s : State) : (done1 h st w4 s).par = s.par := (done1_apart _ _ _ _).par
@[simp] theorem done1_staged (h : Held) (st : Nat) (w4 : Word) (s : State) : (done1 h st w4 s).staged = s.staged := (done1_apart _ _ _ _).staged
@[simp] theorem done1_tb (h : Held) (st : Nat) (w4 : Word) (s : State) : (done1 h st w4 s).tb = s.tb := (done1_apart _ _ _ _).tb
@[simp] theorem done1_sched (h : Held) (st : Nat) (w4 : Word) (s : State) : (done1 h st w4 s).sched = s.sched := (done1_apart _ _ _ _).sched
@[simp] theorem done1_lines (h : Held) (st : Nat) (w4 : Word) (s : State) : (done1 h st w4 s).lines = s.lines := (done1_apart _ _ _ _).lines
@[simp] theorem done1_roster (h : Held) (st : Nat) (w4 : Word) (s : State) : (done1 h st w4 s).roster = s.roster := (done1_apart _ _ _ _).roster
@[simp] theorem done1_isl (h : Held) (st : Nat) (w4 : Word) (s : State) : (done1 h st w4 s).isl = s.isl := (done1_apart _ _ _ _).isl
@[simp] theorem done1_keys (h : Held) (st : Nat) (w4 : Word) (s : State) : (done1 h st w4 s).keys = s.keys := (done1_apart _ _ _ _).keys
@[simp] theorem done1_locks (h : Held) (st : Nat) (w4 : Word) (s : State) : (done1 h st w4 s).locks = s.locks := (done1_apart _ _ _ _).locks
@[simp] theorem done1_ilkEvents (h : Held) (st : Nat) (w4 : Word) (s : State) : (done1 h st w4 s).ilkEvents = s.ilkEvents := (done1_apart _ _ _ _).ilkEvents
@[simp] theorem done1_prox (h : Held) (st : Nat) (w4 : Word) (s : State) : (done1 h st w4 s).prox = s.prox := (done1_apart _ _ _ _).prox
@[simp] theorem done1_radio (h : Held) (st : Nat) (w4 : Word) (s : State) : (done1 h st w4 s).radio = s.radio := (done1_apart _ _ _ _).radio
@[simp] theorem done1_sec (h : Held) (st : Nat) (w4 : Word) (s : State) : (done1 h st w4 s).sec = s.sec := (done1_apart _ _ _ _).sec
@[simp] theorem done1_pwr (h : Held) (st : Nat) (w4 : Word) (s : State) : (done1 h st w4 s).pwr = s.pwr := (done1_apart _ _ _ _).pwr
@[simp] theorem done1_twin (h : Held) (st : Nat) (w4 : Word) (s : State) : (done1 h st w4 s).twin = s.twin := (done1_apart _ _ _ _).twin
@[simp] theorem done1_bus (h : Held) (st : Nat) (w4 : Word) (s : State) : (done1 h st w4 s).bus = s.bus := (done1_apart _ _ _ _).bus
@[simp] theorem done1_upd (h : Held) (st : Nat) (w4 : Word) (s : State) : (done1 h st w4 s).upd = s.upd := (done1_apart _ _ _ _).upd
@[simp] theorem done1_mnt (h : Held) (st : Nat) (w4 : Word) (s : State) : (done1 h st w4 s).mnt = s.mnt := (done1_apart _ _ _ _).mnt

/-! ## doneBytes -/

@[simp] theorem doneBytes_pending (h : Held) (bs : List Byte) (w4 w5 w6 : Word) (s : State) : (doneBytes h bs w4 w5 w6 s).pending = s.pending := (doneBytes_apart _ _ _ _ _ _).pending
@[simp] theorem doneBytes_clk (h : Held) (bs : List Byte) (w4 w5 w6 : Word) (s : State) : (doneBytes h bs w4 w5 w6 s).clk = s.clk := (doneBytes_apart _ _ _ _ _ _).clk
@[simp] theorem doneBytes_free (h : Held) (bs : List Byte) (w4 w5 w6 : Word) (s : State) : (doneBytes h bs w4 w5 w6 s).free = s.free := (doneBytes_apart _ _ _ _ _ _).free
@[simp] theorem doneBytes_dev (h : Held) (bs : List Byte) (w4 w5 w6 : Word) (s : State) : (doneBytes h bs w4 w5 w6 s).dev = s.dev := (doneBytes_apart _ _ _ _ _ _).dev
@[simp] theorem doneBytes_nv (h : Held) (bs : List Byte) (w4 w5 w6 : Word) (s : State) : (doneBytes h bs w4 w5 w6 s).nv = s.nv := (doneBytes_apart _ _ _ _ _ _).nv
@[simp] theorem doneBytes_par (h : Held) (bs : List Byte) (w4 w5 w6 : Word) (s : State) : (doneBytes h bs w4 w5 w6 s).par = s.par := (doneBytes_apart _ _ _ _ _ _).par
@[simp] theorem doneBytes_staged (h : Held) (bs : List Byte) (w4 w5 w6 : Word) (s : State) : (doneBytes h bs w4 w5 w6 s).staged = s.staged := (doneBytes_apart _ _ _ _ _ _).staged
@[simp] theorem doneBytes_tb (h : Held) (bs : List Byte) (w4 w5 w6 : Word) (s : State) : (doneBytes h bs w4 w5 w6 s).tb = s.tb := (doneBytes_apart _ _ _ _ _ _).tb
@[simp] theorem doneBytes_sched (h : Held) (bs : List Byte) (w4 w5 w6 : Word) (s : State) : (doneBytes h bs w4 w5 w6 s).sched = s.sched := (doneBytes_apart _ _ _ _ _ _).sched
@[simp] theorem doneBytes_lines (h : Held) (bs : List Byte) (w4 w5 w6 : Word) (s : State) : (doneBytes h bs w4 w5 w6 s).lines = s.lines := (doneBytes_apart _ _ _ _ _ _).lines
@[simp] theorem doneBytes_roster (h : Held) (bs : List Byte) (w4 w5 w6 : Word) (s : State) : (doneBytes h bs w4 w5 w6 s).roster = s.roster := (doneBytes_apart _ _ _ _ _ _).roster
@[simp] theorem doneBytes_isl (h : Held) (bs : List Byte) (w4 w5 w6 : Word) (s : State) : (doneBytes h bs w4 w5 w6 s).isl = s.isl := (doneBytes_apart _ _ _ _ _ _).isl
@[simp] theorem doneBytes_keys (h : Held) (bs : List Byte) (w4 w5 w6 : Word) (s : State) : (doneBytes h bs w4 w5 w6 s).keys = s.keys := (doneBytes_apart _ _ _ _ _ _).keys
@[simp] theorem doneBytes_locks (h : Held) (bs : List Byte) (w4 w5 w6 : Word) (s : State) : (doneBytes h bs w4 w5 w6 s).locks = s.locks := (doneBytes_apart _ _ _ _ _ _).locks
@[simp] theorem doneBytes_ilkEvents (h : Held) (bs : List Byte) (w4 w5 w6 : Word) (s : State) : (doneBytes h bs w4 w5 w6 s).ilkEvents = s.ilkEvents := (doneBytes_apart _ _ _ _ _ _).ilkEvents
@[simp] theorem doneBytes_prox (h : Held) (bs : List Byte) (w4 w5 w6 : Word) (s : State) : (doneBytes h bs w4 w5 w6 s).prox = s.prox := (doneBytes_apart _ _ _ _ _ _).prox
@[simp] theorem doneBytes_radio (h : Held) (bs : List Byte) (w4 w5 w6 : Word) (s : State) : (doneBytes h bs w4 w5 w6 s).radio = s.radio := (doneBytes_apart _ _ _ _ _ _).radio
@[simp] theorem doneBytes_sec (h : Held) (bs : List Byte) (w4 w5 w6 : Word) (s : State) : (doneBytes h bs w4 w5 w6 s).sec = s.sec := (doneBytes_apart _ _ _ _ _ _).sec
@[simp] theorem doneBytes_pwr (h : Held) (bs : List Byte) (w4 w5 w6 : Word) (s : State) : (doneBytes h bs w4 w5 w6 s).pwr = s.pwr := (doneBytes_apart _ _ _ _ _ _).pwr
@[simp] theorem doneBytes_twin (h : Held) (bs : List Byte) (w4 w5 w6 : Word) (s : State) : (doneBytes h bs w4 w5 w6 s).twin = s.twin := (doneBytes_apart _ _ _ _ _ _).twin
@[simp] theorem doneBytes_bus (h : Held) (bs : List Byte) (w4 w5 w6 : Word) (s : State) : (doneBytes h bs w4 w5 w6 s).bus = s.bus := (doneBytes_apart _ _ _ _ _ _).bus
@[simp] theorem doneBytes_upd (h : Held) (bs : List Byte) (w4 w5 w6 : Word) (s : State) : (doneBytes h bs w4 w5 w6 s).upd = s.upd := (doneBytes_apart _ _ _ _ _ _).upd
@[simp] theorem doneBytes_mnt (h : Held) (bs : List Byte) (w4 w5 w6 : Word) (s : State) : (doneBytes h bs w4 w5 w6 s).mnt = s.mnt := (doneBytes_apart _ _ _ _ _ _).mnt

/-! ## complete -/

@[simp] theorem complete_pending (r i st : Nat) (w4 w5 w6 : Word) (n : Nat) (s : State) : (complete r i st w4 w5 w6 n s).pending = s.pending := (complete_apart _ _ _ _ _ _ _ _).pending
@[simp] theorem complete_clk (r i st : Nat) (w4 w5 w6 : Word) (n : Nat) (s : State) : (complete r i st w4 w5 w6 n s).clk = s.clk := (complete_apart _ _ _ _ _ _ _ _).clk
@[simp] theorem complete_free (r i st : Nat) (w4 w5 w6 : Word) (n : Nat) (s : State) : (complete r i st w4 w5 w6 n s).free = s.free := (complete_apart _ _ _ _ _ _ _ _).free
@[simp] theorem complete_dev (r i st : Nat) (w4 w5 w6 : Word) (n : Nat) (s : State) : (complete r i st w4 w5 w6 n s).dev = s.dev := (complete_apart _ _ _ _ _ _ _ _).dev
@[simp] theorem complete_nv (r i st : Nat) (w4 w5 w6 : Word) (n : Nat) (s : State) : (complete r i st w4 w5 w6 n s).nv = s.nv := (complete_apart _ _ _ _ _ _ _ _).nv
@[simp] theorem complete_par (r i st : Nat) (w4 w5 w6 : Word) (n : Nat) (s : State) : (complete r i st w4 w5 w6 n s).par = s.par := (complete_apart _ _ _ _ _ _ _ _).par
@[simp] theorem complete_staged (r i st : Nat) (w4 w5 w6 : Word) (n : Nat) (s : State) : (complete r i st w4 w5 w6 n s).staged = s.staged := (complete_apart _ _ _ _ _ _ _ _).staged
@[simp] theorem complete_tb (r i st : Nat) (w4 w5 w6 : Word) (n : Nat) (s : State) : (complete r i st w4 w5 w6 n s).tb = s.tb := (complete_apart _ _ _ _ _ _ _ _).tb
@[simp] theorem complete_sched (r i st : Nat) (w4 w5 w6 : Word) (n : Nat) (s : State) : (complete r i st w4 w5 w6 n s).sched = s.sched := (complete_apart _ _ _ _ _ _ _ _).sched
@[simp] theorem complete_lines (r i st : Nat) (w4 w5 w6 : Word) (n : Nat) (s : State) : (complete r i st w4 w5 w6 n s).lines = s.lines := (complete_apart _ _ _ _ _ _ _ _).lines
@[simp] theorem complete_roster (r i st : Nat) (w4 w5 w6 : Word) (n : Nat) (s : State) : (complete r i st w4 w5 w6 n s).roster = s.roster := (complete_apart _ _ _ _ _ _ _ _).roster
@[simp] theorem complete_isl (r i st : Nat) (w4 w5 w6 : Word) (n : Nat) (s : State) : (complete r i st w4 w5 w6 n s).isl = s.isl := (complete_apart _ _ _ _ _ _ _ _).isl
@[simp] theorem complete_keys (r i st : Nat) (w4 w5 w6 : Word) (n : Nat) (s : State) : (complete r i st w4 w5 w6 n s).keys = s.keys := (complete_apart _ _ _ _ _ _ _ _).keys
@[simp] theorem complete_locks (r i st : Nat) (w4 w5 w6 : Word) (n : Nat) (s : State) : (complete r i st w4 w5 w6 n s).locks = s.locks := (complete_apart _ _ _ _ _ _ _ _).locks
@[simp] theorem complete_ilkEvents (r i st : Nat) (w4 w5 w6 : Word) (n : Nat) (s : State) : (complete r i st w4 w5 w6 n s).ilkEvents = s.ilkEvents := (complete_apart _ _ _ _ _ _ _ _).ilkEvents
@[simp] theorem complete_prox (r i st : Nat) (w4 w5 w6 : Word) (n : Nat) (s : State) : (complete r i st w4 w5 w6 n s).prox = s.prox := (complete_apart _ _ _ _ _ _ _ _).prox
@[simp] theorem complete_radio (r i st : Nat) (w4 w5 w6 : Word) (n : Nat) (s : State) : (complete r i st w4 w5 w6 n s).radio = s.radio := (complete_apart _ _ _ _ _ _ _ _).radio
@[simp] theorem complete_sec (r i st : Nat) (w4 w5 w6 : Word) (n : Nat) (s : State) : (complete r i st w4 w5 w6 n s).sec = s.sec := (complete_apart _ _ _ _ _ _ _ _).sec
@[simp] theorem complete_pwr (r i st : Nat) (w4 w5 w6 : Word) (n : Nat) (s : State) : (complete r i st w4 w5 w6 n s).pwr = s.pwr := (complete_apart _ _ _ _ _ _ _ _).pwr
@[simp] theorem complete_twin (r i st : Nat) (w4 w5 w6 : Word) (n : Nat) (s : State) : (complete r i st w4 w5 w6 n s).twin = s.twin := (complete_apart _ _ _ _ _ _ _ _).twin
@[simp] theorem complete_bus (r i st : Nat) (w4 w5 w6 : Word) (n : Nat) (s : State) : (complete r i st w4 w5 w6 n s).bus = s.bus := (complete_apart _ _ _ _ _ _ _ _).bus
@[simp] theorem complete_upd (r i st : Nat) (w4 w5 w6 : Word) (n : Nat) (s : State) : (complete r i st w4 w5 w6 n s).upd = s.upd := (complete_apart _ _ _ _ _ _ _ _).upd
@[simp] theorem complete_mnt (r i st : Nat) (w4 w5 w6 : Word) (n : Nat) (s : State) : (complete r i st w4 w5 w6 n s).mnt = s.mnt := (complete_apart _ _ _ _ _ _ _ _).mnt

/-! ## completeWhere -/

@[simp] theorem completeWhere_pending (p : Held → Bool) (st : Nat) (w4 w5 w6 : Word) (s : State) : (completeWhere p st w4 w5 w6 s).pending = s.pending := (completeWhere_apart _ _ _ _ _ _).pending
@[simp] theorem completeWhere_clk (p : Held → Bool) (st : Nat) (w4 w5 w6 : Word) (s : State) : (completeWhere p st w4 w5 w6 s).clk = s.clk := (completeWhere_apart _ _ _ _ _ _).clk
@[simp] theorem completeWhere_free (p : Held → Bool) (st : Nat) (w4 w5 w6 : Word) (s : State) : (completeWhere p st w4 w5 w6 s).free = s.free := (completeWhere_apart _ _ _ _ _ _).free
@[simp] theorem completeWhere_dev (p : Held → Bool) (st : Nat) (w4 w5 w6 : Word) (s : State) : (completeWhere p st w4 w5 w6 s).dev = s.dev := (completeWhere_apart _ _ _ _ _ _).dev
@[simp] theorem completeWhere_nv (p : Held → Bool) (st : Nat) (w4 w5 w6 : Word) (s : State) : (completeWhere p st w4 w5 w6 s).nv = s.nv := (completeWhere_apart _ _ _ _ _ _).nv
@[simp] theorem completeWhere_par (p : Held → Bool) (st : Nat) (w4 w5 w6 : Word) (s : State) : (completeWhere p st w4 w5 w6 s).par = s.par := (completeWhere_apart _ _ _ _ _ _).par
@[simp] theorem completeWhere_staged (p : Held → Bool) (st : Nat) (w4 w5 w6 : Word) (s : State) : (completeWhere p st w4 w5 w6 s).staged = s.staged := (completeWhere_apart _ _ _ _ _ _).staged
@[simp] theorem completeWhere_tb (p : Held → Bool) (st : Nat) (w4 w5 w6 : Word) (s : State) : (completeWhere p st w4 w5 w6 s).tb = s.tb := (completeWhere_apart _ _ _ _ _ _).tb
@[simp] theorem completeWhere_sched (p : Held → Bool) (st : Nat) (w4 w5 w6 : Word) (s : State) : (completeWhere p st w4 w5 w6 s).sched = s.sched := (completeWhere_apart _ _ _ _ _ _).sched
@[simp] theorem completeWhere_lines (p : Held → Bool) (st : Nat) (w4 w5 w6 : Word) (s : State) : (completeWhere p st w4 w5 w6 s).lines = s.lines := (completeWhere_apart _ _ _ _ _ _).lines
@[simp] theorem completeWhere_roster (p : Held → Bool) (st : Nat) (w4 w5 w6 : Word) (s : State) : (completeWhere p st w4 w5 w6 s).roster = s.roster := (completeWhere_apart _ _ _ _ _ _).roster
@[simp] theorem completeWhere_isl (p : Held → Bool) (st : Nat) (w4 w5 w6 : Word) (s : State) : (completeWhere p st w4 w5 w6 s).isl = s.isl := (completeWhere_apart _ _ _ _ _ _).isl
@[simp] theorem completeWhere_keys (p : Held → Bool) (st : Nat) (w4 w5 w6 : Word) (s : State) : (completeWhere p st w4 w5 w6 s).keys = s.keys := (completeWhere_apart _ _ _ _ _ _).keys
@[simp] theorem completeWhere_locks (p : Held → Bool) (st : Nat) (w4 w5 w6 : Word) (s : State) : (completeWhere p st w4 w5 w6 s).locks = s.locks := (completeWhere_apart _ _ _ _ _ _).locks
@[simp] theorem completeWhere_ilkEvents (p : Held → Bool) (st : Nat) (w4 w5 w6 : Word) (s : State) : (completeWhere p st w4 w5 w6 s).ilkEvents = s.ilkEvents := (completeWhere_apart _ _ _ _ _ _).ilkEvents
@[simp] theorem completeWhere_prox (p : Held → Bool) (st : Nat) (w4 w5 w6 : Word) (s : State) : (completeWhere p st w4 w5 w6 s).prox = s.prox := (completeWhere_apart _ _ _ _ _ _).prox
@[simp] theorem completeWhere_radio (p : Held → Bool) (st : Nat) (w4 w5 w6 : Word) (s : State) : (completeWhere p st w4 w5 w6 s).radio = s.radio := (completeWhere_apart _ _ _ _ _ _).radio
@[simp] theorem completeWhere_sec (p : Held → Bool) (st : Nat) (w4 w5 w6 : Word) (s : State) : (completeWhere p st w4 w5 w6 s).sec = s.sec := (completeWhere_apart _ _ _ _ _ _).sec
@[simp] theorem completeWhere_pwr (p : Held → Bool) (st : Nat) (w4 w5 w6 : Word) (s : State) : (completeWhere p st w4 w5 w6 s).pwr = s.pwr := (completeWhere_apart _ _ _ _ _ _).pwr
@[simp] theorem completeWhere_twin (p : Held → Bool) (st : Nat) (w4 w5 w6 : Word) (s : State) : (completeWhere p st w4 w5 w6 s).twin = s.twin := (completeWhere_apart _ _ _ _ _ _).twin
@[simp] theorem completeWhere_bus (p : Held → Bool) (st : Nat) (w4 w5 w6 : Word) (s : State) : (completeWhere p st w4 w5 w6 s).bus = s.bus := (completeWhere_apart _ _ _ _ _ _).bus
@[simp] theorem completeWhere_upd (p : Held → Bool) (st : Nat) (w4 w5 w6 : Word) (s : State) : (completeWhere p st w4 w5 w6 s).upd = s.upd := (completeWhere_apart _ _ _ _ _ _).upd
@[simp] theorem completeWhere_mnt (p : Held → Bool) (st : Nat) (w4 w5 w6 : Word) (s : State) : (completeWhere p st w4 w5 w6 s).mnt = s.mnt := (completeWhere_apart _ _ _ _ _ _).mnt

/-! ## setKind -/

@[simp] theorem setKind_pending (h : Held) (k : HeldKind) (s : State) : (setKind h k s).pending = s.pending := (setKind_apart _ _ _).pending
@[simp] theorem setKind_clk (h : Held) (k : HeldKind) (s : State) : (setKind h k s).clk = s.clk := (setKind_apart _ _ _).clk
@[simp] theorem setKind_free (h : Held) (k : HeldKind) (s : State) : (setKind h k s).free = s.free := (setKind_apart _ _ _).free
@[simp] theorem setKind_dev (h : Held) (k : HeldKind) (s : State) : (setKind h k s).dev = s.dev := (setKind_apart _ _ _).dev
@[simp] theorem setKind_nv (h : Held) (k : HeldKind) (s : State) : (setKind h k s).nv = s.nv := (setKind_apart _ _ _).nv
@[simp] theorem setKind_par (h : Held) (k : HeldKind) (s : State) : (setKind h k s).par = s.par := (setKind_apart _ _ _).par
@[simp] theorem setKind_staged (h : Held) (k : HeldKind) (s : State) : (setKind h k s).staged = s.staged := (setKind_apart _ _ _).staged
@[simp] theorem setKind_tb (h : Held) (k : HeldKind) (s : State) : (setKind h k s).tb = s.tb := (setKind_apart _ _ _).tb
@[simp] theorem setKind_sched (h : Held) (k : HeldKind) (s : State) : (setKind h k s).sched = s.sched := (setKind_apart _ _ _).sched
@[simp] theorem setKind_lines (h : Held) (k : HeldKind) (s : State) : (setKind h k s).lines = s.lines := (setKind_apart _ _ _).lines
@[simp] theorem setKind_roster (h : Held) (k : HeldKind) (s : State) : (setKind h k s).roster = s.roster := (setKind_apart _ _ _).roster
@[simp] theorem setKind_isl (h : Held) (k : HeldKind) (s : State) : (setKind h k s).isl = s.isl := (setKind_apart _ _ _).isl
@[simp] theorem setKind_keys (h : Held) (k : HeldKind) (s : State) : (setKind h k s).keys = s.keys := (setKind_apart _ _ _).keys
@[simp] theorem setKind_locks (h : Held) (k : HeldKind) (s : State) : (setKind h k s).locks = s.locks := (setKind_apart _ _ _).locks
@[simp] theorem setKind_ilkEvents (h : Held) (k : HeldKind) (s : State) : (setKind h k s).ilkEvents = s.ilkEvents := (setKind_apart _ _ _).ilkEvents
@[simp] theorem setKind_prox (h : Held) (k : HeldKind) (s : State) : (setKind h k s).prox = s.prox := (setKind_apart _ _ _).prox
@[simp] theorem setKind_radio (h : Held) (k : HeldKind) (s : State) : (setKind h k s).radio = s.radio := (setKind_apart _ _ _).radio
@[simp] theorem setKind_sec (h : Held) (k : HeldKind) (s : State) : (setKind h k s).sec = s.sec := (setKind_apart _ _ _).sec
@[simp] theorem setKind_pwr (h : Held) (k : HeldKind) (s : State) : (setKind h k s).pwr = s.pwr := (setKind_apart _ _ _).pwr
@[simp] theorem setKind_twin (h : Held) (k : HeldKind) (s : State) : (setKind h k s).twin = s.twin := (setKind_apart _ _ _).twin
@[simp] theorem setKind_bus (h : Held) (k : HeldKind) (s : State) : (setKind h k s).bus = s.bus := (setKind_apart _ _ _).bus
@[simp] theorem setKind_upd (h : Held) (k : HeldKind) (s : State) : (setKind h k s).upd = s.upd := (setKind_apart _ _ _).upd
@[simp] theorem setKind_mnt (h : Held) (k : HeldKind) (s : State) : (setKind h k s).mnt = s.mnt := (setKind_apart _ _ _).mnt

/-! ## deliverEvent -/

@[simp] theorem deliverEvent_pending (h : Held) (e : Event) (s : State) : (deliverEvent h e s).pending = s.pending := (deliverEvent_apart _ _ _).pending
@[simp] theorem deliverEvent_clk (h : Held) (e : Event) (s : State) : (deliverEvent h e s).clk = s.clk := (deliverEvent_apart _ _ _).clk
@[simp] theorem deliverEvent_free (h : Held) (e : Event) (s : State) : (deliverEvent h e s).free = s.free := (deliverEvent_apart _ _ _).free
@[simp] theorem deliverEvent_dev (h : Held) (e : Event) (s : State) : (deliverEvent h e s).dev = s.dev := (deliverEvent_apart _ _ _).dev
@[simp] theorem deliverEvent_nv (h : Held) (e : Event) (s : State) : (deliverEvent h e s).nv = s.nv := (deliverEvent_apart _ _ _).nv
@[simp] theorem deliverEvent_par (h : Held) (e : Event) (s : State) : (deliverEvent h e s).par = s.par := (deliverEvent_apart _ _ _).par
@[simp] theorem deliverEvent_staged (h : Held) (e : Event) (s : State) : (deliverEvent h e s).staged = s.staged := (deliverEvent_apart _ _ _).staged
@[simp] theorem deliverEvent_tb (h : Held) (e : Event) (s : State) : (deliverEvent h e s).tb = s.tb := (deliverEvent_apart _ _ _).tb
@[simp] theorem deliverEvent_sched (h : Held) (e : Event) (s : State) : (deliverEvent h e s).sched = s.sched := (deliverEvent_apart _ _ _).sched
@[simp] theorem deliverEvent_lines (h : Held) (e : Event) (s : State) : (deliverEvent h e s).lines = s.lines := (deliverEvent_apart _ _ _).lines
@[simp] theorem deliverEvent_roster (h : Held) (e : Event) (s : State) : (deliverEvent h e s).roster = s.roster := (deliverEvent_apart _ _ _).roster
@[simp] theorem deliverEvent_isl (h : Held) (e : Event) (s : State) : (deliverEvent h e s).isl = s.isl := (deliverEvent_apart _ _ _).isl
@[simp] theorem deliverEvent_keys (h : Held) (e : Event) (s : State) : (deliverEvent h e s).keys = s.keys := (deliverEvent_apart _ _ _).keys
@[simp] theorem deliverEvent_locks (h : Held) (e : Event) (s : State) : (deliverEvent h e s).locks = s.locks := (deliverEvent_apart _ _ _).locks
@[simp] theorem deliverEvent_ilkEvents (h : Held) (e : Event) (s : State) : (deliverEvent h e s).ilkEvents = s.ilkEvents := (deliverEvent_apart _ _ _).ilkEvents
@[simp] theorem deliverEvent_prox (h : Held) (e : Event) (s : State) : (deliverEvent h e s).prox = s.prox := (deliverEvent_apart _ _ _).prox
@[simp] theorem deliverEvent_radio (h : Held) (e : Event) (s : State) : (deliverEvent h e s).radio = s.radio := (deliverEvent_apart _ _ _).radio
@[simp] theorem deliverEvent_sec (h : Held) (e : Event) (s : State) : (deliverEvent h e s).sec = s.sec := (deliverEvent_apart _ _ _).sec
@[simp] theorem deliverEvent_pwr (h : Held) (e : Event) (s : State) : (deliverEvent h e s).pwr = s.pwr := (deliverEvent_apart _ _ _).pwr
@[simp] theorem deliverEvent_twin (h : Held) (e : Event) (s : State) : (deliverEvent h e s).twin = s.twin := (deliverEvent_apart _ _ _).twin
@[simp] theorem deliverEvent_bus (h : Held) (e : Event) (s : State) : (deliverEvent h e s).bus = s.bus := (deliverEvent_apart _ _ _).bus
@[simp] theorem deliverEvent_upd (h : Held) (e : Event) (s : State) : (deliverEvent h e s).upd = s.upd := (deliverEvent_apart _ _ _).upd
@[simp] theorem deliverEvent_mnt (h : Held) (e : Event) (s : State) : (deliverEvent h e s).mnt = s.mnt := (deliverEvent_apart _ _ _).mnt

/-! ## postEvent -/

@[simp] theorem postEvent_pending (c : Nat) (p : List Byte) (s : State) : (postEvent c p s).pending = s.pending := (postEvent_apart _ _ _).pending
@[simp] theorem postEvent_clk (c : Nat) (p : List Byte) (s : State) : (postEvent c p s).clk = s.clk := (postEvent_apart _ _ _).clk
@[simp] theorem postEvent_free (c : Nat) (p : List Byte) (s : State) : (postEvent c p s).free = s.free := (postEvent_apart _ _ _).free
@[simp] theorem postEvent_dev (c : Nat) (p : List Byte) (s : State) : (postEvent c p s).dev = s.dev := (postEvent_apart _ _ _).dev
@[simp] theorem postEvent_nv (c : Nat) (p : List Byte) (s : State) : (postEvent c p s).nv = s.nv := (postEvent_apart _ _ _).nv
@[simp] theorem postEvent_par (c : Nat) (p : List Byte) (s : State) : (postEvent c p s).par = s.par := (postEvent_apart _ _ _).par
@[simp] theorem postEvent_staged (c : Nat) (p : List Byte) (s : State) : (postEvent c p s).staged = s.staged := (postEvent_apart _ _ _).staged
@[simp] theorem postEvent_tb (c : Nat) (p : List Byte) (s : State) : (postEvent c p s).tb = s.tb := (postEvent_apart _ _ _).tb
@[simp] theorem postEvent_sched (c : Nat) (p : List Byte) (s : State) : (postEvent c p s).sched = s.sched := (postEvent_apart _ _ _).sched
@[simp] theorem postEvent_lines (c : Nat) (p : List Byte) (s : State) : (postEvent c p s).lines = s.lines := (postEvent_apart _ _ _).lines
@[simp] theorem postEvent_roster (c : Nat) (p : List Byte) (s : State) : (postEvent c p s).roster = s.roster := (postEvent_apart _ _ _).roster
@[simp] theorem postEvent_isl (c : Nat) (p : List Byte) (s : State) : (postEvent c p s).isl = s.isl := (postEvent_apart _ _ _).isl
@[simp] theorem postEvent_keys (c : Nat) (p : List Byte) (s : State) : (postEvent c p s).keys = s.keys := (postEvent_apart _ _ _).keys
@[simp] theorem postEvent_locks (c : Nat) (p : List Byte) (s : State) : (postEvent c p s).locks = s.locks := (postEvent_apart _ _ _).locks
@[simp] theorem postEvent_ilkEvents (c : Nat) (p : List Byte) (s : State) : (postEvent c p s).ilkEvents = s.ilkEvents := (postEvent_apart _ _ _).ilkEvents
@[simp] theorem postEvent_prox (c : Nat) (p : List Byte) (s : State) : (postEvent c p s).prox = s.prox := (postEvent_apart _ _ _).prox
@[simp] theorem postEvent_radio (c : Nat) (p : List Byte) (s : State) : (postEvent c p s).radio = s.radio := (postEvent_apart _ _ _).radio
@[simp] theorem postEvent_sec (c : Nat) (p : List Byte) (s : State) : (postEvent c p s).sec = s.sec := (postEvent_apart _ _ _).sec
@[simp] theorem postEvent_pwr (c : Nat) (p : List Byte) (s : State) : (postEvent c p s).pwr = s.pwr := (postEvent_apart _ _ _).pwr
@[simp] theorem postEvent_twin (c : Nat) (p : List Byte) (s : State) : (postEvent c p s).twin = s.twin := (postEvent_apart _ _ _).twin
@[simp] theorem postEvent_bus (c : Nat) (p : List Byte) (s : State) : (postEvent c p s).bus = s.bus := (postEvent_apart _ _ _).bus
@[simp] theorem postEvent_upd (c : Nat) (p : List Byte) (s : State) : (postEvent c p s).upd = s.upd := (postEvent_apart _ _ _).upd
@[simp] theorem postEvent_mnt (c : Nat) (p : List Byte) (s : State) : (postEvent c p s).mnt = s.mnt := (postEvent_apart _ _ _).mnt

/-! ## ringError -/

@[simp] theorem ringError_pending (r c : Nat) (s : State) : (ringError r c s).pending = s.pending := (ringError_apart _ _ _).pending
@[simp] theorem ringError_clk (r c : Nat) (s : State) : (ringError r c s).clk = s.clk := (ringError_apart _ _ _).clk
@[simp] theorem ringError_free (r c : Nat) (s : State) : (ringError r c s).free = s.free := (ringError_apart _ _ _).free
@[simp] theorem ringError_dev (r c : Nat) (s : State) : (ringError r c s).dev = s.dev := (ringError_apart _ _ _).dev
@[simp] theorem ringError_nv (r c : Nat) (s : State) : (ringError r c s).nv = s.nv := (ringError_apart _ _ _).nv
@[simp] theorem ringError_par (r c : Nat) (s : State) : (ringError r c s).par = s.par := (ringError_apart _ _ _).par
@[simp] theorem ringError_staged (r c : Nat) (s : State) : (ringError r c s).staged = s.staged := (ringError_apart _ _ _).staged
@[simp] theorem ringError_tb (r c : Nat) (s : State) : (ringError r c s).tb = s.tb := (ringError_apart _ _ _).tb
@[simp] theorem ringError_sched (r c : Nat) (s : State) : (ringError r c s).sched = s.sched := (ringError_apart _ _ _).sched
@[simp] theorem ringError_lines (r c : Nat) (s : State) : (ringError r c s).lines = s.lines := (ringError_apart _ _ _).lines
@[simp] theorem ringError_roster (r c : Nat) (s : State) : (ringError r c s).roster = s.roster := (ringError_apart _ _ _).roster
@[simp] theorem ringError_isl (r c : Nat) (s : State) : (ringError r c s).isl = s.isl := (ringError_apart _ _ _).isl
@[simp] theorem ringError_keys (r c : Nat) (s : State) : (ringError r c s).keys = s.keys := (ringError_apart _ _ _).keys
@[simp] theorem ringError_locks (r c : Nat) (s : State) : (ringError r c s).locks = s.locks := (ringError_apart _ _ _).locks
@[simp] theorem ringError_ilkEvents (r c : Nat) (s : State) : (ringError r c s).ilkEvents = s.ilkEvents := (ringError_apart _ _ _).ilkEvents
@[simp] theorem ringError_prox (r c : Nat) (s : State) : (ringError r c s).prox = s.prox := (ringError_apart _ _ _).prox
@[simp] theorem ringError_radio (r c : Nat) (s : State) : (ringError r c s).radio = s.radio := (ringError_apart _ _ _).radio
@[simp] theorem ringError_sec (r c : Nat) (s : State) : (ringError r c s).sec = s.sec := (ringError_apart _ _ _).sec
@[simp] theorem ringError_pwr (r c : Nat) (s : State) : (ringError r c s).pwr = s.pwr := (ringError_apart _ _ _).pwr
@[simp] theorem ringError_twin (r c : Nat) (s : State) : (ringError r c s).twin = s.twin := (ringError_apart _ _ _).twin
@[simp] theorem ringError_bus (r c : Nat) (s : State) : (ringError r c s).bus = s.bus := (ringError_apart _ _ _).bus
@[simp] theorem ringError_upd (r c : Nat) (s : State) : (ringError r c s).upd = s.upd := (ringError_apart _ _ _).upd
@[simp] theorem ringError_mnt (r c : Nat) (s : State) : (ringError r c s).mnt = s.mnt := (ringError_apart _ _ _).mnt

/-! ## takeHead -/

@[simp] theorem takeHead_pending (r : Nat) (s : State) : (takeHead r s).pending = s.pending := (takeHead_apart _ _).pending
@[simp] theorem takeHead_clk (r : Nat) (s : State) : (takeHead r s).clk = s.clk := (takeHead_apart _ _).clk
@[simp] theorem takeHead_free (r : Nat) (s : State) : (takeHead r s).free = s.free := (takeHead_apart _ _).free
@[simp] theorem takeHead_dev (r : Nat) (s : State) : (takeHead r s).dev = s.dev := (takeHead_apart _ _).dev
@[simp] theorem takeHead_nv (r : Nat) (s : State) : (takeHead r s).nv = s.nv := (takeHead_apart _ _).nv
@[simp] theorem takeHead_par (r : Nat) (s : State) : (takeHead r s).par = s.par := (takeHead_apart _ _).par
@[simp] theorem takeHead_staged (r : Nat) (s : State) : (takeHead r s).staged = s.staged := (takeHead_apart _ _).staged
@[simp] theorem takeHead_tb (r : Nat) (s : State) : (takeHead r s).tb = s.tb := (takeHead_apart _ _).tb
@[simp] theorem takeHead_sched (r : Nat) (s : State) : (takeHead r s).sched = s.sched := (takeHead_apart _ _).sched
@[simp] theorem takeHead_lines (r : Nat) (s : State) : (takeHead r s).lines = s.lines := (takeHead_apart _ _).lines
@[simp] theorem takeHead_roster (r : Nat) (s : State) : (takeHead r s).roster = s.roster := (takeHead_apart _ _).roster
@[simp] theorem takeHead_isl (r : Nat) (s : State) : (takeHead r s).isl = s.isl := (takeHead_apart _ _).isl
@[simp] theorem takeHead_keys (r : Nat) (s : State) : (takeHead r s).keys = s.keys := (takeHead_apart _ _).keys
@[simp] theorem takeHead_locks (r : Nat) (s : State) : (takeHead r s).locks = s.locks := (takeHead_apart _ _).locks
@[simp] theorem takeHead_ilkEvents (r : Nat) (s : State) : (takeHead r s).ilkEvents = s.ilkEvents := (takeHead_apart _ _).ilkEvents
@[simp] theorem takeHead_prox (r : Nat) (s : State) : (takeHead r s).prox = s.prox := (takeHead_apart _ _).prox
@[simp] theorem takeHead_radio (r : Nat) (s : State) : (takeHead r s).radio = s.radio := (takeHead_apart _ _).radio
@[simp] theorem takeHead_sec (r : Nat) (s : State) : (takeHead r s).sec = s.sec := (takeHead_apart _ _).sec
@[simp] theorem takeHead_pwr (r : Nat) (s : State) : (takeHead r s).pwr = s.pwr := (takeHead_apart _ _).pwr
@[simp] theorem takeHead_twin (r : Nat) (s : State) : (takeHead r s).twin = s.twin := (takeHead_apart _ _).twin
@[simp] theorem takeHead_bus (r : Nat) (s : State) : (takeHead r s).bus = s.bus := (takeHead_apart _ _).bus
@[simp] theorem takeHead_upd (r : Nat) (s : State) : (takeHead r s).upd = s.upd := (takeHead_apart _ _).upd
@[simp] theorem takeHead_mnt (r : Nat) (s : State) : (takeHead r s).mnt = s.mnt := (takeHead_apart _ _).mnt

/-! ## settle -/

@[simp] theorem settle_pending (s : State) : (settle s).pending = s.pending := (settle_apart _).pending
@[simp] theorem settle_clk (s : State) : (settle s).clk = s.clk := (settle_apart _).clk
@[simp] theorem settle_free (s : State) : (settle s).free = s.free := (settle_apart _).free
@[simp] theorem settle_dev (s : State) : (settle s).dev = s.dev := (settle_apart _).dev
@[simp] theorem settle_nv (s : State) : (settle s).nv = s.nv := (settle_apart _).nv
@[simp] theorem settle_par (s : State) : (settle s).par = s.par := (settle_apart _).par
@[simp] theorem settle_staged (s : State) : (settle s).staged = s.staged := (settle_apart _).staged
@[simp] theorem settle_tb (s : State) : (settle s).tb = s.tb := (settle_apart _).tb
@[simp] theorem settle_sched (s : State) : (settle s).sched = s.sched := (settle_apart _).sched
@[simp] theorem settle_lines (s : State) : (settle s).lines = s.lines := (settle_apart _).lines
@[simp] theorem settle_roster (s : State) : (settle s).roster = s.roster := (settle_apart _).roster
@[simp] theorem settle_isl (s : State) : (settle s).isl = s.isl := (settle_apart _).isl
@[simp] theorem settle_keys (s : State) : (settle s).keys = s.keys := (settle_apart _).keys
@[simp] theorem settle_locks (s : State) : (settle s).locks = s.locks := (settle_apart _).locks
@[simp] theorem settle_ilkEvents (s : State) : (settle s).ilkEvents = s.ilkEvents := (settle_apart _).ilkEvents
@[simp] theorem settle_prox (s : State) : (settle s).prox = s.prox := (settle_apart _).prox
@[simp] theorem settle_radio (s : State) : (settle s).radio = s.radio := (settle_apart _).radio
@[simp] theorem settle_sec (s : State) : (settle s).sec = s.sec := (settle_apart _).sec
@[simp] theorem settle_pwr (s : State) : (settle s).pwr = s.pwr := (settle_apart _).pwr
@[simp] theorem settle_twin (s : State) : (settle s).twin = s.twin := (settle_apart _).twin
@[simp] theorem settle_bus (s : State) : (settle s).bus = s.bus := (settle_apart _).bus
@[simp] theorem settle_upd (s : State) : (settle s).upd = s.upd := (settle_apart _).upd
@[simp] theorem settle_mnt (s : State) : (settle s).mnt = s.mnt := (settle_apart _).mnt

end Sys2Proof.Machine
end

