-- ==== Sys2Proof/Machine/Pins.lean ====
section
/-!
DEFINITION. Sys2Proof/Machine/Pins.lean: levels of the output balls (03 R79; 07 R223, R224; 09 R267; 11 R322; 14 R384, R386, R399; 17 R459,
R475).
-/
namespace Sys2Proof.Machine

/-- Level of an output ball. `released`: high-impedance, or an open-drain output that does not pull. -/
inductive Pin where
  | low
  | high
  | released
  deriving DecidableEq, Repr

def Pin.ofBool (b : Bool) : Pin := if b then .high else .low

/-- Boot has set the balls' functions: not in reset, OFF or without VIO, and no longer in boot (R459). -/
def pinsSet (s : State) : Bool :=
  match s.dev.mode with
  | .off => false
  | .held => false
  | .boot => false
  | _ => true

/-- ILKn_A and ILKn_B (R223, R224). -/
def pinIlkA (s : State) (o : Nat) : Pin := if pinsSet s then .ofBool (ilkA s o) else .released
def pinIlkB (s : State) (o : Nat) : Pin := if pinsSet s then .ofBool (ilkB s o) else .released

/-- ILK_KILL_N, open-drain (R384, R399). -/
def pinKill (s : State) : Pin := if pinsSet s && s.dev.kill then .low else .released

/-- TWIN_HB_OUT toggles (R386): in RUN, of which sleep entry is a part (13 R361, R368), and ready. In a device that has turned FAILED the one
clock gate stops it with the pulses, at the end of their period (16 R447). -/
def hbToggles (s : State) : Bool := boxRuns s && (!s.dev.failed || [0, 1, 2, 3].any fun o => decide (s.clk < (getLock s o).stopClk))

/-- TWIN_HB_OUT: 1.000 kHz, and static low otherwise (R386, R459, R475). The spec gives the square wave no phase: it is counted from clock 0
(DESIGN CHOICE, assumption log 36). -/
def pinHbOut (s : State) : Pin := .ofBool (hbToggles s && s.clk / 16000 % 2 == 1)

/-- HIRQ_N (R322): as a push-pull output it is driven high where it does not pull low. -/
def pinHirq (s : State) : Pin := if hirq s then .low else if pinsSet s && s.port.hirqCtrl.getLsbD 1 then .high else .released

/-- COEX_REQ and COEX_PRIO (R267); low in reset and OFF by their pull-downs. -/
def pinCoexReq (s : State) : Pin := .ofBool (pinsSet s && s.radio.coexReq)
def pinCoexPrio (s : State) : Pin := .ofBool (pinsSet s && s.radio.coexPrio)

/-- The bridge of a line drives at the present clock: a cycle of a block that drives it, and no quench gap (03 R85, R92; 14 R384). -/
def bridgeDrives (s : State) (l : Nat) : Bool :=
  pinsSet s && (drivingBlock s l).any fun b => memberDriven b l ((s.clk - b.startClk) / b.div)

/-- What the tuning bank of a line adds, in pF: 0 in a device that is SIDING, FAILED, in reset or OFF (03 R79; 14 R384). -/
def bankPf (s : State) (l : Nat) : Nat := if pinsSet s && !isSiding s && !s.dev.failed then 20 * tuneCode s l else 0

end Sys2Proof.Machine
end

