-- ==== Sys2Proof/Tests/Slice0.lean ====
section
/-!
SUPPORT. Sys2Proof/Tests/Slice0.lean: the model's own tests: an ill-formed term for every check of WellFormed, a state that meets the hypotheses of
each clause of each statement, and the spec's worked numbers.
-/
namespace Sys2Proof.Machine

set_option Elab.async false

/-! ## States for the tests -/

/-- A FIELD device in RUN, 100 ms after power-on, unpaired, with no key. -/
def runState : State :=
  { State.reset with
    clk := 3200000
    dev := { Dev.reset with mode := .run, ready := true, bootPhase := 5, bootTests := 0xFFF, bootMs := 38 }
    nv := { Nv.reset with lifecycle := lcField } }

/-- The host has handed over one descriptor on a ring. -/
def give (r op argc : Nat) (a0 a1 a2 : Word) (buf len : Nat) (s : State) : State :=
  modRing r (fun x => { x with tail := x.take + 1 })
    (winWrite (headOffset s r) (wordsBytes [BitVec.ofNat 32 (0x80000000 + op), BitVec.ofNat 32 argc, BitVec.ofNat 32 buf, BitVec.ofNat 32 len,
      a0, a1, a2, 0]) s)


/-- The state a command leaves. -/
def nextOf (o : Host.Outcome State Fault Refusal) : State :=
  match o with
  | .next t => t
  | _ => State.reset

/-- The descriptor at take of a ring is accepted, as a test. -/
def accepts (s : State) (r op : Nat) (areas : List (Nat × Nat)) : Bool :=
  nextRing s == some r && headOpcode s r == op && headOwn s r && decide ((getRing s r).take < (getRing s r).size) &&
  decide (headOffset s r + 32 ≤ windowBytes) && Mem.wf s.win && (s.dev.failed == false || failedServes r op) &&
  (checkStatus (takeHead r s) (headHeld s r) (headReserved s r) ((opcodeArgs r op).getD 0) areas == none) && (gate s op == none) &&
  ((headHeld s r).argc == (opcodeArgs r op).getD 0)

theorem accepts_iff (s : State) (r op : Nat) (areas : List (Nat × Nat)) : accepts s r op areas = true ↔ Accepted s r op areas := by
  simp [accepts, Accepted, and_assoc]

/-- States whose descriptor at take is accepted: state, ring, opcode. -/
theorem accepted_all {l : List (State × Nat × Nat)} (h : (l.all fun x => accepts x.1 x.2.1 x.2.2 []) = true) :
    ∀ x ∈ l, Accepted x.1 x.2.1 x.2.2 [] := by
  intro x hx
  exact (accepts_iff _ _ _ _).1 (List.all_eq_true.1 h x hx)

theorem acceptedBuf_all {l : List (State × Nat × Nat)}
    (h : (l.all fun x => accepts x.1 x.2.1 x.2.2 [headBuf x.1 x.2.1] && (headHeld x.1 x.2.1).len != 0) = true) :
    ∀ x ∈ l, AcceptedBuf x.1 x.2.1 x.2.2 := by
  intro x hx
  have := List.all_eq_true.1 h x hx
  simp only [Bool.and_eq_true, bne_iff_ne] at this
  exact ⟨(accepts_iff _ _ _ _).1 this.1, this.2⟩

/-- A state that meets EnginesUnawaited, as a test. -/
def unawaited (s : State) : Bool :=
  s.sec.jobs.all (fun j => j.running) && s.sec.slotWrites.isEmpty && decide (sendWaiting s = s) && s.port.held.isEmpty

theorem unawaited_spec {s : State} (h : unawaited s = true) : EnginesUnawaited s := by
  simp only [unawaited, Bool.and_eq_true, List.all_eq_true, List.isEmpty_iff, decide_eq_true_eq] at h
  exact ⟨h.1.1.1, h.1.1.2, h.1.2, by simp [h.2]⟩

/-! ### IdleStepPassesOneClock -/

theorem idle_step_witness : State.reset.pending = [] ∧ timebaseRuns State.reset = false := by decide

/-! ### StepKeepsShape -/

theorem step_shape_witness : WellShaped State.reset ∧ ∃ t, step State.reset = .next t := ⟨by unfold WellShaped MemoriesCanonical; decide +kernel, _, rfl⟩

/-! ### SettleTouchesPortOnly -/

theorem settle_witness : nextRing runState = none ∧ nextRing (give 0 0x1005 3 1 2 3 0 0 runState) = some 0 ∧
    headOwn (give 0 0x1005 3 1 2 3 0 0 runState) 0 = true ∧
    (opcodeArgs 0 (headOpcode (give 0 0x1005 3 1 2 3 0 0 runState) 0)).isSome = true := by decide +kernel

/-! ### PowerOnBoots -/

theorem power_on_witness : { State.reset with dev := { Dev.reset with mode := .off } }.dev.mode = .off ∧
    { State.reset with dev := { Dev.reset with mode := .held } }.dev.mode = .held ∧
    runState.dev.mode ≠ .off ∧ runState.dev.mode ≠ .held ∧ (2900 ≤ 2900 ∨ (1650 ≤ 2900 ∧ 2900 ≤ 2500)) ∧ (1449 < 1450 ∨ (2500 < 1449 ∧ 1449 < 2600)) ∧
    (2501 < 1450 ∨ (2500 < 2501 ∧ 2501 < 2600)) ∧
    (if { State.reset with dev := { Dev.reset with mode := .held } }.dev.vio33 then 2900 else 1650) ≤ 2900 := by decide

/-! ### ResetsRestart -/

theorem resets_witness : supplied runState = true ∧ spiAlive runState = true ∧ boxRuns runState = true := by decide
theorem sys_reset_witness : Accepted (give 0 0x0001 1 0xA55A 0 0 0 0 runState) 0 0x0001 [] ∧
    (headHeld (give 0 0x0001 1 0xA55A 0 0 0 0 runState) 0).a0 = 0xA55A := by unfold Accepted; decide +kernel

/-! ### SupplyLoss -/

theorem supply_witness : runState.dev.mode ≠ .off ∧ supplied runState = true := by decide

/-! ### DeviceFaultsEnterFailed -/

theorem device_fault_witness : UpAndBooted runState ∧ runState.dev.failed = false ∧ isRunning runState = true ∧ runState.dev.nextTest < 9 ∧
    testWaits runState (periodicTests.getD runState.dev.nextTest 0) = false ∧ slotCorrupt runState 0 = false ∧
    slotCorrupt runState 1 = false := by unfold UpAndBooted; decide +kernel
theorem overtemp_witness : 1600 ≤ tHot { runState with dev := { runState.dev with sensors := [50, 320, 50, 50, 50, 50, 50, 50] } } := by decide
theorem bridge_fault_witness : (getLine (modLine 23 (fun l => { l with fault := 5 }) runState) 23).fault = 5 := by decide

/-! ### FaultsThatDoNotFail -/

theorem ecc_corrected_witness : boxRuns runState = true ∧ runState.dev.failed = false ∧ runState.dev.eccEventClk = none ∧
    boxRuns { runState with dev := { runState.dev with failed := true, eccEventClk := some 5 } } = true ∧
    { runState with dev := { runState.dev with eccEventClk := some 5 } }.clk < 5 + 32000000 := by decide
theorem counted_faults_witness : sensorsAgree runState = true ∧ runState.dev.eccEventClk = none ∧ runState.port.held = [] ∧
    runState.port.evtQ = [] ∧ State.reset.dev.mode = .boot := by decide
theorem failed_again_witness : UpAndBooted { runState with dev := { runState.dev with failed := true } } := by unfold UpAndBooted; decide

/-! ### BootReadyOutcome -/

theorem boot_ready_witness : State.reset.dev.mode = .boot ∧ State.reset.dev.failed = false ∧ State.reset.nv.intent = none ∧ earlyFault State.reset = none ∧
    (bootRecord State.reset).trial = false ∧ bankPasses State.reset (bootRecord State.reset).bank = true ∧
    State.reset.nv.updStage ≠ VERIFYING ∧ State.reset.nv.areaA.unmigrated = false ∧ State.reset.nv.areaB.unmigrated = false := by decide +kernel
theorem boot_fault_witness : earlyFault { State.reset with dev := { Dev.reset with bootFault := some (2, 1) } } = some (2, 1) ∧
    { Nv.reset with intent := some 2 }.intent = some 2 ∧ runState.dev.mode ≠ .boot := by decide +kernel

/-! ### RegisterWrites -/

/-- ANGLE0 runs as a quadrature source, synced. -/
def quadState : State := modSrc 0 (fun a => { a with kind := 1, en := true, synced := true, pos := 65536 * 100 }) runState

/-- Channel 0 compares at 1 MHz, channel 15 captures on trigger 8 at 32 MHz. -/
def timerState : State :=
  modTmr 0 (fun t => { t with ctrl := 0b101, cc := 1000, cnt := 5 }) (modTmr 15 (fun t => { t with ctrl := 0x103, cnt := 0xFFFFFFF0, cap := true }) runState)

theorem register_write_witness : HostAwake runState ∧ WellShaped runState ∧ (getSrc runState 4).en = false ∧ (0x0008 : Half).getLsbD 0 = false ∧
    (0x0008 : Half).getLsbD 4 = false ∧ 3 < 4 ∧ 15 < 16 ∧ tmrEn (getTmr timerState 15) = true ∧ HostAwake timerState ∧
    tmrCapture (getTmr timerState 15) = true ∧ (∀ o, o < 4 → (itemsInForce runState o).speedSrc ≠ 5) ∧
    (getSrc quadState 0).en = true ∧ HostAwake quadState := by
  unfold HostAwake WellShaped MemoriesCanonical; decide +kernel

/-! ### UnassignedRegisters -/

theorem unassigned_witness : spiAlive runState = true ∧ 0x1A8 ≤ 0x1A8 ∧ 0x010 < 512 := by decide

/-! ### ClearOnReadRegisters -/

theorem clear_on_read_witness : HostAwake runState ∧ freshCount runState 0x0E2 = 0 ∧ freshCount runState 0x0E7 = 0 ∧ freshCount runState 0x188 = 0 ∧
    freshCount runState 0x1A6 = 0 ∧
    freshCount { runState with port := { runState.port with evtLost := 3 }, fresh := [(0x0E7, 1)] } 0x0E7 = 1 := by unfold HostAwake; decide

/-! ### AsleepRegisterAccess -/

theorem asleep_access_witness : spiAlive State.reset = true ∧ regAsleep State.reset 0x100 = true ∧ regAsleep State.reset 0x040 = true ∧
    regAsleep State.reset 0x17F = true ∧ regAsleep State.reset 0x1A0 = true := by decide

/-! ### WindowAccess -/

/-- A device that holds the descriptor at 0 of RING0, waiting. -/
def holdState : State :=
  { runState with port := { runState.port with held :=
    [{ ring := 0, idx := 0, seq := 7, irq := true, opcode := 0x0202, argc := 1, a0 := 1, a1 := 0, a2 := 0, buf := 0x4000, len := 64,
       areas := [(0x4000, 64)], kind := .post 1, written := 0, taken := 100 }] } }

theorem window_access_witness : nextRing runState = none ∧ Mem.wf runState.win = true ∧ granuleHolder runState (4 * 0xFFFF / 32) = none ∧
    (granuleHolder holdState (4 * 0x1000 / 32)).isSome = true ∧ (granuleHolder holdState 0).isSome = true ∧ HostAwake holdState := by
  unfold HostAwake; decide +kernel

/-! ### FrameAbortDiscardsWord -/

theorem frame_abort_witness : cmdReserved 0x400D = true ∧ cmdReserved 0x4000 = false ∧ cmdReserved 0x00D = false ∧
    cmdRead 0x4000 = false ∧ cmdWin 0x4000 = true ∧ cmdWin 0x00D = false ∧ cmdRead 0xC000 = true ∧ spiAlive runState = true := by decide

/-! ### DoorbellHandsOver -/

theorem doorbell_witness : runState.port.rings.length = 64 ∧ (getRing runState 0).size ≠ 0 ∧ 63 < (getRing runState 0).size ∧
    decide ((getRing runState 0).size - 1 < ((getRing runState 0).tail + 64 - 0) % 64 + (63 + 64 - (getRing runState 0).tail) % 64) = false ∧
    (getRing runState 4).size = 0 := by decide

/-! ### AngleControl -/

theorem angle_control_witness : HostAwake quadState ∧ WellShaped quadState ∧ (getSrc quadState 0).en = true ∧
    (getSrc quadState 4).en = false ∧ (getSrc quadState 0).kind = 1 := by
  unfold HostAwake WellShaped MemoriesCanonical; decide +kernel

/-! ### TimerCommands -/

theorem timer_witness : HostAwake timerState ∧ WellShaped timerState ∧ timebaseRuns timerState = true ∧ tmrEn (getTmr timerState 0) = true ∧
    tmrPrescale (getTmr timerState 0) = 32 ∧ tmrCapture (getTmr timerState 0) = false ∧ (getTmr timerState 0).cc ≠ 0 ∧
    tmrEn (getTmr timerState 15) = true ∧ tmrPrescale (getTmr timerState 15) = 1 ∧ tmrCapture (getTmr timerState 15) = true ∧
    tmrTrig (getTmr timerState 15) = 8 ∧ (getTmr timerState 15).trigClk ≠ some timerState.clk ∧ (getTmr timerState 0).clrDue = false ∧ (getTmr timerState 15).rem < 1 := by
  unfold HostAwake WellShaped MemoriesCanonical; decide +kernel

/-! ### AngleEvents -/

theorem angle_events_witness : WellShaped quadState ∧ timebaseRuns quadState = true ∧ 0 + filterClocks quadState 0 ≤ quadState.clk ∧
    (getSrc quadState 0).en = true ∧ 0 < filterClocks quadState 0 ∧ countsEdge quadState 0 1 false = true ∧ anglePar quadState 0 5 ≠ 0 ∧
    (getSrc (modSrc 0 (fun a => { a with synced := false }) quadState) 0).synced = false ∧
    (getSrc (modSrc 0 (fun a => { a with lastEdge := some 7 }) quadState) 0).lastEdge = some 7 ∧
    7 + clkMs (anglePar quadState 0 5) ≤ { quadState with clk := 32000000 }.clk := by
  unfold WellShaped MemoriesCanonical; decide +kernel

/-! ### EntriesArm -/

/-- ANGLE4 turns 50 times a second and stands at count 0; KEY_POLL service 0 has entries at 0x4000 and every eighth of a turn, on line 0 of
route 0. -/
def svcState : State :=
  let items : List (Nat × Word) := [(svcId 0 0, 1), (svcId 0 4, 0x4000), (svcId 0 7, 400), (svcId 0 9, 0), (routeId 0 24, 1), (routeId 0 0, 0xFFC0),
    (lineId 0 0, 1), (angleId 4 8, 50000)]
  let s := items.foldl (fun s x => setLive x.1 x.2 s) runState
  modSrc 4 (fun a => { a with kind := 4, en := true, synced := true, rate := 50000 })
    (modSched (fun d => { d with svcs := [freshSvc 0] }) { s with dev := { s.dev with elapsedBase := 0 } })

/-- The same, 500 counts before the entry. -/
def armState : State := modSrc 4 (fun a => { a with pos := (0x4000 - 500) * 65536 }) svcState

theorem entries_arm_witness : blocksWork armState = true ∧ armState.dev.mode = .run ∧ findSvc armState 0 = some (freshSvc 0) ∧
    0 < entryCount armState 0 ∧ sourceFires armState 4 = true ∧ svcPar armState 0 3 = 4 ∧
    (predictReach armState 4 (nextAt (counts (getSrc armState 4) + 1) (entryAngle armState 0 0))).any (fun t =>
      decide (t ≤ armState.clk + clkUs (anglePar armState 4 10))) = true ∧
    dueAhead armState (freshSvc 0) (entriesAhead armState 0 0) = true ∧ armState.sched.cands = [] ∧ svcPar armState 0 7 ≠ 0 ∧
    routeMembers armState 0 ≠ 0 ∧ routeState armState 0 = 1 ∧ routeState (modLine 0 (fun l => { l with fault := 1 }) armState) 0 = 2 := by
  decide +kernel

/-! ### LedgerAndAdmission -/

/-- The candidate of its next block, crossing at clock 3,360,000, with challenge 0. -/
def cand0 : Cand := { makeCand svcState 0 0 0x4000 3360000 (freshSvc 0) with rb := 0 }

/-- It is submitted and waits for a decision. -/
def candState : State := modSched (fun d => { d with cands := [cand0] }) svcState

theorem ledger_witness : boxRuns candState = true ∧ candState.nv.chainTarget = false ∧ candState.port.held = [] ∧ candState.dev.sensors.length = 8 ∧
    candState.dev.mode = .run := by decide +kernel

theorem admission_witness :
    let c := cand0
    (candState.sched.cands.find? fun x => x.svc == 0 && !x.final) = some c ∧ candState.clk + 1600 ≤ (renewCand candState c).crossing ∧
    counts (getSrc candState c.src) < c.target ∧ (∀ x ∈ candState.sched.cands, sameCand x c = true → x = c) ∧
    (renewCand candState c).crossing ≤ (renewCand (advanceTo ((renewCand candState c).crossing - 1600) candState) c).crossing ∧
    c.target ≤ counts (getSrc (modSrc 4 (fun a => { a with pos := 0x4000 * 65536 }) candState) c.src) := by decide +kernel

/-! ### CrossingStartsOrDefers -/

/-- The source stands at entry 0, whose candidate has a decision. -/
def crossState (d : Decision) (gone : Bool) : State :=
  let c := { cand0 with crossing := 3200000, decision := d, displaced := gone, final := true }
  modSched (fun x => { x with cands := [c] }) (modSrc 4 (fun a => { a with pos := 0x4000 * 65536 }) svcState)

theorem crossing_witness : svcDue svcState { freshSvc 0 with crossings := 1 } = true ∧ sourceFires (crossState .admitted false) 4 = true ∧
    ((crossState .admitted false).sched.cands.find? fun x => x.svc == 0 && x.opp == 0).any (fun c =>
      decide (c.target ≤ counts (getSrc (crossState .admitted false) 4)) &&
      decide (c.target ≤ crossingOf (freshSvc 0) (getSrc (crossState .admitted false) 4) (entryAngle svcState 0 0))) = true ∧
    (crossState .admitted false).dev.mode = .run ∧
    findBlock (crossState .admitted false) 0 = none ∧ (crossState .admitted false).staged = [] ∧
    routeState (crossState .admitted false) 0 = 1 ∧ linesHeld (crossState .admitted false) &&& routeMembers (crossState .admitted false) 0 = 0 ∧
    aesBusy (crossState .admitted false) < 4 ∧ blocksWork (crossState .refused false) = true := by decide +kernel
theorem late_witness :
    let s := modSrc 4 (fun a => { a with pos := 0x4000 * 65536 }) svcState
    sourceFires s 4 = true ∧ s.sched.cands = [] ∧ svcPar s 0 7 ≠ 0 ∧ routeState s (svcPar s 0 1) = 1 ∧
    crossingOf (freshSvc 0) (getSrc s 4) (entryAngle s 0 0) ≤ counts (getSrc s 4) := by
  decide +kernel

/-! ### DrivenLines -/

/-- The block of service 0 drives line 0; its wake pattern is on the air from cycle 0 on. -/
def blockState : State :=
  modSched (fun d => { d with blocks := [{ freshBlock svcState { cand0 with crossing := 3200000 } with
    frames := [(0, List.replicate 8 true)] }] }) svcState

/-- Its block. -/
def blockOf (s : State) : Block := (findBlock s 0).getD (freshBlock s cand0)

theorem driven_lines_witness : isRunning blockState = true ∧ 0 < blockState.lines.length ∧ drivingBlock blockState 0 = some (blockOf blockState) ∧
    memberDriven (blockOf blockState) 0 20 = true ∧ 16 ≤ drivenCycles (blockOf blockState) 0 20 ∧ 2 ≤ sinceDriveBegan (blockOf blockState) 0 20 ∧ 4 ≤ blockPeak blockState (blockOf blockState) 0 ∧
    faultOf blockState (blockOf blockState) 0 (.bridge 20) = 5 ∧ faultOf blockState (blockOf blockState) 0 (.current 20 0) = 1 ∧
    linePar blockState 0 0 ≠ 0 ∧ linePar (setLive (lineId 0 7) 0 blockState) 0 7 = 0 ∧ firstPost blockState 3 = none := by decide +kernel
theorem tuning_step_witness : stepDue blockState (blockOf blockState) 0 (3200000 / (blockOf blockState).div + 36) = true ∧
    linePar blockState 0 7 = 1 ∧
    linePar blockState 0 8 < (wrap512 (argOf { i := 0, q := 100 } - argOf { i := 100, q := 0 })).natAbs ∧
    0 ≤ (liveParam blockState (lineId 0 5)).toInt + intSign (wrap512 (argOf { i := 0, q := 100 } - argOf { i := 100, q := 0 })) ∧
    (liveParam blockState (lineId 0 5)).toInt + intSign (wrap512 (argOf { i := 0, q := 100 } - argOf { i := 100, q := 0 })) ≤ 63 := by
  decide +kernel
theorem trim_step_witness : (wrap512 (argOf { i := 0, q := 100 } - argOf { i := 0, q := 100 })).natAbs ≤ linePar blockState 0 8 ∧
    linePar blockState 0 9 < (wrap512 (argOf { i := 0, q := 100 } - 8 * weightPhase (routeWeight blockState 0 0))).natAbs ∧
    (liveParam blockState (lineId 0 6)).toInt = 0 := by
  decide +kernel

/-! ### RepliesAndBlockEnd -/

/-- The block waits for the reply to an H_STATUS. -/
def replyState : State := modBlock 0 (fun b => { b with cmd := some (.hStatus 7 false), attempt := 1, span := 9000 }) blockState

theorem reply_window_witness : (findBlock replyState 0).any (fun b => b.cmd == some (.hStatus 7 false) && b.attempt < 3 &&
      b.used + frameCyc (cmdFrame (.hStatus 7 false)) + windowClose (.hStatus 7 false) false + cmdCost (.hStatus 7 false) +
        keptSpan replyState b (.hStatus 7 false) ≤ usable b) = true ∧
    receive replyState (blockOf replyState) (replyLen (.hStatus 7 false)) [] = none ∧ (findBlock blockState 0).any (fun b => b.type == 1 && b.cmd.isNone) = true ∧
    endsBefore blockState (blockOf blockState) = [] ∧ (∀ x ∈ blockState.sched.blocks, x.svc ≠ 0 → x.ended = none) ∧
    blockState.sec.jobs = [] ∧ blockState.sec.slotWrites = [] ∧ blockState.twin.backlog = [] ∧ blockState.port.held = [] ∧ blockState.staged = [] := by decide +kernel

/-! ### SynthesiserGrantCalibration -/

/-- A FOB_ACK for slot 3. -/
def ackReq : TxReq := { kind := FOB_ACK, slot := 3, seq := 0, arg := 9, deadline := 3300000, taken := 3200000, khz := 0, dbm := 0 }
/-- The radio works on a data channel of region 2. -/
def radioState : State :=
  let s := setLive (radioId 1) 915000 (setLive (radioId 0) 2 runState)
  modRadio (fun r => { r with on := true, state := R_RX, locked := true, chan := 915000 }) s
/-- It sends FOB_ACK for slot 3, coexistence on and granted. -/
def txState : State :=
  let s := setLive (radioId 6) 1 radioState
  takeConf (modRadio (fun r => { r with state := R_TX, paOn := true, grant := true, queue := [ackReq] }) s)

theorem synthesiser_witness : radioWorks radioState = true ∧ radioSet radioState = true ∧ hears radioState = true ∧
    prepareEnded radioState = false ∧ radioState.dev.mode = .run ∧ radioState.radio.calRunning = false ∧ radioState.radio.state = 3 ∧
    tempMoved radioState = false ∧ tempMoved (modDev (fun d => { d with sensors := List.replicate 8 200 }) radioState) = true ∧
    sliceMayRun (modRadio (fun r => { r with calRunning := true }) radioState) = true ∧ 0 + 1 < calSlices 0 ∧ calSlices 3 ≤ 0 + 1 ∧
    radioWorks txState = true ∧ coexOn txState = true ∧ txState.radio.grant = true ∧ txState.radio.queue.length = 1 ∧
    txState.radio.locked = true ∧ unawaited txState = true ∧ txState.radio.paOn = true ∧ txState.radio.airClk ≠ txState.clk ∧
    (getKeyNv txState ackReq.slot).state ≠ 3 := by decide +kernel
theorem preamble_commit_witness : hears (modDev (fun d => { d with mode := .commit }) radioState) = true ∧
    radioWorks (modRadio (fun r => { r with state := 5 }) radioState) = true ∧
    heldOff (modRadio (fun r => { r with state := 2, locked := false, queue := [ackReq] }) radioState) ackReq = false := by
  decide +kernel

/-! ### TransmitRequests -/

/-- K_M of 16 zero bytes in slot 4. -/
def kmNv (s : State) : State :=
  modNv (fun n => { n with slots := [(4, keyWrap (slotKek s 4) (leBytes 8 (slotAttr 4 1 0 0 0).toNat ++ List.replicate 16 0))] }) s
/-- A RESYNC for slot 3 is asked for, with and without a mark that covers its counter. -/
def wantState (mark : Word) : State :=
  modKeyNv 3 (fun n => { n with dlMark := mark }) (wantTx RESYNC 3 0 5 3300000 (kmNv radioState))

theorem transmit_requests_witness : (wantState 256).radio.wants.length = 1 ∧
    radioStarts (wantState 0) = true ∧ radioSet (wantState 0) = true ∧ (getKeyNv (wantState 0) 3).dlMark.toNat < (getKey (wantState 0) 3).dlCtr.toNat + 1 ∧
    hasDlWork (wantState 0) 3 = false ∧ (getKey (wantState 256) 3).dlCtr.toNat + 1 ≤ (getKeyNv (wantState 256) 3).dlMark.toNat ∧
    (accessKey (wantState 256) ((wantState 256).clk + 1) "ILK-FOB" (getKeyNv (wantState 256) 3).uid).toOption.isSome = true ∧
    radioSet (setLive (radioId 1) 0 (wantState 0)) = false := by decide +kernel

/-! ### Transmissions -/

/-- The packet waits for its ramp, locked, its slot's key and counter ready; and a poll on the air. -/
def rampState : State :=
  let s := modRadio (fun r => { r with coexReqClk := 0, state := 2 }) (kmNv txState)
  modKeyNv 3 (fun n => { n with state := 1, uid := 5, dlMark := 256 }) s

theorem transmissions_witness : rampState.radio.queue = [ackReq] ∧ radioWorks rampState = true ∧ rampState.radio.locked = true ∧
    granted rampState = true ∧ leadEnd rampState ≤ rampState.clk ∧ tooLate rampState ackReq = false ∧ heldOff rampState ackReq = false ∧
    (getKey rampState 3).dlCtr.toNat < (getKeyNv rampState 3).dlMark.toNat ∧ (devicePacket rampState ackReq 1).toOption.isSome = true ∧
    unawaited rampState = true ∧ txState.radio.paOn = true ∧
    granted (modRadio (fun r => { r with grant := false }) txState) = false ∧
    max txState.clk (min (waitEnd txState ackReq) ackReq.deadline) < ackReq.deadline ∧
    ackReq.deadline ≤ max txState.clk (min (waitEnd txState { ackReq with taken := 3290000 }) ackReq.deadline) := by
  decide +kernel
theorem carrier_witness :
    let s := modRadio (fun r => { r with queue := [{ ackReq with kind := 4, slot := 255 }], cwEnd := some 3360000 }) txState
    s.radio.cwEnd = some 3360000 ∧ s.radio.paOn = true ∧ radioWorks s = true ∧ s.radio.state = 4 := by decide +kernel

/-! ### PacketsFromKeys -/

/-- Key slot 3 ACTIVE for UID 5 with a mark at 255, K_M in slot 4. -/
def fobState : State := modKeyNv 3 (fun n => { n with state := 1, uid := 5, ctrMark := 255 }) (kmNv radioState)
/-- The key derived for UID 5. -/
def fobKey : List Byte := (accessKey fobState (fobState.clk + 1) "ILK-FOB" 5).toOption.getD []
/-- A packet of UID 5 with a counter, under the right key. -/
def fobPacket (type ctr : Nat) (clear data : List Byte) : FobPacket :=
  let c := ccmSeal fobKey ((0x01 : Byte) :: beBytes 8 5 ++ beBytes 4 ctr) (BitVec.ofNat 8 type :: clear) data 4
  { corr := List.replicate 16 none, symbols := 32, sync := 0xC6A9, type := BitVec.ofNat 8 type, clear := clear, payload := c.take data.length,
    mic := c.drop data.length }
/-- FOB_DATA with counter 7 and two bytes. -/
def dataPacket : FobPacket := fobPacket 0x41 7 (beBytes 8 5 ++ beBytes 4 7 ++ [2]) [0xAB, 0xCD]
theorem packets_witness : hearsAny (beginWindows fobState) = true ∧ slotOfUid fobState 5 = some 3 ∧ (getKeyNv fobState 3).state = 1 ∧ highestCtr fobState 3 < 7 ∧
    7 ≤ (getKey fobState 3).ctrLast.toNat + par fobState (lockId 4 2) ∧ 7 ≤ (getKeyNv fobState 3).ctrMark.toNat ∧ ¬(1 ≤ highestCtr fobState 3) ∧
    (getKey fobState 3).resyncClk = none ∧ 0 ≤ highestCtr fobState 3 ∧ fobState.sec.awaiting = [] ∧ ¬(256 ≤ (getKeyNv fobState 3).ctrMark.toNat) := by decide +kernel
theorem packet_mic_witness : openFob fobKey dataPacket 5 7 = some [0xAB, 0xCD] ∧ openFob fobKey { dataPacket with mic := [0, 0, 0, 0] } 5 7 = none ∧
    dataPacket.payload.length = 2 ∧ wellFormed dataPacket 4 13 = true ∧ (dataPacket.clear.getD 12 0).toNat = 2 ∧
    wellFormed (fobPacket 0x11 7 (beBytes 8 5 ++ beBytes 4 7) [0]) 1 12 = true := by decide +kernel

/-! ### RangingAndPolls -/

/-- The key has been polled for a block of one line; its report of age 0 ends now. -/
def polledSeq : ZtSeq :=
  { id := 1, svc := 0, slot := 3, lines := [0], endClk := 3122048, geom := [], startClk := 3000000, angle := 0, revs := 0, div := 256, route := 0,
    polled := true, seed := 0, bursts := [], tauKeyPs := 0, reported := false, port := 0, status := 0 }
def polledState : State :=
  modProx (fun p => { p with seqs := [polledSeq] })
    (modRadio (fun r => { r with queue := [{ ackReq with kind := ZT_POLL, seq := 1 }] }) fobState)
/-- One burst with axes of 500, a delay of 4,096 ps. -/
def reportPacket : FobPacket :=
  fobPacket 0x31 7 (beBytes 4 7 ++ beBytes 2 2048) ([0, 0x10, 0] ++ bytesOfBits (bitsOf 10 500 ++ bitsOf 10 500 ++ bitsOf 10 500 ++ bitsOf 2 0))
/-- Its exchange is in hand, in SYNTH or in RANGE. -/
def exchState (st : Nat) : State :=
  modRadio (fun r => { r with grant := true, state := st, locked := true, queue := [{ ackReq with kind := RANGE, seq := 1 }] }) polledState

theorem report_witness : hears polledState = true ∧ wellFormed reportPacket 3 6 = true ∧
    reportPacket.payload.length = 3 + ceilDiv (30 * reportCount reportPacket.clear) 8 ∧ seqInHand polledState = some polledSeq ∧
    (openFob fobKey reportPacket 5 7).any (fun x => x.length == reportPacket.payload.length) = true ∧
    reportMatches polledState polledSeq 1 0 3200000 = true ∧ reportCount reportPacket.clear = 1 ∧ reportAge reportPacket.clear = 0 ∧
    (getKey polledState 3).range = none ∧ radioSet polledState = true ∧ bandPermitted polledState polledSeq = true ∧
    geomNat polledSeq.geom (proxId 0) ≠ 1 ∧ polledState.sec.awaiting = [] ∧ unawaited polledState = true := by
  decide +kernel
theorem exchange_witness : radioWorks (exchState 2) = true ∧ granted (exchState 2) = true ∧
    heldOff (exchState 2) { ackReq with kind := RANGE, seq := 1 } = false ∧ leadEnd (exchState 2) ≤ ackReq.deadline ∧
    tooLate (exchState 2) { ackReq with kind := RANGE, seq := 1 } = false := by decide +kernel
theorem report_age_witness :
    let s := modRadio (fun r => { r with queue := [] }) polledState
    (s.prox.seqs.find? fun x => x.slot == 3).any (fun q => !q.reported) = true ∧ isRunning s = true ∧ seqInHand s = none ∧ unawaited s = true := by decide +kernel
/-- The window of a KEY_POLL that ends at a clock. -/
def windowOf (t : Nat) : Listen := { svc := 2, startClk := 77, opens := 3000000, closes := t, began := true }
theorem listen_end_witness :
    firstWindow (modRadio (fun r => { r with listen := [windowOf 3300000, windowOf 3200000] }) polledState) = some (windowOf 3200000) := by
  decide +kernel

/-! ### RangingEndMakesFix -/

theorem ranging_end_witness : WellShaped (exchState 5) ∧ radioWorks (exchState 5) = true ∧
    (seqInHand (exchState 5)).any (fun q => decide (q.slot < 32)) = true := by
  unfold WellShaped MemoriesCanonical; decide +kernel

/-! ### SessionsHoldsRequests -/

/-- Slot 3 is ACTIVE and authenticated; ILK1 is RELEASED for it in confirmed hold. -/
def heldLockState (status : Nat) : State :=
  modLock 1 (fun l => { l with state := status, holder := 3, pulseClk := some 3000000, items := { l.items with hold := true, confirmMs := 250 } })
    (modKey 3 (fun k => { k with status := 2, heardClk := some 3100000, authClk := some 3150000 }) fobState)
def waitingState (k : HeldKind) : State :=
  { heldLockState 1 with port := { holdState.port with held := holdState.port.held.map fun h => { h with kind := k } } }

theorem sessions_witness : isRunning (heldLockState 3) = true ∧ WellShaped (heldLockState 3) ∧ keyActive (heldLockState 3) 3 = true ∧
    (getKey (heldLockState 3) 3).status = 2 ∧ laterOf (getKey (heldLockState 3) 3).heardClk (getKey (heldLockState 3) 3).authClk = some 3150000 ∧
    heldConfirmed (heldLockState 3) 1 = true ∧ underWay (heldLockState 3) 2 3 = false ∧
    qualifier (advanceTo (lapseClk (heldLockState 3) 1) (heldLockState 3)) 1
      (getLock (heldLockState 3) 1).items = none ∧
    (getLock (heldLockState 1) 1).state = 1 ∧ (requestsOf (waitingState (.lockRequest 1 0)) 1).length = 1 ∧
    isRunning (waitingState (.enrol 3 1 5)) = true := by
  unfold WellShaped MemoriesCanonical; decide +kernel
theorem other_holder_witness :
    let fix : Fix := { clk := 3200000, zone := 3, verdict := 0, reused := false, words := [] }
    let s := modKey 3 (fun k => { k with fix := some fix, authClk := some 3200000 }) (modKeyNv 3 (fun n => { n with rights := 2 }) (heldLockState 3))
    qualifies { s with clk := 3200000 + 1 } 1 (getLock s 1).items 3 = true ∧ keyRight s 3 1 = true := by decide +kernel

/-! ### EchoSupervision -/

theorem echoes_witness : isRunning (heldLockState 2) = true ∧ WellShaped (heldLockState 2) ∧ (getLock (heldLockState 2) 1).pulseClk = some 3000000 ∧
    (getLock (heldLockState 2) 1).state = 2 ∧ (getLock (heldLockState 3) 1).state = 3 ∧ (getLock (heldLockState 3) 0).state = 0 ∧
    supervises (heldLockState 3) 0 = true ∧ firstPost (heldLockState 3) 3 = none ∧
    boxRuns { runState with dev := { runState.dev with kill := true, failed := true } } = true ∧ runState.twin.notices = 0 := by
  unfold WellShaped MemoriesCanonical; decide +kernel

/-! ### IslandInventory -/

/-- The island hears a field, in a tag state with a handle, with a hitch key of 16 zero bytes. -/
def tagIsland (t : TagState) (h : Nat) : State :=
  modIsl (fun i => { i with field := true, session := true, tag := t, handle := h, reservoirMv := 5000, fieldLevel := 500, keyCell := List.replicate 16 0 })
    runState
/-- A frame of these bits and their CRC, as a base station sends it. -/
def frameOf (x : List Bool) : AirFrame := sentFrame (x ++ bitsOf 16 (crc16 x).toNat)
def carries (f : AirFrame) (x : List Bool) : Bool :=
  !airLost f && (airBits f).any fun b => crcOk b && airFields b == x && b.length == x.length + 16
theorem carries_of {f : AirFrame} {x : List Bool} (h : carries f x = true) : Carries f x := by
  simp only [carries, Bool.and_eq_true, Bool.not_eq_true', Option.any_eq_true, beq_iff_eq] at h
  obtain ⟨a, b, hb, ⟨c, d⟩, e⟩ := h
  exact ⟨a, b, hb, c, d, e⟩

theorem inventory_witness : TagAwake (tagIsland .inventoried 7) ∧ TagAwake (tagIsland .ready 0) ∧
    isActiveTag (tagIsland .ready 0).isl.tag = true ∧ hasHandle (tagIsland .inventoried 7).isl.tag = true ∧
    (tagIsland .inventoried 7).isl.handle = (7 : Half).toNat := by
  refine ⟨⟨?_, ?_, ?_⟩, ⟨?_, ?_, ?_⟩, ?_⟩ <;> decide +kernel
theorem inventory_frames_witness :
    Carries (frameOf (bitsOf 8 0x01 ++ bitsOf 4 1 ++ [true] ++ bitsOf 7 0)) (bitsOf 8 0x01 ++ bitsOf 4 (1 : BitVec 4).toNat ++ [true] ++ bitsOf 7 0) ∧
    Carries (frameOf (bitsOf 8 0x01 ++ bitsOf 4 1 ++ [false] ++ bitsOf 7 63 ++ (uidBits (tagIsland .ready 0)).take 63))
      (bitsOf 8 0x01 ++ bitsOf 4 (1 : BitVec 4).toNat ++ [false] ++ bitsOf 7 (63 : BitVec 7).toNat ++ (uidBits (tagIsland .ready 0)).take (63 : BitVec 7).toNat) ∧
    Carries (frameOf (bitsOf 8 0x03 ++ bitsOf 16 0xFFFF)) (bitsOf 8 0x03 ++ bitsOf 16 (0xFFFF : Half).toNat) ∧
    Carries (frameOf (bitsOf 8 0x04)) (bitsOf 8 0x04) := by
  refine ⟨carries_of ?_, carries_of ?_, carries_of ?_, carries_of ?_⟩ <;> decide +kernel
theorem inventory_assign_witness : (let s := modIsl (fun i => { i with mark := true }) (tagIsland .ready 0)
    Carries (frameOf (bitsOf 8 0x02 ++ [false, true] ++ bitsOf 16 (uidchk (deviceUid s)).toNat ++ bitsOf 16 0xFFFD))
      (bitsOf 8 0x02 ++ [false, true] ++ bitsOf 16 (uidchk (deviceUid s)).toNat ++ bitsOf 16 (0xFFFD : Half).toNat)) ∧
    airLost { runs := [(40, 1000), (65, 249), (8, 501)] } = true ∧ airLost { runs := [(40, 1000), (65, 250), (8, 501)] } = false ∧
    (airBits (sentFrame (bitsOf 24 0))).any (fun b => crcOk b == false) = true := by
  refine ⟨carries_of ?_, ?_, ?_⟩ <;> decide +kernel

/-! ### IslandMemoryCommands -/

def pageIsland (t : TagState) : State := modIsl (fun i => { i with authFrom := 20, ks := List.replicate 16 0 }) (tagIsland t 7)
theorem island_memory_witness : isProtected (pageIsland .inventoried) 80 = true ∧
    isProtected (pageIsland .inventoried) 79 = false ∧ isProtected (tagIsland .inventoried 7) 255 = false ∧
    min 8000 2600 < par (tagIsland .inventoried 7) (hitchId 3) ∧ par (tagIsland .inventoried 7) (hitchId 3) ≤ min 8000 5000 ∧
    secureReady (pageIsland .authenticated) = true ∧ secureReady (pageIsland .inventoried) = false ∧ hasVbat (pageIsland .inventoried) = true ∧
    hasHandle (tagIsland .authenticated 7).isl.tag = true ∧ isRunning (tagIsland .authenticated 7) = true ∧
    TagAwake (pageIsland .authenticated) ∧ (chainOp .hitch 3 [] (tagSilent (pageIsland .authenticated))).isSome = true := by
  refine ⟨?_, ?_, ?_, ?_, ?_, ?_, ?_, ?_, ?_, ?_, ⟨?_, ?_, ?_⟩, ?_⟩ <;> decide +kernel
/-- A protected READ, a secure WRITE and a chain STATUS under the expected counter; a plain WRITE and READ. -/
theorem island_frames_witness :
    (let s := pageIsland .authenticated
     let plain := bitsOf 8 0x11 ++ bitsOf 16 7 ++ bitsOf 16 80 ++ wordBits 5
     let req := bitsOf 8 0x31 ++ bitsOf 16 7 ++ bitsOf 8 3 ++ bitsOf 8 0
     carries (frameOf (bitsOf 8 0x10 ++ bitsOf 16 7 ++ bitsOf 16 504 ++ bitsOf 8 8)) (bitsOf 8 0x10 ++ bitsOf 16 7 ++ bitsOf 16 504 ++ bitsOf 8 8) = true ∧
     carries (frameOf plain) plain = true ∧
     carries (frameOf (plain ++ wordBits (macAt s 0 (bytesOfBits plain)))) (plain ++ wordBits (macAt s 0 (bytesOfBits plain))) = true ∧
     carries (frameOf (req ++ wordBits (macAt s 0 (bytesOfBits req)))) (req ++ wordBits (macAt s 0 (bytesOfBits req))) = true ∧
     carries (frameOf (bitsOf 8 0x30 ++ bitsOf 16 7)) (bitsOf 8 0x30 ++ bitsOf 16 7) = true) := by decide +kernel

/-! ### IslandAuthentication -/

theorem island_auth_witness : takesChallenge (tagIsland .inventoried 7) = true ∧ isActiveTag (tagIsland .inventoried 7).isl.tag = true ∧
    tagHears (tagIsland .authWait 7) = true ∧ (tagIsland .authWait 7).isl.tag = .authWait ∧ (0 : Half) ≠ uidchk (deviceUid (tagIsland .inventoried 7)) ∧
    takesChallenge (modIsl (fun i => { i with rejects := 3 }) (tagIsland .inventoried 7)) = false := by decide +kernel
theorem auth_frames_witness :
    (let s := tagIsland .authWait 7
     let u := uidchk (deviceUid s)
     let bp := proofBp s.isl.keyCell s.isl.rb s.isl.rt (deviceUid s)
     carries (frameOf (bitsOf 8 0x20 ++ bitsOf 16 7 ++ wordBits 9)) (bitsOf 8 0x20 ++ bitsOf 16 7 ++ wordBits 9) = true ∧
     carries (frameOf (bitsOf 8 0x21 ++ bitsOf 16 u.toNat ++ wordBits 9)) (bitsOf 8 0x21 ++ bitsOf 16 u.toNat ++ wordBits 9) = true ∧
     carries (frameOf (bitsOf 8 0x22 ++ [true] ++ wordBits bp)) (bitsOf 8 0x22 ++ [true] ++ wordBits bp) = true ∧ bp ≠ 0) := by decide +kernel

/-! ### IslandFieldAndSupply -/

/-- An island in OFF in a field, a staged block to apply. -/
def quietIsland (staged : List StagedBlk) : State :=
  modIsl (fun i => { i with field := true, staged := staged, applying := !staged.isEmpty }) runState
def asleepState : State :=
  modIsl (fun i => { i with field := true })
    { runState with dev := { runState.dev with mode := .stabled, ready := false }, pwr := { runState.pwr with target := 2 } }
def hostBlk (blk : Nat) : StagedBlk := { blk := blk, data := 7, seq := 1, ring := 0, idx := 0 }

theorem island_field_witness : (quietIsland []).isl.powered = true ∧ par (quietIsland []) (hitchId 0) = 1 ∧ (quietIsland []).isl.rolling = false ∧
    sleepItem (quietIsland []) 8 = 0 ∧ (quietIsland []).isl.tag = .off ∧
    (modIsl (shadowWrite 100 7) runState).isl.flag.isSome = true ∧ (quietIsland [hostBlk 511]).isl.applying = true ∧
    isRunning (quietIsland []) = true ∧ par asleepState (hitchId 1) = 0xA5 ∧ asleepState.pwr.wakeEn.getLsbD 2 = true ∧ committing asleepState = false ∧
    airBits (sentFrame (bitsOf 8 0xA5)) = some (bitsOf 8 (0xA5 : Byte).toNat) ∧ asleepState.isl.powered = true ∧
    (modIsl (fun i => { shadowWrite 100 7 i with writing := [hostBlk 3, hostBlk 4] }) runState).isl.writing.length = 2 ∧
    (modIsl (fun i => { i with enrolWait := some (0, 0, List.replicate 16 1) }) (tagIsland .ready 0)).isl.field = true := by
  decide +kernel
theorem wake_pattern_witness : airLost { runs := [(40, 1000), (65, 0)] } = true ∧ airBits { runs := [(40, 1000), (3, 0), (9, 1000)] } = none ∧
    sleepItem asleepState 8 = 0 ∧ airLost (sentFrame (bitsOf 8 0xA5)) = false := by decide +kernel

/-! ### ChainTargetAndTimers -/

/-- A chain target that takes images, and one on trial. -/
def chainState (stage : Nat) : State :=
  modNv (fun n => { n with chainOpen := true, updStage := stage }) (setLive (updId 1) 1 (setLive (updId 0) 30 runState))

theorem chain_witness : chainListens .hitch (chainState 0) = true ∧ offerDecision (chainState 0) (List.replicate 32 1) ≠ 0 ∧
    wantsData (chainState 0) = true ∧ nextOffset (chainState 0) = leNat [0, 0, 0, 0] ∧ 1 < unitLength (chainState 0) [0x44] ∧
    wantsData (chainState 5) = false ∧ isRunning (chainState 5) = true ∧ par (chainState 5) (updId 0) ≠ 0 ∧
    nonceLeft (chainState 5) = true ∧ nonceLeft (modSec (fun x => { x with nonceCtr := 2 ^ 64 - 1 }) (chainState 5)) = false := by decide +kernel
theorem chain_accept_witness :
    offerDecision (chainState 0) ([1, 2, 3, 4, 5, 6, 7, 8] ++ [2, 4, 0, 0] ++ [0, 0, 0, 0] ++ [0, 0] ++ [1, 0] ++ [0, 0x10, 0, 0] ++ List.replicate 8 0) = 0 := by
  decide +kernel

/-! ### TwinFrames -/

/-- A paired device with a link, in this role, that has accepted frame 7 of its twin's boot 3; slot 3 holds a pair key. -/
def linkedState (role : Nat) : State :=
  modTwin (fun t => { t with
      role := role, linkUp := true, mirrored := true, hbSeen := true, hbClk := 3199000, frameClk := 3199000
      myNonce := List.replicate 16 1, peerNonce := List.replicate 16 2, echoed := true, rxAny := true, rxBoot := 3, rxCtr := 7, mirrorOpen := false })
    (modNv (fun n => { n with
      pair := some { peerUid := 9, epoch := 1, twinHash := [] }
      slots := [(3, keyWrap (slotKek runState 3) (leBytes 8 (slotAttr 3 2 9 3 0).toNat ++ List.replicate 32 7))] }) runState)
/-- A frame of a type with no payload, boot 3 and a counter, sealed by the twin. -/
def hdr (type ctr : Nat) : FrameHdr :=
  let h : FrameHdr := { boot := 3, ctr := ctr, payload := [], tag := [] }
  let s := linkedState 1
  { h with tag := ccmSeal ((twinSessionKey s s.twin.peerNonce).getD []) (leBytes 4 3 ++ leBytes 8 ctr ++ [0x20]) (frameHead type 0 3 ctr) [] 8 }

/-- The frames that the statements take, tested once: types 2 to 10, of both roles' links. -/
theorem twin_authentic_witness : ∀ t ∈ [2, 3, 4, 5, 6, 7, 8, 9, 10], ∀ r ∈ [1, 2], authentic (linkedState r) t (hdr t 8) = true := by decide +kernel
theorem twin_frames_witness : ∀ r ∈ [1, 2], twinWorks (linkedState r) = true ∧ exchanges (linkedState r) = true ∧
    frameNewer (linkedState r) (hdr 2 8) = true ∧ frameNewer (linkedState r) (hdr 2 7) = false ∧ authentic (linkedState r) 2 (hdr 2 7) = true ∧
    authentic (linkedState r) 2 (hdr 3 8) = false ∧ (linkedState r).dev.failed = false ∧
    (linkedState r).twin.withheld = [] ∧ (linkedState r).sec.awaiting = [] ∧ (linkedState r).twin.resyncSeq = none ∧
    (linkedState r).sec.jobs = [] ∧ (linkedState r).port.held = [] ∧ nonceLeft (linkedState r) = true ∧
    (getLock (linkedState r) 3).state = LOCKED ∧ boxRuns (linkedState r) = true := by decide +kernel
theorem takes_frame_witness (r : Nat) (hr : r ∈ [1, 2]) (t : Nat) (ht : t ∈ [2, 3, 4, 5, 6, 7, 8, 9, 10]) : TakesFrame (linkedState r) t (hdr t 8) := by
  obtain ⟨a, b, c, -, -, -, d, -⟩ := twin_frames_witness r hr
  have c' : frameNewer (linkedState r) (hdr t 8) = true := by rw [frameNewer] at c ⊢; exact c
  exact ⟨a, b, twin_authentic_witness t ht r hr, c', d⟩

/-! ### TwinMirroring -/

/-- ILK1 of an ACTIVE in NOTIFY, with a qualifying key where asked. -/
def notifyState (fixed : Bool) : State :=
  let fix : Fix := { clk := 3199000, zone := 3, verdict := 0, reused := false, words := [] }
  let s := modKeyNv 3 (fun n => { n with rights := 2 }) (modKey 3 (fun k => { k with fix := if fixed then some fix else none }) (heldLockState 1))
  let s := setLive (lockId 1 0) 1 (setLive (lockId 1 1) 7 (setLive (lockId 1 2) 0 { s with twin := (linkedState 1).twin }))
  modNv (fun n => { n with slots := (linkedState 1).nv.slots }) s

theorem notify_ack_witness : releaseConditions (frameTaken (hdr 5 8) (notifyState true)) 1 (getLock (notifyState true) 1).items = true ∧
    releaseConditions (frameTaken (hdr 5 8) (notifyState false)) 1 (getLock (notifyState false) 1).items = false ∧
    (getLock (notifyState true) 1).state = NOTIFY ∧ (notifyState true).dev.mode = .run ∧ (notifyState true).locks.length = 4 ∧
    twinWorks (notifyState true) = true ∧ exchanges (notifyState true) = true ∧ authentic (notifyState true) 5 (hdr 5 8) = true ∧
    frameNewer (notifyState true) (hdr 5 8) = true ∧ (notifyState true).dev.failed = false ∧ (notifyState true).sec.jobs = [] ∧
    (notifyState true).port.held = [] := by decide +kernel
theorem mirroring_witness : (linkedState 2).twin.pairStep = 0 ∧ (linkedState 2).twin.mirrorOpen = false ∧ (linkedState 2).twin.appliedSeq = 0 ∧
    (linkedState 2).twin.linkUp = true ∧ (linkedState 2).dev.mode = .run ∧
    ((applyRecs [.busAddr 0x80] (frameTaken (hdr 3 8) (linkedState 2))).port.held.any fun x => x.kind == .resyncPassed) = false := by decide +kernel

/-! ### TwinLinkAndRoles -/

def decidingState : State := modTwin (fun t => { t with role := 2, deciding := true, linkUp := false }) (linkedState 2)
/-- A HELLO of the twin with this nonce and echo, role 1 and last role 1. -/
def helloHdr (nonce echo : List Byte) (ctr : Nat) : FrameHdr :=
  let h : FrameHdr := { boot := 3, ctr := ctr, payload := nonce ++ echo, tag := [] }
  let c := ccmSeal ((twinSessionKey (linkedState 1) nonce).getD []) (leBytes 4 3 ++ leBytes 8 ctr ++ [0x20]) (frameHead 0x01 32 3 ctr ++ nonce) echo 8
  { h with payload := nonce ++ c.take 16, tag := c.drop 16 }

theorem hello_witness : ∀ n ∈ [2, 7], (frameOpen (linkedState 2) 0x01 16 ((helloHdr (List.replicate 16 n) (List.replicate 16 1) 8).payload.take 16)
    (helloHdr (List.replicate 16 n) (List.replicate 16 1) 8)).any (fun r => r == (linkedState 2).twin.myNonce) = true := by decide +kernel
theorem link_witness : exchanges (linkedState 2) = true ∧ (linkedState 2).twin.pairing = none ∧ (linkedState 2).twin.myNonce ≠ [] ∧
    List.replicate 16 (7 : Byte) ≠ (linkedState 2).twin.peerNonce ∧ (linkedState 2).twin.linkUp = true ∧
    frameOpen (linkedState 2) 0x01 16 [] (hdr 2 8) = none ∧ (linkedState 2).sec.nonceCtr + 1 < 2 ^ 64 - 1 ∧
    decidingState.twin.linkUp = false ∧ decidingState.twin.deciding = true ∧ isRunning decidingState = true ∧ twinStands decidingState = true ∧
    twinStands (modTwin (fun t => { t with hbSeen := false }) decidingState) = false ∧
    (modTwin (fun t => { t with hbSeen := false }) (linkedState 1)).twin.resyncDue = false ∧ readSlot (linkedState 2) 3 ≠ .corrupt ∧
    (linkedState 1).sec.jobs = [] := by decide +kernel
theorem corrupt_pair_key_witness : readSlot (modNv (fun n => { n with slots := [(3, [1])] }) (linkedState 2)) 3 = .corrupt := by decide +kernel
theorem two_active_witness :
    let s := modNv (fun n => { n with otp := Mem.write n.otp 0x47 200 }) (modTwin (fun t => { t with linkUp := false }) (linkedState 1))
    s.twin.role = 1 ∧ s.twin.linkUp = false ∧ peerUid s < deviceUid s ∧ deviceUid (linkedState 1) < peerUid (linkedState 1) := by decide +kernel

/-! ### TakeoverAndTwinFaults -/

theorem takeover_witness : TakesFrame (linkedState 1) 0x08 (hdr 8 8) ∧ TakesFrame (linkedState 2) 0x08 (hdr 8 8) ∧ TakesFrame (linkedState 2) 0x09 (hdr 9 8) :=
  ⟨takes_frame_witness 1 (by decide) 8 (by decide), takes_frame_witness 2 (by decide) 8 (by decide), takes_frame_witness 2 (by decide) 9 (by decide)⟩
theorem takeover_states_witness : (linkedState 2).twin.takeoverCause = none ∧
    (linkedState 2).twin.mirrored = true ∧ (linkedState 2).twin.deciding = false ∧ (linkedState 1).twin.twinFailed = false ∧
    (modTwin (fun t => { t with mirrored := false }) (linkedState 2)).twin.mirrored = false ∧ (linkedState 2).twin.sleepStands = false ∧
    (linkedState 2).twin.frameClk + hbTimeout (linkedState 2) ≤ max (linkedState 2).clk ((linkedState 2).twin.hbClk + hbTimeout (linkedState 2)) ∧
    isRunning (modTwin (fun t => { t with takeoverCause := some 1, takeoverClk := 3100000, echoClk := 3100000 }) (linkedState 2)) = true := by
  decide +kernel

/-! ### TwinPairingFrames -/

/-- A ceremony at this step, taking this role, on a device with a key in slot 0. -/
def ceremonyState (role step : Nat) : State :=
  modTwin (fun t => { t with role := 0, pairing := some role, pairStep := step, pairClk := 3000000, ephemeral := 5, peerUid := 9,
                             challenge := List.replicate 32 3, peerKey := ecPublic 2, backlog := [(0, [])] })
    (modNv (fun n => { n with
      slots := n.slots ++ [(0, keyWrap (slotKek runState 0) (leBytes 8 (slotAttr 0 3 16 0 0).toNat ++ beBytes 48 7))] }) (linkedState 0))
def goodHello : PairHelloMsg :=
  let s := ceremonyState 1 1
  { role := 2, uid := 9, oemRoot := oemHash s, release := hdrRelease (runBank s).blob, secver := secver s
    challenge := List.replicate 32 4, chain := [0x30, 0], chainOk := true, devId := ecPublic 2 }
/-- PAIR_KEY of a twin whose DEV_ID is the private key 2 and whose ephemeral key is 6. -/
def goodPairKey : PairKeyMsg :=
  let s := ceremonyState 1 2
  let body := leBytes 2 1 ++ leBytes 2 0x0110 ++ beBytes 8 9 ++ leBytes 2 0xB0 ++ leBytes 2 (hdrRelease (runBank s).blob) ++ leBytes 4 (secver s) ++
    [BitVec.ofNat 8 s.nv.lifecycle, 0, BitVec.ofNat 8 (debugOpen s).toNat, 0] ++ zeros 120 ++ s.twin.challenge
  let e := ecPublic 6
  { ephemeral := e, report := body ++ ecdsaSign 2 11 (sha384 body), sig := ecdsaSign 2 13 (pairKeyDigest 9 s.twin.challenge e) }

theorem ceremony_witness : isRunning (ceremonyState 1 1) = true ∧ helloRefused goodHello (ceremonyState 1 1) = none ∧
    (match readSlot (ceremonyState 1 1) 0 with
     | .key _ k => k.length
     | _ => 0) = 48 ∧ counterLive (ceremonyState 1 1) 1 ≠ 0xFFFFFFFF ∧
    helloRefused { goodHello with role := 1 } (ceremonyState 1 1) = some ST_TWIN_MISMATCH ∧
    (ceremonyState 1 5).twin.resyncDue = false ∧ (ceremonyState 1 5).twin.overflowed = false ∧
    [] ≠ confirmMac (ceremonyState 1 3) ∧ ([] : List Byte).length ≠ 2 ∧ counterLive (ceremonyState 1 2) 2 ≠ 0xFFFFFFFF ∧
    (readSlot (ceremonyState 1 3) 3 ≠ .corrupt) ∧ (linkedState 0).nv.pair.isSome = true ∧ runState.twin.pairing = none ∧ slotConflict (ceremonyState 2 4) [] = false ∧
    slotConflict (ceremonyState 2 4) [.slot 0 [1]] = true := by decide +kernel
theorem pair_key_witness : keyRefused goodPairKey (ceremonyState 1 2) = none ∧
    (ecdh (ceremonyState 1 2).twin.ephemeral goodPairKey.ephemeral).isSome = true ∧
    keyRefused { goodPairKey with sig := [] } (ceremonyState 1 2) = some ST_TWIN_ATTEST := by decide +kernel
theorem snapshot_frame_witness : TakesFrame (ceremonyState 2 4) 0x03 (hdr 3 8) := by unfold TakesFrame; decide +kernel

/-! ### SleepRefused -/

/-- PWR_SLEEP has been taken from RING0 and is held, in this mode. -/
def sleepState (mode : Mode) (target : Nat) : State :=
  let s := nextOf (exec (.pwrSleep 0) (give 0 0x0F01 1 (BitVec.ofNat 32 target) 0 0 0 0 runState))
  { s with dev := { s.dev with mode := mode } }

theorem sleep_refused_witness : (∀ m ∈ [Mode.prepare, .commit], let s := sleepState m 2
      (s.port.held.filter fun x => x.kind == .sleepEntry).length = 1 ∧ Mem.wf s.win = true ∧ firstPost s 3 = none ∧
      (∀ x ∈ s.port.held, (getRing s x.ring).base + 32 * x.idx + 32 ≤ windowBytes ∧ x.kind = .sleepEntry) ∧ s.sec.jobs = [] ∧ sendWaiting s = s ∧ (s.port.rings.all fun r => !ringWaits r) = true) ∧
    prepareRefuser (sleepState .prepare 2) = none ∧ twinStands (sleepState .prepare 2) = false ∧
    prepareRefuser (modMnt (fun m => { m with running := 1 }) (sleepState .prepare 2)) = some 8 ∧
    awaitsSleepAck (modTwin (fun t => { t with sleepSentClk := some 3100000 }) (sleepState .commit 2)) = true := by decide +kernel

/-! ### SleepEntryAndWake -/

theorem sleep_wake_witness : (sleepState .prepare 1).pwr.busFrameSeen = false ∧ (sleepState .prepare 1).pwr.noticeSeen = false ∧
    (sleepState .prepare 1).pwr.latched = 0 ∧ twinStands { sleepState .prepare 1 with twin := (linkedState 2).twin } = true ∧
    prepareRefuser { sleepState .prepare 1 with twin := (linkedState 2).twin } = none ∧
    wakeEnabled asleepState 2 = true ∧ wakeSource asleepState (.hitchCode 0xA5) = some 2 ∧ wakeSource asleepState (.hitchCode 1) = none ∧
    wakeSource asleepState .spi = some 0 ∧ asleepState.clk ≠ asleepState.pwr.asleepClk ∧
    (sleepState .waking 2).pwr.wokeClk ≠ (sleepState .waking 2).clk ∧ (sleepState .waking 2).pwr.wakeStep = 0 ∧
    (sleepState .waking 2).mnt.queue = [] ∧ wakeEnabled (modPwr (fun p => { p with wakeEn := 16, wakeTmr := 9 }) asleepState) 4 = true ∧
    (sleepState .waking 2).clk ≤ (sleepState .waking 2).pwr.asleepClk + clkMs 200 := by decide +kernel
theorem sleep_ack_witness :
    let s := { sleepState .commit 1 with twin := { (linkedState 1).twin with sleepSentClk := some 3200000 }, nv := (linkedState 1).nv }
    TakesFrame s 0x07 (hdr 7 8) ∧ awaitsSleepAck s = true := by unfold TakesFrame; decide +kernel

/-! ### BusReception -/

/-- A bus node of this NAME that has claimed address 128. -/
def busState (name : Dword) : State :=
  modBus (fun b => { b with state := 2, addr := 128, sessionName := some name, seen := [] }) runState
/-- A single frame of 29 bits. -/
def frame (pgn dest src : Nat) (data : List Byte) : CanFrame := { id := canId 6 pgn dest src, ext := true, fd := false, data := data }

theorem bus_witness : busHears (busState 9) = true ∧ busMode (busState 9) = 0 ∧ busTalks (busState 9) = true ∧
    busMode (setLive (busId 0) 1 (busState 9)) = 1 ∧ framePgn (frame PGN_REQUEST 255 5 [0, 0xEE, 0]) = PGN_REQUEST ∧
    leNat [(0 : Byte), 0xEE, 0] = PGN_CLAIM ∧ forMe (frame PGN_REQUEST 128 5 [0, 0xEE, 1]) (busState 9) = true ∧
    rxPgn (busState 9) (leNat [(0 : Byte), 0xEE, 1]) = false ∧ rxPgn (busState 9) PGN_REQUEST = false ∧ rxPgn (busState 9) PGN_CLAIM = false ∧
    rxPgn (setLive (busId 6) PGN_REQUEST (busState 9)) PGN_REQUEST = true ∧ rxPgn (setLive (busId 6) PGN_CLAIM (busState 9)) PGN_CLAIM = true ∧
    rxPgn (setLive (busId 6) 65265 (busState 9)) 65265 = true ∧ framePgn (frame 65265 255 5 []) = 65265 ∧ knownPgn 65265 = false ∧
    toMe (frame PGN_PROP_A 128 5 [1, 2]) (busState 9) = true ∧ framePgn (frame PGN_PROP_A 128 5 [1, 2]) = PGN_PROP_A ∧
    par (busState 9) (busId 5) = 1 ∧ par (setLive (busId 5) 0 (busState 9)) (busId 5) = 0 := by decide +kernel
theorem bus_claim_witness : framePgn (frame PGN_CLAIM 255 128 (leBytes 8 4)) = PGN_CLAIM ∧ frameSrc (frame PGN_CLAIM 255 128 (leBytes 8 4)) = 128 ∧
    leNat (leBytes 8 4) < (busName (busState 9)).toNat ∧ (busName (busState 9)).getLsbD 63 = false ∧
    (busName (busState 0x8000000000000009)).getLsbD 63 = true ∧ (busName (busState 9)).toNat ≤ leNat (leBytes 8 10) ∧
    par (setLive (busId 4) 1 (busState 9)) (busId 4) = 1 := by decide +kernel
theorem bus_transport_witness : framePgn (frame PGN_TP_CM 128 5 [16, 20, 0, 3, 255, 0xF1, 0xFE, 0]) = PGN_TP_CM ∧
    tpPackets 20 = 3 ∧ 20 ≤ rxLimit (busState 9) 65265 true ∧ rxLimit (busState 9) 65265 true < 1100 ∧ tpPackets 1100 = 158 ∧
    (txSess (modBus (fun b => { b with sess := [{ freshRx (busState 9) false false 5 65265 6 20 255 with send := true, stage := 2, ref := some (0, 3) }] })
      (busState 9)) false 5 65265).isSome = true := by decide +kernel

/-! ### BusTimersAndErrors -/

/-- A node with one session, and one frame to send. -/
def sessState (send bam : Bool) (stage next : Nat) : State :=
  modBus (fun b => { b with
      tx := [{ frame := frame 65265 255 128 [1], ref := some (0, 3), last := true }]
      sess := [{ freshRx (busState 9) false bam 5 65265 6 20 255 with send := send, stage := stage, next := next, ref := some (0, 3) }] }) (busState 9)

theorem bus_timers_witness : isRunning (sessState true true 4 1) = true ∧ busTalks (sessState true true 4 1) = true ∧
    (sessState true true 4 1).bus.off = false ∧ ((sessState true true 4 1).bus.sess.find? fun y => y.stage == 4).isSome = true ∧
    1 < tpPackets 20 ∧ tpPackets 20 ≤ 3 ∧ ((sessState true true 4 1).bus.tx.all (sendable (sessState true true 4 1))) = true ∧
    busName (busState 9) ≠ 0 ∧ (sessState true false 0 1).twin.role ≠ 2 ∧ par (busState 9) (busId 3) ≠ 254 := by decide +kernel
theorem bus_send_completes_witness :
    let s := { holdState with bus := (sessState true true 4 1).bus }
    (s.port.held.all fun h => (getRing s h.ring).base + 32 * h.idx + 32 ≤ windowBytes) = true ∧ s.port.held.length = 1 ∧ Mem.wf s.win = true := by
  decide +kernel

/-! ### MaintenanceTimeAndJobs -/

/-- A job runs for the descriptor held. -/
def jobState (opcode parts : Nat) : State :=
  let j : Job := { id := 4, pk := true, running := true, parts := parts, slot := 255, ring := 0, idx := 0, key := [], opcode := opcode,
                   past := 0, nonce := [], serial := none, ctx := [], unit := none }
  let s := modPort (fun p => { p with held := p.held.map fun h => { h with kind := .job 4, a0 := 0x8000 } }) holdState
  modSec (fun x => { x with jobs := [j], flash := [.counter 20 300 0 0] }) s

theorem maintenance_witness : isRunning runState = true ∧ patrolCause (advanceToElapsed (runState.mnt.checkS + 3600) runState) = none ∧
    runState.mnt.running = 0 ∧ runState.mnt.queue = [] ∧ runState.twin.role = 0 ∧ runState.mnt.sweepLeft = [] ∧ runState.sched.blocks = [] ∧
    State.reset.nv.lifecycle = lcBlank ∧ Mem.wf State.reset.nv.otp = true := by decide +kernel
theorem patrol_due_witness :
    let s := { runState with dev := { runState.dev with elapsedBase := 86400 * 183 }, mnt := { runState.mnt with checkS := 86400 * 183 } }
    let late := advanceToElapsed (s.mnt.checkS + 3600) s
    patrolCause late = some 1 ∧ patrolOverdue late = false := by decide +kernel
theorem jobs_witness : (jobState 0x0B0F 1).port.held.length = 1 ∧ (∀ h ∈ (jobState 0x0B0F 1).port.held, HeldAt (jobState 0x0B0F 1) h ∧ h.ring = 0 ∧ h.idx = 0 ∧
      (getRing (jobState 0x0B0F 1) h.ring).base + 32 * h.idx + 32 ≤ h.a0.toNat) ∧ (counterMark (jobState 0x0B0F 1) 20 ≤ (300 : Word)) = true ∧
    markFor 300 ≠ 0 := by unfold HeldAt; decide +kernel
/-- The first of two parts of a CMAC under a key of 32 bytes. -/
theorem job_part_witness :
    let s := { jobState 0x0B0C 2 with sec := { (jobState 0x0B0C 2).sec with ek := List.replicate 32 9 } }
    (s.sec.jobs.all fun j =>
      let t := savePart { j with key := List.replicate 32 5 } s
      jobMayRun t j.pk && (((findJob t j.id).map fun x => restoreJob t x s.sec.saveSerial).bind Except.toOption) == some (List.replicate 32 5)) = true := by
  decide +kernel
/-- A BLANK device in the factory, with the hash of Brixqua's root key burnt: here the key of private key 2. -/
def factoryState : State :=
  modNv (fun n => { n with lifecycle := lcBlank, otp := Mem.writeBytes n.otp 0x80 (sha384 (ecPublic 2)) }) runState
theorem provisioning_witness :
    signedByRoot (brixquaHash factoryState) (provisioningDigest [0x30, 0] (List.replicate 32 1)) (ecdsaSign 2 11 (provisioningDigest [0x30, 0] (List.replicate 32 1))) = true ∧
    Mem.wf factoryState.nv.otp = true ∧ isRunning factoryState = true ∧ otpRead factoryState 0x60 32 = zeros 32 := by decide +kernel

/-! ### SystemAndParameterCommands -/

/-- A descriptor of these words and buffer bytes given on a ring of the run state, on a state of choice. -/
def giveBuf (r op argc : Nat) (a0 a1 a2 : Word) (bs : List Byte) (s : State) : State :=
  give r op argc a0 a1 a2 0x8000 bs.length (winWrite 0x8000 bs s)

theorem xpm_bus_witness : ∀ x ∈ [(giveBuf 0 2 2 64 2 0 (zeros 8) runState, 0, 0x0002), (giveBuf 0 3 2 64 2 0 (zeros 8) runState, 0, 0x0003),
      (giveBuf 0 3 2 64 2 0 (zeros 8) (tagIsland .ready 0), 0, 0x0003), (giveBuf 0 4 2 65265 255 0 (zeros 8) (busState 9), 0, 0x0004),
      (giveBuf 0 4 2 65265 255 0 (zeros 9) (busState 9), 0, 0x0004),
      (giveBuf 0 3 2 64 1 0 (zeros 8) runState, 0, 0x0003), (giveBuf 0 4 2 0x80000000 1 0 (zeros 12) (setLive (busId 0) 2 runState), 0, 0x0004), (giveBuf 0 4 2 65265 255 0 (zeros 8) runState, 0, 0x0004)],
    AcceptedBuf x.1 x.2.1 x.2.2 := acceptedBuf_all (by decide +kernel)
theorem xpm_conditions_witness : (tagIsland .ready 0).isl.session = true ∧ runState.isl.session = false ∧ committing runState = false ∧
    hostMayWrite 64 = true ∧ hostMayWrite 65 = true ∧ runState.bus.addr = 254 ∧ busTalks (busState 9) = true ∧
    busMode (setLive (busId 0) 1 runState) = 1 := by decide +kernel
theorem param_witness : ∀ x ∈ [(give 0 0x0101 1 (BitVec.ofNat 32 (lockId 1 5)) 0 0 0 0 runState, 0, 0x0101),
      (give 0 0x0102 2 (BitVec.ofNat 32 (lockId 1 5)) 300 0 0 0 runState, 0, 0x0102), (give 0 0x0102 2 (BitVec.ofNat 32 (lockId 1 5)) 3000 0 0 0 runState, 0, 0x0102),
      (give 0 0x0105 0 0 0 0 0 0 runState, 0, 0x0105), (modSec (fun x => { x with nonceCtr := 2 ^ 64 - 1 }) (give 0 0x0105 0 0 0 0 0 0 runState), 0, 0x0105),
      (give 0 5 3 9 0 77 0 0 (setLive (busId 0) 1 runState), 0, 0x0005),
      (give 0 0x0102 2 (BitVec.ofNat 32 (routeId 0 0)) 5 0 0 0 blockState, 0, 0x0102)], Accepted x.1 x.2.1 x.2.2 [] := accepted_all (by decide +kernel)
theorem param_many_witness : ∀ x ∈ [(giveBuf 0 0x0103 2 (BitVec.ofNat 32 (lockId 1 5)) 2 0 (zeros 8) runState, 0, 0x0103),
      (giveBuf 0 0x0104 1 1 0 0 (leBytes 4 (lockId 1 5) ++ leBytes 4 3000) runState, 0, 0x0104)], AcceptedBuf x.1 x.2.1 x.2.2 :=
  acceptedBuf_all (by decide +kernel)
theorem param_save_witness : nonceLeft runState = true ∧ nonceLeft (modSec (fun x => { x with nonceCtr := 2 ^ 64 - 1 }) runState) = false := by decide +kernel
theorem param_conditions_witness : (paramRead runState (lockId 1 5)).isSome = true ∧ paramRead runState 0xFFFF = none ∧
    itemAllowed runState (lockId 1 5) 3000 = true ∧ lockId 1 5 < 0xA000 ∧ mustStage runState (lockId 1 5) = false ∧
    mustStage blockState (routeId 0 0) = true ∧ itemAllowed blockState (routeId 0 0) 5 = true ∧ (match paramKind (lockId 1 5) with
      | .rw lo hi _ => inRange lo hi 3000 && !inRange lo hi 0xFFFFFFFF
      | _ => false) = true := by decide +kernel

/-! ### RingAndDiagnosticCommands -/

/-- One descriptor held on RING5, its record at 0x20000, waiting for `k`. -/
def heldOn5 (k : HeldKind) (s : State) : State :=
  let h : Held :=
    { ring := 5, idx := 0, seq := 7, irq := false, opcode := 0x0202, argc := 1, a0 := 1, a1 := 0, a2 := 0, buf := 0x9000, len := 64,
      areas := [(0x9000, 64)], kind := k, written := 12, taken := 0 }
  modPort (fun p => { p with held := [h] }) (modRing 5 (fun x => { x with base := 0x20000, size := 4, take := 1, tail := 1, free := 0 }) s)

/-- RING3 set up at 0x30000 with a descriptor posted. -/
def ring3State (len : Nat) (q : List Event) : State :=
  give 3 0x0202 0 0 0 0 0x8000 len (modRing 3 (fun x => { x with base := 0x30000, size := 4 }) (modPort (fun p => { p with evtQ := q }) runState))

def failedRun : State := { runState with dev := { runState.dev with failed := true } }

theorem ring_witness : ∀ x ∈ [(give 0 0x0201 3 5 0x20000 4 0 0 runState, 0, 0x0201), (give 0 0x0201 3 5 0x20001 4 0 0 runState, 0, 0x0201),
      (heldOn5 (.post 1) (give 0 0x0201 3 5 0x20000 4 0 0 runState), 0, 0x0201), (give 0 0x0201 3 0 0x20000 4 0 0 runState, 0, 0x0201),
      (ring3State 0 [], 3, 0x0202), (heldOn5 (.post 1) (give 0 0x0203 1 5 0 0 0 0 runState), 0, 0x0203), (give 0 0x0203 1 64 0 0 0 0 runState, 0, 0x0203),
      (give 0 0x0203 1 5 0 0 0 0 runState, 0, 0x0203), (heldOn5 (.lockRequest 1 0) (give 0 0x0203 1 5 0 0 0 0 runState), 0, 0x0203),
      (heldOn5 (.svcDemand 1 0) (give 0 0x0203 1 5 0 0 0 0 runState), 0, 0x0203), (heldOn5 (.authKey 1) (give 0 0x0203 1 5 0 0 0 0 runState), 0, 0x0203),
      (heldOn5 (.capture 1 0 5) (give 0 0x0203 1 5 0 0 0 0 runState), 0, 0x0203), (heldOn5 .xpm (give 0 0x0203 1 5 0 0 0 0 runState), 0, 0x0203)],
    Accepted x.1 x.2.1 x.2.2 [] := accepted_all (by decide +kernel)
theorem diag_witness : ∀ x ∈ [(give 0 0x1003 1 4096 0 0 0 0 runState, 0, 0x1003), (give 0 0x1003 1 6 0 0 0 0 runState, 0, 0x1003),
      (give 0 0x1005 3 1 2 3 0 0 runState, 0, 0x1005), (give 0 0x0F01 1 2 0 0 0 0 runState, 0, 0x0F01), (give 0 0x0F01 1 3 0 0 0 0 runState, 0, 0x0F01)],
    Accepted x.1 x.2.1 x.2.2 [] := accepted_all (by decide +kernel)
theorem ring_buf_witness : ∀ x ∈ [(ring3State 8 [{ code := 0x8001, payload := zeros 20, timeUs := 5 }], 3, 0x0202),
      (give 5 0x0202 1 1 0 0 0x8000 64 (modRing 5 (fun x => { x with base := 0x20000, size := 4 }) runState), 5, 0x0202),
      (give 5 0x0202 1 3 0 0 0x8000 64 (modRing 5 (fun x => { x with base := 0x20000, size := 4 }) runState), 5, 0x0202),
      (giveBuf 0 0x1001 3 0 0 4 (zeros 8) runState, 0, 0x1001), (giveBuf 0 0x1001 3 5 0 4 (zeros 8) runState, 0, 0x1001),
      (giveBuf 0 0x1002 2 1 6 0 (zeros 8) runState, 0, 0x1002), (giveBuf 0 0x1002 2 24 6 0 (zeros 8) runState, 0, 0x1002),
      (giveBuf 0 0x1002 2 1 6 0 (zeros 8) failedRun, 0, 0x1002), (giveBuf 0 0x1004 0 0 0 0 (zeros 16) runState, 0, 0x1004),
      (giveBuf 0 0x0F02 0 0 0 0 (zeros 64) runState, 0, 0x0F02)], AcceptedBuf x.1 x.2.1 x.2.2 := acceptedBuf_all (by decide +kernel)
theorem selftest_waits_witness : testWaits blockState 9 = true ∧ (0x200 : Word).getLsbD 9 = true ∧ (∀ k, k < 12 → testWaits runState k = false) ∧
    Accepted (give 0 0x1003 1 0x200 0 0 0 0 blockState) 0 0x1003 [] := by
  refine ⟨by decide +kernel, by decide +kernel, by decide +kernel, ?_⟩
  rw [← accepts_iff]; decide +kernel
theorem ring_conditions_witness : ringSetupBad runState 5 0x20000 4 = false ∧ ringSetupBad runState 5 0x20001 4 = true ∧
    (heldOn5 (.post 1) runState).port.held.length = 1 ∧ (∀ h ∈ (heldOn5 (.post 1) (give 0 0x0203 1 5 0 0 0 0 runState)).port.held,
      HeldAt (heldOn5 (.post 1) (give 0 0x0203 1 5 0 0 0 0 runState)) h) ∧ 4 * (heatWords runState).length ≤ 64 ∧ HostAwake runState ∧
    runState.port.held = [] ∧ (failedTests runState 6 &&& BitVec.ofNat 12 6).getLsbD 1 = true ∧
    failedTests runState 6 &&& BitVec.ofNat 12 0xFF8 = 0 ∧ runState.nv.log.length ≤ 1 := by
  unfold HeldAt HostAwake; decide +kernel

/-! ### RouteServiceAndRosterCommands -/

/-- A roster with one pinned entry at handle 0 and one that is not at handle 2, which service 9 names where it is defined. -/
def rosterState (named : Bool) : State :=
  modSched (fun d => { d with svcs := [{ freshSvc 9 with defined := named }] }) (modRoster (fun r => { r with entries := [newEntry 0 7 PRESENT true, newEntry 2 8 PRESENT false] })
    (setLive (svcId 9 0) 5 (setLive (svcId 9 12) 2 runState)))

/-- Service 1, a KEY_POLL whose results go to RING4, not defined yet. -/
def svcReady : State :=
  modRing 4 (fun x => { x with base := 0x20000, size := 4 }) (setLive (svcId 1 0) 1 (setLive (svcId 1 7) 400 runState))

theorem route_svc_witness : ∀ x ∈ [(give 0 0x0301 1 3 0 0 0 0 (modLine 1 (fun l => { l with fault := 1 }) runState), 0, 0x0301),
      (give 0 0x0302 0 0 0 0 0 0 runState, 0, 0x0302), (give 0 0x0401 1 256 0 0 0 0 runState, 0, 0x0401), (give 0 0x0401 1 9 0 0 0 0 runState, 0, 0x0401),
      (give 0 0x0401 1 1 0 0 0 0 svcReady, 0, 0x0401), (give 0 0x0402 1 9 0 0 0 0 runState, 0, 0x0402),
      (give 0 0x0402 1 9 0 0 0 0 (rosterState true), 0, 0x0402), (heldOn5 (.svcDemand 9 0) (give 0 0x0402 1 9 0 0 0 0 (rosterState true)), 0, 0x0402),
      (give 0 0x0403 2 9 0 0 0 0 (rosterState true), 0, 0x0403), (give 0 0x0403 2 9 0 0 0 0 runState, 0, 0x0403)],
    Accepted x.1 x.2.1 x.2.2 [] := accepted_all (by decide +kernel)
theorem roster_witness : ∀ x ∈ [(give 0 0x0501 2 0 7 0 0 0 (rosterState false), 0, 0x0501), (give 0 0x0501 2 0 8 0 0 0 (rosterState false), 0, 0x0501),
      (give 0 0x0501 2 0 9 0 0 0 (rosterState false), 0, 0x0501), (give 0 0x0502 2 0 8 0 0 0 (rosterState false), 0, 0x0502),
      (give 0 0x0504 2 0 5 0 0 0 (rosterState false), 0, 0x0504), (give 0 0x0504 2 1 5 0 0 0 (rosterState false), 0, 0x0504),
      (give 0 0x0505 1 2 0 0 0 0 (rosterState false), 0, 0x0505), (give 0 0x0505 1 2 0 0 0 0 (rosterState true), 0, 0x0505),
      (give 0 0x0505 1 0x1000 0 0 0 0 (rosterState true), 0, 0x0505)], Accepted x.1 x.2.1 x.2.2 [] := accepted_all (by decide +kernel)
theorem roster_buf_witness : ∀ x ∈ [(giveBuf 0 0x0503 2 0xFFF 2 0 (zeros 32) (rosterState false), 0, 0x0503),
      (giveBuf 0 0x0503 2 0x1000 1 0 (zeros 32) (rosterState false), 0, 0x0503), (giveBuf 0 0x0503 2 0 2 0 (zeros 32) (rosterState false), 0, 0x0503)],
    AcceptedBuf x.1 x.2.1 x.2.2 := acceptedBuf_all (by decide +kernel)
theorem svc_conditions_witness : defineStatus svcReady 1 = ST_OK ∧ defineStatus runState 9 ≠ ST_OK ∧ svcDefined (rosterState true) 9 = true ∧
    demandSlot (svcPar (rosterState true) 9 0) 0 = some 255 ∧ demandSlot IMMO_AUTH 32 = none ∧ svcDefined runState 9 = false ∧ uidOf 0 7 = 7 ∧
    pinnedCount (rosterState false) < 512 ∧ firstFree (rosterState false).roster.entries = 1 ∧ entryNamed (rosterState true) 2 = true ∧
    entryNamed (rosterState false) 2 = false ∧ (findUid (rosterState false) 7).isSome = true ∧ (findUid (rosterState false) 9).isNone = true := by decide +kernel
/-- Every handle in use, and 512 of the entries pinned. -/
theorem roster_full_witness :
    let es := (List.range 512).map fun k => newEntry k (BitVec.ofNat 64 k) DECLARED true
    pinnedCount { runState with roster := { runState.roster with entries := es } } = 512 ∧ firstFree [newEntry 0 0 DECLARED true] = 1 := by decide +kernel

/-! ### LockZoneAndRadioCommands -/

/-- Key 3 is ACTIVE and AUTHENTICATED with every right, its fix in CAB fresh. -/
def ownerState : State :=
  { modKey 3 (fun q => { q with status := 2, zone := 1, authClk := some 3200000, fix := some { clk := 3200000, verdict := 0, zone := 1, reused := false, words := [1, 2, 3] } })
      (modKeyNv 3 (fun n => { n with state := 1, rights := 0x1F }) runState) with
    sched := { runState.sched with svcs := [freshSvc 7, freshSvc 8] }, par := [(svcId 7 0, 3), (svcId 7 11, 1), (svcId 8 0, 2), (svcId 8 11, 1)] }

/-- Output 1 stands in a state, output 2 is RELEASED. -/
def outState (st : Nat) : State := modLock 2 (fun l => { l with state := RELEASED, pulseClk := some 0 }) (modLock 1 (fun l => { l with state := st }) ownerState)

/-- Output 0 stands in NOTIFY, and key 3 qualifies for it. -/
def noticeState : State := modLock 0 (fun l => { l with state := NOTIFY, items := liveItems ownerState 0 }) ownerState

def cwState : State :=
  modRadio (fun r => { r with queue := [{ kind := RADIO_CW, slot := 255, seq := 0, arg := 5, deadline := 0, taken := 0, khz := 865000, dbm := 0 }], state := 4, paOn := true, cwEnd := some 9000000 })
    (heldOn5 .radioCw (setLive (radioId 0) 1 (setLive (radioId 1) 865000 { runState with nv := { runState.nv with lifecycle := lcProvisioned } })))

theorem lock_zone_witness : ∀ x ∈ [(give 0 0x0601 1 3 0 0 0 0 ownerState, 0, 0x0601), (give 0 0x0601 1 4 0 0 0 0 ownerState, 0, 0x0601),
      (give 0 0x0801 1 3 0 0 0 0 ownerState, 0, 0x0801), (give 0 0x0801 1 32 0 0 0 0 ownerState, 0, 0x0801), (give 0 0x0602 1 31 0 0 0 0 ownerState, 0, 0x0602),
      (give 0 0x0602 1 32 0 0 0 0 ownerState, 0, 0x0602), (give 0 0x0701 1 4 0 0 0 0 ownerState, 0, 0x0701), (give 0 0x0701 1 2 0 0 0 0 (outState 0), 0, 0x0701),
      (give 0 0x0701 1 1 0 0 0 0 (outState FAULT), 0, 0x0701), (give 0 0x0701 1 3 0 0 0 0 (outState 0), 0, 0x0701), (give 0 0x0701 1 0 0 0 0 0 ownerState, 0, 0x0701),
      (give 0 0x0701 1 0 0 0 0 0 runState, 0, 0x0701), (give 0 0x0702 0 0 0 0 0 0 (outState 2), 0, 0x0702), (give 0 0x0703 1 4 0 0 0 0 (outState 2), 0, 0x0703), (give 0 0x0703 1 0 0 0 0 0 (outState 2), 0, 0x0703), (give 0 0x0701 1 1 0 0 0 0 (outState NOTIFY), 0, 0x0701), (give 0 0x0701 1 0 0 0 0 0 noticeState, 0, 0x0701),
      (give 0 0x0703 1 1 0 0 0 0 (outState 2), 0, 0x0703), (give 0 0x0704 1 1 0 0 0 0 (outState FAULT), 0, 0x0704), (give 0 0x0704 1 4 0 0 0 0 (outState FAULT), 0, 0x0704),
      (give 0 0x0704 1 0 0 0 0 0 (outState FAULT), 0, 0x0704)], Accepted x.1 x.2.1 x.2.2 [] := accepted_all (by decide +kernel)
theorem zone_buf_witness : ∀ x ∈ [(giveBuf 0 0x0802 1 3 0 0 (zeros 12) ownerState, 0, 0x0802), (giveBuf 0 0x0802 1 32 0 0 (zeros 12) ownerState, 0, 0x0802),
      (giveBuf 0 0x0901 1 3 0 0 (zeros 220) ownerState, 0, 0x0901), (giveBuf 0 0x0901 1 32 0 0 (zeros 12) ownerState, 0, 0x0901)],
    AcceptedBuf x.1 x.2.1 x.2.2 := acceptedBuf_all (by decide +kernel)
theorem radio_witness : ∀ x ∈ [(give 0 0x0A01 0 0 0 0 0 0 runState, 0, 0x0A01), (give 0 0x0A01 0 0 0 0 0 0 cwState, 0, 0x0A01),
      (give 0 0x0A02 3 865000 0 5 0 0 cwState, 0, 0x0A02), (give 0 0x0A02 3 900000 0 5 0 0 cwState, 0, 0x0A02), (give 0 0x0A02 3 900000 0 0 0 0 cwState, 0, 0x0A02), (give 0 0x0A02 3 865000 0 5 0 0 runState, 0, 0x0A02),
      (give 0 0x0A03 0 0 0 0 0 0 runState, 0, 0x0A03), (give 0 0x0A03 0 0 0 0 0 0 cwState, 0, 0x0A03)], Accepted x.1 x.2.1 x.2.2 [] := accepted_all (by decide +kernel)
theorem lock_conditions_witness : keyActive ownerState 3 = true ∧ keyActive ownerState 4 = false ∧ svcsOfType ownerState IMMO_AUTH = [7] ∧ svcPar ownerState 7 11 &&& zoneBit 1 = 1 ∧
    svcsOfType ownerState ZONE_TRACK = [8] ∧ par (outState 0) (lockId 3 0) = 0 ∧ par ownerState (lockId 0 0) = 1 ∧
    qualifier ownerState 0 (liveItems ownerState 0) = some 3 ∧ lockConditions ownerState (liveItems ownerState 0) = true ∧ mayRelease ownerState = true ∧
    twinStands ownerState = false ∧ (qualifier noticeState 0 (getLock noticeState 0).items).isSome = true ∧ lockConditions noticeState (getLock noticeState 0).items = true ∧
    (getLock ownerState 0).stopClk = 0 ∧ qualifier (outState NOTIFY) 1 (getLock (outState NOTIFY) 1).items = none ∧ par (outState NOTIFY) (lockId 1 0) = 1 ∧ qualifier runState 0 (liveItems runState 0) = none ∧ pumping (outState 2) 2 = true ∧
    radioSet cwState = true ∧ radioSet runState = false ∧ cwInHand cwState = true ∧ cwState.port.held.length = 1 ∧ inRegion cwState 865000 = true ∧
    inRegion cwState 900000 = false ∧ debugOpen runState = false ∧ (getKey ownerState 3).exch = none := by decide +kernel
theorem lock_refused_witness : (qualifier ownerState 1 (liveItems ownerState 1)).isSome = false ∧
    (let s := setLive (lockId 0 6) 0 (setLive (lockId 2 0) 1 (setLive (lockId 2 6) 1 (setLive (lockId 2 1) 7 ownerState)))
     (qualifier s 2 (liveItems s 2)).isSome = true ∧ lockConditions s (liveItems s 2) = false) := by decide +kernel

/-! ### KeyTableAndOtpCommands -/

/-- Key 3 is ACTIVE, not a master; key 4 is REVOKED; the proof of UID 9 is fresh. -/
def tableState : State :=
  modSched (fun d => { d with proofs := [(9, 3200000)], svcs := [freshSvc 7] })
    (modKeyNv 3 (fun n => { n with state := 1, uid := 3, rights := 1 }) (modKeyNv 4 (fun n => { n with state := 2, uid := 4 }) (setLive (svcId 7 0) 3 runState)))

/-- Key 5 is a master that has not proved itself lately. -/
def masterState : State := modKeyNv 5 (fun n => { n with state := 1, uid := 5, rights := 0x10 }) tableState

/-- Slots 4, 20 and 21 hold keys of 0, 1, 2 and on: MACHINE_ROOT, an AES-128 key for CMAC and CCM, a P-384 key that signs. -/
def slotsState : State :=
  { runState with
    nv := { runState.nv with
      slots := [(4, beBytes 32 0x3b731fe49e738bec0ce69b171006197da89e5eac96c107189537adfdba13ead3), (20, beBytes 32 0x68b12e948fa8b26e104c79f41d356a0e8bb953d2dec5d220c85e70f17b0233cc),
        (21, beBytes 64 0x82b5421d3c60efaf4814711803dd57426462e344f59cf817af1780888ac3fe7d8fea98932d89cdb3c51b3adfd74cea3557b0ad24dd13159016cec3cf18d57c9b)] } }

/-- A PROVISIONED device with root hashes under which the signature (3, 5) verifies: Brixqua's over ILK-RETURN, the OEM's over ILK-DESTROY of slot 20. -/
def signedState (lc : Nat) : State :=
  { slotsState with
    nv := { slotsState.nv with
      lifecycle := lc
      otp := Mem.writeBytes (Mem.writeBytes [] 0x80 (beBytes 48 7563075228217939066002221831896072801177416418946043951337229657503728444502227642908630470391204885697191914579598))
        0xB0 (beBytes 48 8429660820042565163166008263798013751924638781433940523816652745846407430475286163384952657400523527627437691158139) } }

def rootSig : List Byte := beBytes 48 3 ++ beBytes 48 5

theorem key_table_witness : ∀ x ∈ [(give 0 0x0B01 3 (3 + 256) 0 9 0 0 tableState, 0, 0x0B01), (give 0 0x0B01 3 6 0 9 0 0 tableState, 0, 0x0B01),
      (give 0 0x0B01 3 6 0 9 0 0 masterState, 0, 0x0B01), (give 0 0x0B01 3 6 0 10 0 0 tableState, 0, 0x0B01), (give 0 0x0B02 1 0 0 0 0 0 tableState, 0, 0x0B02),
      (give 0 0x0B02 1 32 0 0 0 0 tableState, 0, 0x0B02), (give 0 0x0B02 1 3 0 0 0 0 tableState, 0, 0x0B02), (give 0 0x0B02 1 4 0 0 0 0 tableState, 0, 0x0B02),
      (give 0 0x0B02 1 3 0 0 0 0 masterState, 0, 0x0B02), (give 0 0x0B0A 0 0 0 0 0 0 runState, 0, 0x0B0A), (give 0 0x0B0A 0 0 0 0 0 0 slotsState, 0, 0x0B0A),
      (give 0 0x0B0B 1 20 0 0 0 0 (signedState lcProvisioned), 0, 0x0B0B), (give 0 0x0B0B 1 6 0 0 0 0 (signedState lcProvisioned), 0, 0x0B0B),
      (give 0 0x0B0B 1 22 0 0 0 0 (signedState lcProvisioned), 0, 0x0B0B), (give 0 0x0B12 2 63 256 0 0 0 runState, 0, 0x0B12), (give 0 0x0B12 2 63 0 0 0 0 runState, 0, 0x0B12), (give 0 0x0B0A 0 0 0 0 0 0 (modIsl (fun i => { i with session := true }) slotsState), 0, 0x0B0A),
      (give 0 0x0B12 2 64 1 0 0 0 runState, 0, 0x0B12), (give 0 0x0B12 2 15 1 0 0 0 runState, 0, 0x0B12),
      (give 0 0x0B12 2 16 1 0 0 0 (setLiveCounter 16 0xFFFFFFFF runState), 0, 0x0B12), (give 0 0x0B12 2 16 1 0 0 0 (setMark 16 2 runState), 0, 0x0B12)],
    Accepted x.1 x.2.1 x.2.2 [] := accepted_all (by decide +kernel)
theorem key_buf_witness : ∀ x ∈ [(giveBuf 0 0x0B03 2 31 2 0 (zeros 16) tableState, 0, 0x0B03), (giveBuf 0 0x0B03 2 32 2 0 (zeros 16) tableState, 0, 0x0B03), (giveBuf 0 0x0B03 2 31 0 0 (zeros 16) tableState, 0, 0x0B03), (giveBuf 0 0x0B05 2 447 0 0 (zeros 32) runState, 0, 0x0B05),
      (giveBuf 0 0x0B04 0 0 0 0 (zeros 96) { runState with nv := { runState.nv with lifecycle := lcProvisioned } }, 0, 0x0B04),
      (giveBuf 0 0x0B04 0 0 0 0 (zeros 96) runState, 0, 0x0B04), (giveBuf 0 0x0B04 0 0 0 0 (zeros 95) runState, 0, 0x0B04),
      (giveBuf 0 0x0B05 2 447 1 0 (zeros 32) runState, 0, 0x0B05), (giveBuf 0 0x0B05 2 447 2 0 (zeros 64) runState, 0, 0x0B05),
      (giveBuf 0 0x0B06 1 0x7E 0 0 (zeros 4) runState, 0, 0x0B06), (giveBuf 0 0x0B06 1 0x5F 0 0 (zeros 4) runState, 0, 0x0B06),
      (giveBuf 0 0x0B0B 1 20 0 0 rootSig (signedState lcField), 0, 0x0B0B), (giveBuf 0 0x0B0B 1 20 0 0 (zeros 96) (signedState lcField), 0, 0x0B0B),
      (giveBuf 0 0x0B14 0 0 0 0 (zeros 4) runState, 0, 0x0B14), (giveBuf 0 0x0B15 1 3 0 0 rootSig (signedState lcProvisioned), 0, 0x0B15),
      (giveBuf 0 0x0B15 1 2 0 0 rootSig (signedState lcProvisioned), 0, 0x0B15), (giveBuf 0 0x0B15 1 1 0 0 rootSig (signedState lcProvisioned), 0, 0x0B15)],
    AcceptedBuf x.1 x.2.1 x.2.2 := acceptedBuf_all (by decide +kernel)
theorem key_conditions_witness : enrolRefused tableState 3 9 = some ST_BAD_ARG ∧ enrolRefused tableState 6 9 = none ∧ proofFresh tableState 9 = true ∧
    proofFresh tableState 10 = false ∧ masterOk tableState = true ∧ masterOk masterState = false ∧ mayRevoke tableState 3 = true ∧
    mayRevoke masterState 3 = false ∧ oemRootSet runState = false ∧ (otpRead runState (0x800 + 32 * 447) 32 = zeros 32) ∧ readSlot runState 4 = .empty ∧
    slotRecord (signedState lcField) 22 = none ∧ (slotRecord (signedState lcField) 20).isSome = true ∧ slotBusy (signedState lcField) 20 (headHeld (signedState lcField) 0) = false ∧ pkFree (signedState lcField) = true ∧ destroyWaits slotsState 4 = false ∧
    tableState.port.held = [] ∧ (let t := setLive (lockId 1 0) 0 (setLive (lockId 0 0) 0 tableState)
      ∀ o < 4, (getLock t o).state = LOCKED ∧ par t (lockId o 0) = 0) ∧
    (counterMark runState 63 ≤ (256 : Word)) = true ∧ (1 : Word) < counterMark (setMark 16 2 runState) 16 ∧ certificate runState = [] := by decide +kernel
theorem slot_reads_witness : slotHolds slotsState 4 = true ∧
    readSlot { runState with nv := { runState.nv with slots := [(4, zeros 32)] } } 4 = .corrupt := by decide +kernel
theorem root_signature_witness : lifecycleAllowed (giveBuf 0 0x0B15 1 3 0 0 rootSig (signedState lcProvisioned)) lcReturned rootSig = true := by
  decide +kernel
theorem no_signature_witness :
    lifecycleAllowed (signedState lcProvisioned) lcField (zeros 96) = false ∧
    signedByRoot (oemHash (signedState lcField)) (rootDigest (signedState lcField) "ILK-DESTROY" [20]) (zeros 96) = false := by decide +kernel
theorem destroy_signature_witness : signedByRoot (oemHash (signedState lcField)) (rootDigest (signedState lcField) "ILK-DESTROY" [20]) rootSig = true := by
  decide +kernel

/-! ### EngineCommandsQueueJobs -/

/-- slotsState with DEV_ID, a transport key open, in a lifecycle state. -/
def engineState (lc : Nat) : State :=
  modSec (fun x => { x with xport := some 5 })
    { slotsState with
      nv := { slotsState.nv with
        lifecycle := lc
        slots := (0, beBytes 64 371458191002288421184802091284974000891857790457893370278957323521394075482717946389167992926787228133179823527608226788602751225626621069949479071446274) :: slotsState.nv.slots } }

/-- Accepted with areas computed from the descriptor. -/
def acceptsExtra (op : Nat) (extra : Held → State → List (Nat × Nat)) (s : State) : Bool :=
  accepts s 0 op (namedAreas (headHeld s 0) true (extra (headHeld s 0) s)) && (headHeld s 0).len != 0

theorem engine_buf_witness : ∀ x ∈ [(giveBuf 0 0x0B07 0 0 0 0 (zeros 192) (engineState lcField), 0, 0x0B07), (giveBuf 0 0x0B07 0 0 0 0 (zeros 191) (engineState lcField), 0, 0x0B07), (giveBuf 0 0x0B07 0 0 0 0 (zeros 192) runState, 0, 0x0B07),
      (giveBuf 0 0x0B08 1 22 0 0 (zeros 128) (engineState lcProvisioned), 0, 0x0B08), (giveBuf 0 0x0B08 1 22 0 0 (zeros 127) (engineState lcProvisioned), 0, 0x0B08),
      (giveBuf 0 0x0B08 1 22 0 0 (zeros 128) (engineState lcField), 0, 0x0B08), (giveBuf 0 0x0B08 1 22 0 0 (zeros 128) runState, 0, 0x0B08),
      (giveBuf 0 0x0B09 2 22 0x50 0 (zeros 96) (engineState lcProvisioned), 0, 0x0B09), (giveBuf 0 0x0B09 2 22 0x10 0 (zeros 96) (engineState lcProvisioned), 0, 0x0B09),
      (giveBuf 0 0x0B09 2 15 0x50 0 (zeros 96) (engineState lcProvisioned), 0, 0x0B09), (giveBuf 0 0x0B09 2 22 0x50 0 (zeros 96) (engineState lcField), 0, 0x0B09),
      (giveBuf 0 0x0B10 1 21 0 0 (zeros 96) (engineState lcField), 0, 0x0B10), (giveBuf 0 0x0B10 1 15 0 0 (zeros 96) (engineState lcField), 0, 0x0B10),
      (giveBuf 0 0x0B10 1 21 0 0 (zeros 95) (engineState lcField), 0, 0x0B10),
      (giveBuf 0 0x0B11 0 0 0 0 (zeros 240) runState, 0, 0x0B11), (giveBuf 0 0x0B11 0 0 0 0 (zeros 239) runState, 0, 0x0B11),
      (giveBuf 0 0x0B13 1 32 0 0 (zeros 272) (engineState lcField), 0, 0x0B13), (giveBuf 0 0x0B13 1 31 0 0 (zeros 272) (engineState lcField), 0, 0x0B13)],
    AcceptedBuf x.1 x.2.1 x.2.2 := acceptedBuf_all (by decide +kernel)
theorem engine_extra_witness : acceptsExtra 0x0B0C cmacAreas (giveBuf 0 0x0B0C 3 (20 + 768) 0 0x9000 [1, 2, 3] slotsState) = true ∧
    acceptsExtra 0x0B0C cmacAreas (giveBuf 0 0x0B0C 3 (20 + 512) 0x9100 0x9000 [1, 2, 3] slotsState) = true ∧
    acceptsExtra 0x0B0C cmacAreas (giveBuf 0 0x0B0C 3 (15 + 768) 0 0x9000 [1, 2, 3] slotsState) = true ∧
    acceptsExtra 0x0B0D encAreas (giveBuf 0 0x0B0D 3 (20 + 2048) 0 0x9000 [1, 2, 3] slotsState) = true ∧
    acceptsExtra 0x0B0E decAreas (giveBuf 0 0x0B0E 3 (20 + 2048) 0 0x9000 (zeros 32) slotsState) = true ∧
    acceptsExtra 0x0B0D encAreas (giveBuf 0 0x0B0D 3 20 0 0x9000 [1, 2, 3] slotsState) = true ∧ acceptsExtra 0x0B0E decAreas (giveBuf 0 0x0B0E 3 20 0 0x9000 [1, 2, 3] slotsState) = true ∧
    acceptsExtra 0x0B0E decAreas (giveBuf 0 0x0B0E 3 (20 + 1280) 0 0x9000 (zeros 32) slotsState) = true ∧
    acceptsExtra 0x0B0F shaAreas (giveBuf 0 0x0B0F 1 0x9000 0 0 [1, 2, 3] runState) = true ∧
    accepts (give 0 0x0B13 1 0 0 0 0 0 runState) 0 0x0B13 [] = true := by decide +kernel
theorem engine_conditions_witness : (∀ j ∈ runState.sec.jobs, j.running = true ∧ j.id ≠ runState.sec.nextJob) ∧ slotStays slotsState 22 = false ∧ slotAwaited slotsState 0 20 = false ∧ jobMayRun slotsState false = true ∧
    importRecord 128 false = some 32 ∧ importRecord 127 false = none ∧ needsOemSignature slotsState = false ∧ importSlot 22 = true ∧
    slotHolds slotsState 22 = false ∧ slotRefused slotsState 15 1 false = some ST_KEY_USAGE ∧ nonceLeft slotsState = true := by decide +kernel
theorem slot_usage_witness : slotRefused slotsState 20 1 false = none ∧ slotRefused slotsState 20 2 false = none ∧
    slotRefused slotsState 20 4 true = some ST_KEY_USAGE := by decide +kernel
theorem sign_slot_witness : slotRefused slotsState 21 4 true = none := by decide +kernel
theorem dev_id_witness : slotHolds (engineState lcField) 0 = true ∧ (match readSlot (engineState lcField) 0 with
    | .key a _ => usageFits a 4 true
    | _ => false) = true := by decide +kernel
theorem no_dev_id_witness : readSlot runState 0 = .empty ∧ jobMayRun runState true = true ∧ slotAwaited runState 0 0 = false := by decide +kernel
theorem nonce_spent_witness : nonceLeft (modSec (fun x => { x with nonceCtr := 2 ^ 64 - 1 }) slotsState) = false := by decide +kernel
theorem corrupt_slot_witness : let s := { runState with nv := { runState.nv with slots := [(20, zeros 32)] } }
    slotRefused s 20 1 false = some ST_KEY_CORRUPT ∧ slotRefused s 20 4 true = some ST_KEY_CORRUPT ∧
    accepts (giveBuf 0 0x0B10 1 20 0 0 (zeros 96) s) 0 0x0B10 [headBuf (giveBuf 0 0x0B10 1 20 0 0 (zeros 96) s) 0] = true ∧
    acceptsExtra 0x0B0C cmacAreas (giveBuf 0 0x0B0C 3 (20 + 768) 0 0x9000 [1, 2, 3] s) = true ∧
    acceptsExtra 0x0B0D encAreas (giveBuf 0 0x0B0D 3 (20 + 2048) 0 0x9000 [1, 2, 3] s) = true ∧
    acceptsExtra 0x0B0E decAreas (giveBuf 0 0x0B0E 3 (20 + 2048) 0 0x9000 (zeros 32) s) = true := by decide +kernel

/-! ### JobResults -/

/-- A job of an opcode runs for the one descriptor held, on a key of zeros, its buffer of bytes at 0x9000 and its other areas behind. -/
def endState (opcode : Nat) (a0 a1 a2 : Word) (bs : List Byte) : State :=
  let s := jobState opcode 1
  winWrite 0x9000 bs
    (modSec (fun x => { x with jobs := x.jobs.map fun j => { j with key := zeros 16, nonce := zeros 13 } })
      (modPort (fun p => { p with held := p.held.map fun h => { h with opcode := opcode, a0 := a0, a1 := a1, a2 := a2, buf := 0x9000, len := bs.length } }) s))

theorem job_results_witness : ∀ s ∈ [endState 0x0B0C 788 0 0xA000 [1, 2, 3], endState 0x0B0C 276 0xA000 0 [1, 2, 3], endState 0x0B0D 2068 1 0xA000 [1, 2, 3],
      endState 0x0B0E 2068 1 0xA000 (zeros 32), endState 0x0B10 21 0 0 (zeros 96), endState 0x0B11 0 0 0 (zeros 240), endState 0x0B07 0 0 0 (zeros 192),
      endState 0x0B09 22 0x50 0 (zeros 96), endState 0x0B0B 22 0 0 (zeros 96), endState 0x0B15 2 0 0 (zeros 96), endState 0x0B08 22 0 0 (zeros 128), endState 0x0B13 32 0 0 (zeros 272)],
    ∃ j h, s.sec.jobs = [j] ∧ j.running = true ∧ isRunning s = true ∧ j.parts ≤ 1 ∧ j.ring ≠ 255 ∧ s.port.held = [h] ∧ h.kind = .job j.id ∧
      HeldAt s h ∧ h.ring = j.ring ∧ h.idx = j.idx ∧ s.twin.role ≠ 1 ∧ s.twin.pairing = none ∧ s.sec.slotWrites = [] ∧ s.twin.backlog = [] ∧ (getRing s h.ring).base + 32 * h.idx + 32 ≤ 0x9000 := by
  simp only [List.forall_mem_cons, List.not_mem_nil, false_implies, implies_true, and_true]
  refine ⟨?_, ?_, ?_, ?_, ?_, ?_, ?_, ?_, ?_, ?_, ?_, ?_⟩ <;>
    exact ⟨_, _, rfl, rfl, by decide +kernel, by decide +kernel, by decide +kernel, rfl, rfl, by unfold HeldAt; decide +kernel, rfl, rfl,
      by decide +kernel, by decide +kernel, rfl, rfl, by decide +kernel⟩
theorem signed_job_witness :
    (let s := giveBuf 0 0x0B09 2 22 0x50 0 (zeros 96) (signedState lcProvisioned)
     generateSigned (headHeld s 0) s = false) ∧
    (let s := giveBuf 0 0x0B09 2 22 0x50 0 (zeros 96) runState
     generateSigned (headHeld s 0) s = true) := by decide +kernel
theorem job_conditions_witness : cmacFirst (headHeld (giveBuf 0 0x0B0C 3 788 0 0xA000 [1] runState) 0) = true ∧
    (BitVec.ofNat 32 788 : Word).getLsbD 9 = true ∧ (BitVec.ofNat 32 276 : Word).getLsbD 9 = false ∧ (endState 0x0B0D 2068 1 0xA000 [1, 2, 3]).sec.jobs.map (fun j => j.nonce.length) = [13] ∧
    needsOemSignature (endState 0x0B08 22 0 0 (zeros 128)) = false ∧ (endState 0x0B08 22 0 0 (zeros 128)).sec.xport = none ∧
    slotHolds (modSec (fun x => { x with xport := some 5 }) (endState 0x0B08 22 0 0 (zeros 128))) 22 = false ∧ counterLive (endState 0x0B13 32 0 0 (zeros 272)) 1 ≠ 0xFFFFFFFF := by decide +kernel

/-! ### UpdateCommands -/

/-- The blob of an image of one piece of one byte, its vendor key that under which the signature (3, 5) over its header verifies. -/
def testBlob : List Byte :=
  ascii "DPT1" ++ leBytes 2 1 ++ leBytes 2 384 ++ leBytes 8 77 ++ leBytes 2 0x2464 ++ leBytes 2 0x00B0 ++ leBytes 2 0x0402 ++ leBytes 2 1 ++
  leBytes 4 0 ++ leBytes 2 0 ++ leBytes 2 0 ++ leBytes 2 1 ++ leBytes 2 1 ++ leBytes 4 1 ++ zeros (2 + 6 + 48 + 32 + 64) ++
  beBytes 96 46805545629798285741495216591210938090470104678838246600215538156207326022717388323973988430849100277636610231208968058527673822802461474761352974866317630923421248586580533959122563824310490824756496576001311524777139096302099812 ++
  rootSig

/-- Its one piece, encrypted and tagged. -/
def goodPiece : List Byte := beBytes 17 71900697269879581292476732859841233743445

/-- The key of slot 1, where it reads. -/
def pieceClearKey (s : State) : List Byte :=
  match readSlot s 1 with
  | .key _ k => k
  | _ => []

/-- That image in bank B at a stage, bank A running; slot 1 and the vendor's root hash are its own. -/
def updState (stage : Nat) : State :=
  { runState with
    nv := { runState.nv with
      updStage := stage
      bankB := { blob := testBlob, pieces := [], good := false }
      slots := [(1, beBytes 48 32024957460926338451182354825465695151590458181996726385689682176404785500620333853631223302232044433524993276031428)]
      otp := Mem.writeBytes [] 0x80 (beBytes 48 21411599734510558292332772143004592245064831472029002953570628971595781819541187754389757786249384634675119661739563) } }

theorem upd_buf_witness : ∀ x ∈ [(giveBuf 2 0x0C01 0 0 0 0 testBlob (updState 1), 2, 0x0C01), (giveBuf 2 0x0C01 0 0 0 0 (zeros 384) (updState 1), 2, 0x0C01),
      (giveBuf 2 0x0C02 1 0 0 0 goodPiece (updState 1), 2, 0x0C02),
      (giveBuf 2 0x0C02 1 0 0 0 (zeros 17) (updState 1), 2, 0x0C02), (giveBuf 2 0x0C02 1 1 0 0 (zeros 17) (updState 1), 2, 0x0C02),
      (giveBuf 2 0x0C02 1 0 0 0 (zeros 17) (updState 0), 2, 0x0C02), (giveBuf 2 0x0C06 0 0 0 0 (zeros 1) (updState 1), 2, 0x0C06)],
    AcceptedBuf x.1 x.2.1 x.2.2 := acceptedBuf_all (by decide +kernel)
theorem upd_witness : ∀ x ∈ [(give 2 0x0C03 0 0 0 0 0 0 (updState 2), 2, 0x0C03), (give 2 0x0C03 0 0 0 0 0 0 (updState 1), 2, 0x0C03),
      (give 2 0x0C04 0 0 0 0 0 0 (updState 4), 2, 0x0C04), (give 2 0x0C04 0 0 0 0 0 0 (updState 5), 2, 0x0C04),
      (give 2 0x0C04 0 0 0 0 0 0 (modLock 1 (fun l => { l with state := 3 }) (updState 4)), 2, 0x0C04),
      (give 2 0x0C04 0 0 0 0 0 0 (modMnt (fun m => { m with running := 1 }) (updState 6)), 2, 0x0C04),
      (give 2 0x0C05 0 0 0 0 0 0 (updState 5), 2, 0x0C05), (give 2 0x0C05 0 0 0 0 0 0 (updState 0), 2, 0x0C05), (give 2 0x0C07 0 0 0 0 0 0 (updState 5), 2, 0x0C07),
      (give 2 0x0C07 0 0 0 0 0 0 (updState 3), 2, 0x0C07), (give 2 0x0C07 0 0 0 0 0 0 (updState 0), 2, 0x0C07), (give 2 0x0C07 0 0 0 0 0 0 (updState 6), 2, 0x0C07)],
    Accepted x.1 x.2.1 x.2.2 [] := accepted_all (by decide +kernel)
theorem header_witness : headerRefused (updState 1) testBlob = none := by decide +kernel
theorem header_refused_witness : headerRefused (updState 1) (zeros 384) = some ST_UPD_FORMAT ∧
    (∀ l ∈ (updState 4).locks, l.state = LOCKED) ∧ (updState 4).upd.bank = false ∧ (updState 4).mnt.running = 0 ∧
    pieceLen testBlob 0 = 1 ∧ hdrPieces testBlob = 1 ∧ bitmapBytes (updState 1) = [0] := by decide +kernel
/-- The job of a piece of these bytes has one part left, its descriptor alone held. -/
def pieceEnd (stage : Nat) (bs : List Byte) : State :=
  let s := endState 0x0C02 0 0 0 bs
  let s := { s with nv := (updState stage).nv }
  modSec (fun x => { x with jobs := x.jobs.map fun j => { j with pk := false, slot := 1, key := kdf256 (pieceClearKey s) (ascii "ILK-IMG") (hdrImageId testBlob) } }) s

theorem piece_opens_witness : slotHolds (updState 1) (pieceSlot testBlob) = true ∧ (match readSlot (updState 1) (pieceSlot testBlob) with
    | .key a _ => usageFits a 0 false
    | _ => false) = true ∧ (∀ s ∈ [pieceEnd 1 goodPiece, pieceEnd 1 (zeros 17), pieceEnd 0 goodPiece], s.sec.slotWrites = [] ∧ s.twin.backlog = [] ∧ s.nv.chainTarget = false) ∧
    pkFree (updState 1) = true ∧ nonceLeft (updState 4) = true := by decide +kernel
theorem piece_end_witness : ∀ s ∈ [pieceEnd 1 goodPiece, pieceEnd 1 (zeros 17), pieceEnd 0 goodPiece],
    ∃ j h, s.sec.jobs = [j] ∧ j.running = true ∧ isRunning s = true ∧ j.parts ≤ 1 ∧ j.ring ≠ 255 ∧ j.opcode = 0x0C02 ∧ s.port.held = [h] ∧ h.kind = .job j.id ∧
      HeldAt s h ∧ h.ring = j.ring ∧ h.idx = j.idx := by
  simp only [List.forall_mem_cons, List.not_mem_nil, false_implies, implies_true, and_true]
  refine ⟨?_, ?_, ?_⟩ <;>
    exact ⟨_, _, rfl, rfl, by decide +kernel, by decide +kernel, by decide +kernel, rfl, rfl, rfl, by unfold HeldAt; decide +kernel, rfl, rfl⟩
theorem piece_stored_witness : pieceStatus (pieceEnd 1 goodPiece) 0 17 = none ∧ pieceStatus (pieceEnd 0 goodPiece) 0 17 = some ST_UPD_STAGE ∧
    (pieceEnd 1 goodPiece).sec.jobs.map (fun j => openPiece j.key testBlob 0 goodPiece) = [some [0xAB]] ∧
    (pieceEnd 1 goodPiece).sec.jobs.map (fun j => openPiece j.key testBlob 0 (zeros 17)) = [none] := by decide +kernel

/-! ### TwinAndMaintenanceCommands -/

theorem twin_commands_witness : ∀ x ∈ [(give 1 0x0D01 1 1 0 0 0 0 runState, 1, 0x0D01), (give 1 0x0D01 1 3 0 0 0 0 runState, 1, 0x0D01),
      (give 1 0x0D01 1 1 0 0 0 0 masterState, 1, 0x0D01), (give 1 0x0D01 1 1 0 0 0 0 (linkedState 1), 1, 0x0D01),
      (give 1 0x0D01 1 2 0 0 0 0 (modTwin (fun t => { t with pairing := some 1, pairStep := 1 }) runState), 1, 0x0D01),
      (give 1 0x0D01 1 1 0 0 0 0 (modTwin (fun t => { t with pairing := some 1, pairStep := 1 }) runState), 1, 0x0D01),
      (give 1 0x0D01 1 1 0 0 0 0 { runState with nv := { runState.nv with lifecycle := lcReturned } }, 1, 0x0D01),
      (give 1 0x0D02 0 0 0 0 0 0 runState, 1, 0x0D02), (give 1 0x0D02 0 0 0 0 0 0 (linkedState 2), 1, 0x0D02), (give 1 0x0D02 0 0 0 0 0 0 (linkedState 1), 1, 0x0D02),
      (give 1 0x0D02 0 0 0 0 0 0 (modTwin (fun t => { t with hbSeen := false }) (linkedState 2)), 1, 0x0D02),
      (give 1 0x0D03 0 0 0 0 0 0 runState, 1, 0x0D03), (give 1 0x0D03 0 0 0 0 0 0 (linkedState 2), 1, 0x0D03), (give 1 0x0D03 0 0 0 0 0 0 (linkedState 1), 1, 0x0D03),
      (give 1 0x0D03 0 0 0 0 0 0 (modTwin (fun t => { t with hbSeen := false }) (linkedState 1)), 1, 0x0D03), (give 1 0x0D04 0 0 0 0 0 0 runState, 1, 0x0D04)],
    Accepted x.1 x.2.1 x.2.2 [] := accepted_all (by decide +kernel)
theorem twin_unpair_master_witness :
    let s := give 1 0x0D02 0 0 0 0 0 0 (modKeyNv 5 (fun n => { n with state := 1, rights := 0x10 }) (linkedState 1))
    accepts s 1 0x0D02 [] = true ∧ masterOk s = false ∧ isSiding s = false := by decide +kernel
theorem maint_commands_witness : ∀ x ∈ [(give 0 0x0E01 0 0 0 0 0 0 runState, 0, 0x0E01), (give 0 0x0E02 1 5 0 0 0 0 runState, 0, 0x0E02),
      (give 0 0x0506 0 0 0 0 0 0 runState, 0, 0x0506), (give 0 0x0E02 1 0x1000000 0 0 0 0 runState, 0, 0x0E02),
      (give 1 0x0D03 0 0 0 0 0 0 (modMnt (fun m => { m with running := 2, queue := [(3, 0)] }) (linkedState 1)), 1, 0x0D03),
      (give 1 0x0D03 0 0 0 0 0 0 (modMnt (fun m => { m with running := 2 }) (linkedState 1)), 1, 0x0D03), (give 0 0x0E01 0 0 0 0 0 0 (modMnt (fun m => { m with running := 2, queue := [(1, 0)] }) runState), 0, 0x0E01),
      (give 0 0x0506 0 0 0 0 0 0 (modMnt (fun m => { m with running := 2, queue := [(1, 0)] }) runState), 0, 0x0506),
      (give 0 0x0E03 1 4 0 0 0 0 (modMnt (fun m => { m with running := 2, queue := [(4, 0)] }) runState), 0, 0x0E03), (give 0 0x0E03 1 4 0 0 0 0 runState, 0, 0x0E03),
      (give 0 0x0E03 1 5 0 0 0 0 runState, 0, 0x0E03), (give 0 0x0E04 0 0 0 0 0 0 runState, 0, 0x0E04)],
    Accepted x.1 x.2.1 x.2.2 [] := accepted_all (by decide +kernel)
theorem twin_maint_conditions_witness : busMode runState ≠ 2 ∧ masterOk runState = true ∧ twinStands (linkedState 1) = true ∧
    twinStands (modTwin (fun t => { t with hbSeen := false }) (linkedState 2)) = false ∧ isSiding (linkedState 2) = true ∧ maintKnown runState 4 = false ∧
    maintKnown (linkedState 1) RESYNC_ALL = false ∧ (linkedState 1).port.held = [] ∧ NothingAwaited (linkedState 1) ∧ runState.twin.early = none ∧ (linkedState 1).sec.jobs = [] := by
  unfold NothingAwaited; decide +kernel
theorem twin_unpair_witness : EnginesUnawaited (linkedState 1) := unawaited_spec (by decide +kernel)

/-! ### DescriptorRefusals -/

/-- The descriptor of DIAG_ECHO is next on RING0, with so many arguments. -/
def echoState (argc : Nat) (s : State) : State := give 0 0x1005 argc 0 0 0 0 0 s

theorem refusals_witness : (∀ s ∈ [echoState 0 runState, echoState 2 runState], nextRing s = some 0 ∧ headOpcode s 0 = 0x1005 ∧ headOwn s 0 = true ∧
      (getRing s 0).take < (getRing s 0).size ∧ headOffset s 0 + 32 ≤ windowBytes ∧ Mem.wf s.win = true) ∧
    failedServes 0 0x0101 = false ∧ nextRing (give 0 0x0101 1 0 0 0 0 0 failedRun) = some 0 ∧ ringAccepts 1 0x1005 = false ∧
    nextRing (give 1 0x1005 0 0 0 0 0 0 runState) = some 1 ∧ ringAccepts 0 0x1005 = true ∧ headReserved (echoState 0 runState) 0 = true ∧
    headReserved (winWrite 3 [0xC0] (echoState 0 runState)) 0 = false ∧ opcodeArgs 0 0x1005 = some 3 ∧ gate runState 0x1005 = none ∧
    gate (linkedState 2) 0x0301 = some ST_TWIN_SIDING ∧ gate { runState with nv := { runState.nv with lifecycle := lcBlank } } 0x0101 = some ST_LC_REFUSED ∧
    nextRing (give 0 0x0301 0 0 0 0 0 0 (linkedState 2)) = some 0 := by decide +kernel

/-! ## Ill-formed terms: each check refuses one -/

def badPacket : FobPacket := { corr := [], symbols := 0, sync := 0xC6A9, type := 0, clear := [], payload := [], mic := [0, 0, 0, 0] }
def badAir : AirFrame := { runs := [(40, 0)] }
def badFrame : CanFrame := { id := 2 ^ 11, ext := false, data := [] }
def badHead : FrameHdr := { boot := 2 ^ 32, ctr := 0, payload := [], tag := zeros 8 }
def goodHead : FrameHdr := { boot := 0, ctr := 0, payload := [], tag := zeros 8 }

theorem test_ring_above_63 : Instr.wf (.sysReset 64) = false ∧ Instr.wf (.doorbell 64 0) = false ∧ Instr.wf (.lockClear 64 true) = false := by decide

theorem test_port_and_timebase_refused : ∀ i ∈ [Instr.eccError 0, .eccError 4, .eccCorrected 0, .eccCorrected 4, .bridgeFaultTest 24 true,
    .spiRegisterWrite 0x4000 [], .spiWindowWrite 0x0000 0 [], .spiWindowWrite 0xC000 0 [], .spiWindowRead 0x4000 0 0,
    .spiWindowRead 0x8000 0 0, .spiFrameAbort [] 0, .spiFrameAbort [] 16, .angleEnable 5, .angleDisable 5, .angleResync 5, .tmrSwcap 16, .tmrClr 16,
    .tmrCompareMatch 16, .tmrOverflow 16, .tmrCaptureTrigger 16, .angleEdge 4 { rises := true, onB := false } true 0, .angleIndexEdge 4 true 0, .angleGlitch 4 1,
    .angleStall 4, .asleepRegisterRead 512], i.wf = false := by decide

theorem test_lines_and_blocks_refused : ∀ i ∈ [Instr.entryArm 257 0, .ledgerStep [0, 0, 0, 0, 0, 0, 0] 0, .ledgerStep [512, 0, 0, 0, 0, 0, 0, 0] 0,
    .ledgerStep [-513, 0, 0, 0, 0, 0, 0, 0] 0, .admissionFinal 257, .entryCrossing 257 0, .liveCalStep 24 0 { i := 0, q := 0 } { i := 0, q := 0 },
    .liveCalStep 0 0 { i := 512, q := 0 } { i := 0, q := 0 }, .liveCalStep 0 0 { i := -513, q := 0 } { i := 0, q := 0 },
    .liveCalStep 0 0 { i := 0, q := 0 } { i := 0, q := 512 }, .liveCalStep 0 0 { i := 0, q := 0 } { i := 0, q := -513 },
    .replyWindowClose 256 [], .replyWindowClose 0 [{ line := 24, offsets := [[], [], [], [], []] }],
    .replyWindowClose 0 [{ line := 0, offsets := [[]] }], .lineFault 24 (.bridge 0), .headroomLimit 24 0 0,
    .blockEnd 257 { pass := [], er := [], ep := 0, samples := [] }, .blockEnd 0 { pass := [(24, [])], er := [], ep := 0, samples := [] },
    .blockEnd 0 { pass := [(0, [{ i := 512, q := 0 }])], er := [], ep := 0, samples := [] },
    .blockEnd 0 { pass := [], er := [0], ep := 0, samples := [] }], i.wf = false := by decide

theorem test_radio_and_keys_refused : ∀ i ∈ [Instr.kpAnswer badPacket, .fobData badPacket, .ztReport badPacket,
    .kpAnswer { badPacket with corr := List.replicate 16 none, mic := [] }, .rangingEnd [],
    .rangingEnd (List.replicate 80 { phi := 1024, amp := 0 }), .rangingEnd (List.replicate 80 { phi := -1, amp := 0 }), .reportAgeExpiry 32,
    .sessionLapse 32, .confirmDemand 4, .confirmHoldLapse 4, .notifyTimeout 4, .lockRequestTimeout 4, .ilkCharged 4, .ilkEchoMissing 4,
    .ilkEchoWhileLocked 4, .noticeEnd 4], i.wf = false := by decide

theorem test_island_and_chain_refused : ∀ i ∈ [Instr.wakePattern badAir, .invWalk badAir, .invAssign badAir, .quiet badAir, .resetAll badAir,
    .read badAir, .write badAir 0, .auth1 badAir, .auth1u badAir, .auth2 badAir, .hStatus badAir, .hChain badAir,
    .chainOffer (.bus 256) [], .chainData (.bus 256) [], .chainStatus (.bus 256), .chainWithdraw (.bus 256),
    .vendorProvisioning [] [] (zeros 96), .vendorProvisioning [] (zeros 32) []], i.wf = false := by decide

theorem test_twin_frames_refused : ∀ i ∈ [Instr.hello badHead 0 0, .hello goodHead 3 0, .hello goodHead 0 3, .heartbeat badHead,
    .heartbeat { goodHead with ctr := 2 ^ 64 }, .heartbeat { goodHead with tag := [] }, .mirror badHead 0 [],
    .mirror goodHead 0 [.roster 4096 []], .mirror goodHead 0 [.roster 0 [0]], .mirror goodHead 0 [.key 32 0 0 0 0 0 false],
    .mirror goodHead 0 [.slot 128 []], .mirror goodHead 0 [.param 0x10000 0], .mirror goodHead 0 [.svcDefine 256], .mirror goodHead 0 [.svcUndefine 256],
    .mirror goodHead 0 [.busAddr 255], .mirror goodHead 0 [.resyncStatus 0x10000], .mirror goodHead 0 [.only [4096] [] []], .mirrorAck badHead 0, .notify badHead 0, .notify goodHead 4,
    .notifyAck badHead 0, .notifyAck goodHead 4, .drop badHead 0, .drop goodHead 4, .noticeTable badHead 0, .sleep badHead 1, .sleep goodHead 0,
    .sleepAck badHead 1, .sleepAck goodHead 3, .failedFrame badHead 0 0, .resetReq badHead, .unpair badHead, .pairConfirm [],
    .pairKey { ephemeral := [], report := [], sig := zeros 96 }, .pairKey { ephemeral := zeros 96, report := [], sig := [] },
    .forceLockNotice badHead 0, .forceLockNotice goodHead 4], i.wf = false := by decide +kernel

theorem test_pair_hello_refused : ∀ m ∈ [{ goodHello with role := 0 }, { goodHello with role := 3 }, { goodHello with challenge := [] },
    { goodHello with oemRoot := [] }, { goodHello with devId := [] }], (Instr.pairHello m).wf = false := by decide

theorem test_bus_frames_refused : ∀ i ∈ [Instr.busRequestRx badFrame, .tpFrameRx badFrame, .addressClaimRx badFrame, .proprietaryARx badFrame,
    .busFrameRx badFrame, .busFrameRx { badFrame with id := 2 ^ 29, ext := true }, .busFrameRx { badFrame with id := 0, data := List.replicate 9 0 }, .busFrameRx { badFrame with id := 0, fd := true, data := List.replicate 65 0 },
    .busFrameRx { badFrame with id := 0, brs := true },
    .commandedAddressRx 0 256], i.wf = false := by decide

/-! ## Numbers the spec works out -/

/-- P:0x1083 is line[4].drive_peak (00 R19); P:0x3021, P:0x18D2, P:0x5003, P:0x5803, P:0x7807, P:0x0804, P:0x2801, P:0x2003, P:0x3801 are the
examples of R48, R81, R178, R205, R280, R381, R403, R414, R441. -/
theorem test_parameter_ids : lineId 4 3 = 0x1083 ∧ angleId 1 1 = 0x3021 ∧ routeId 6 18 = 0x18D2 ∧ rosterId 3 = 0x5003 ∧ hitchId 3 = 0x5803 ∧
    radioId 7 = 0x7807 ∧ pwrId 4 = 0x0804 ∧ twinId 1 = 0x2801 ∧ busId 3 = 0x2003 ∧ updId 1 = 0x3801 := by decide

/-- The frame worked to the bit under 04 R128: registers after each field, and the CRC. -/
theorem test_crc_of_the_worked_frame :
    let code := [false, false, false, false, false, false, false, true]
    let mask := [false, true, true, false]
    crcReg (code.take 3) = 0x8F1F ∧ crcReg code = 0xF1D1 ∧ crcReg (code ++ mask) = 0x8C39 ∧ crcReg (code ++ mask ++ [false]) = 0x0853 ∧
    crcReg (code ++ mask ++ List.replicate 8 false) = 0x6904 ∧ crc16 (code ++ mask ++ List.replicate 8 false) = 0x96FB := by decide +kernel

/-! ## Algorithms the spec names: the examples of their standards -/

/-- FIPS 197, appendix C.1. -/
theorem test_aes_128 : aesEnc (beBytes 16 0x000102030405060708090a0b0c0d0e0f) (beBytes 16 0x00112233445566778899aabbccddeeff) =
    beBytes 16 0x69c4e0d86a7b0430d8cdb78070b4c55a := by decide +kernel

/-- RFC 4493, examples 1 and 2. -/
theorem test_cmac : cmac (beBytes 16 0x2b7e151628aed2a6abf7158809cf4f3c) [] = beBytes 16 0xbb1d6929e95937287fa37d129b756746 ∧
    cmac (beBytes 16 0x2b7e151628aed2a6abf7158809cf4f3c) (beBytes 16 0x6bc1bee22e409f96e93d7e117393172a) =
      beBytes 16 0x070a16b46b4d4144f79bdd9dd04a287c := by decide +kernel

/-- RFC 3394, 4.1. -/
theorem test_key_wrap : keyWrap (beBytes 16 0x000102030405060708090A0B0C0D0E0F) (beBytes 16 0x00112233445566778899AABBCCDDEEFF) =
    beBytes 24 0x1FA68B0A8112B447AEF34BD8FB5A7B829D3E862371D2CFE5 := by decide +kernel

/-- RFC 3610, packet vector 1. -/
theorem test_ccm : ccmSeal (beBytes 16 0xC0C1C2C3C4C5C6C7C8C9CACBCCCDCECF) (beBytes 13 0x00000003020100A0A1A2A3A4A5) (beBytes 8 0x0001020304050607)
    (beBytes 23 0x08090A0B0C0D0E0F101112131415161718191A1B1C1D1E) 8 =
      beBytes 31 0x588C979A61C663D2F066D0C2C0F989806D5F6B61DAC38417E8D12CFDF926E0 := by decide +kernel

/-- FIPS 180-4, the message abc. -/
theorem test_sha_384 : sha384 (ascii "abc") =
    beBytes 48 0xcb00753f45a35e8bb5a03d699ac65007272c32ab0eded1631a8b605a43ff5bed8086072ba1e7cc2358baeca134c825a7 := by decide +kernel

/-- RFC 6979, A.2.6: P-384 with SHA-384, the message sample. -/
theorem test_ecdsa_p384 : ecdsaVerify
    (beBytes 48 0xEC3A4E415B4E19A4568618029F427FA5DA9A8BC4AE92E02E06AAE5286B300C64DEF8F0EA9055866064A254515480BC13 ++
      beBytes 48 0x8015D9B72D7D57244EA8EF9AC0C621896708A59367F9DFB9F54CA84B3F1C9DB1288B231C3AE0D4FE7344FD2533264720)
    (sha384 (ascii "sample"))
    (beBytes 48 0x94EDBB92A5ECB8AAD4736E56C691916B3F88140666CE9FA73D64C4EA95AD133C81A648152E44ACF96E36DD1E80FABE46 ++
      beBytes 48 0x99EF4AEB15F178CEA1FE40DB2603138F130E740A19624526203B6351D0A3A94FA329C145786E679E7B82C71A38628AC8) = true := by decide +kernel

/-- 03 R79: the reset code 32 adds 640 pF; 14 R384: a SIDING adds none. -/
theorem test_bank_centre : bankPf (modDev (fun d => { d with mode := .run }) State.reset) 0 = 640 ∧
    bankPf (modTwin (fun t => { t with role := 2 }) (modDev (fun d => { d with mode := .run }) State.reset)) 0 = 0 := by decide +kernel

/-- 14 R386: static until ready; 07 R224: ILK0_A is released in boot and low in an output that is LOCKED. -/
theorem test_pins : pinHbOut { State.reset with clk := 16000 } = .low ∧
    pinHbOut (modDev (fun d => { d with mode := .run, ready := true }) { State.reset with clk := 16000 }) = .high ∧
    pinIlkA State.reset 0 = .released ∧ pinIlkA (modDev (fun d => { d with mode := .run }) State.reset) 0 = .low := by decide +kernel

end Sys2Proof.Machine
end

section
/-!
PROOFS. The host port (11 R308 to R316): what a transaction does, by its command word, and the statements on unassigned addresses and on a
transaction that CS_N cuts off.
-/
namespace Sys2Proof.Machine

/-! ## SPI_ERR (R323) -/

@[simp] theorem spiError_win (b : Nat) (s : State) : (spiError b s).win = s.win := rfl
@[simp] theorem spiError_dev (b : Nat) (s : State) : (spiError b s).dev = s.dev := rfl
@[simp] theorem spiError_pwr (b : Nat) (s : State) : (spiError b s).pwr = s.pwr := rfl
@[simp] theorem spiError_spiErr (b : Nat) (s : State) : (spiError b s).port.spiErr = s.port.spiErr ||| (1 <<< b) := rfl

/-- Settling reads and changes nothing of SPI_ERR. -/
theorem settleFrom_spiError (n b : Nat) (s : State) : settleFrom n (spiError b s) = spiError b (settleFrom n s) := by
  induction n generalizing s with
  | zero => rfl
  | succ n ih =>
    have next : nextRing (spiError b s) = nextRing s := rfl
    simp only [settleFrom, next]
    cases nextRing s with
    | none => rfl
    | some r =>
      have own : headOwn (spiError b s) r = headOwn s r := rfl
      have op : headOpcode (spiError b s) r = headOpcode s r := rfl
      have error : ringError r 1 (spiError b s) = spiError b (ringError r 1 s) := rfl
      have answer (st : Nat) : done (headHeld (spiError b s) r) st (takeHead r (spiError b s)) =
          spiError b (done (headHeld s r) st (takeHead r s)) := rfl
      simp only [own, op, error, answer, spiError_dev, ih]
      split
      · rfl
      · split <;> rfl

theorem settle_spiError (b : Nat) (s : State) : settle (spiError b s) = spiError b (settle s) := settleFrom_spiError _ b s

/-! ## Words of a window transaction (R310, R312) -/

/-- Whole words of a window write are written before what follows them. -/
theorem writeWin_append (inc : Bool) (i : Nat) (ds es : List Half) (s : State) (h : ds.length % 2 = 0) :
    writeWin inc i (ds ++ es) s = writeWin inc ((winStep inc)^[ds.length / 2] i) es (writeWin inc i ds s) := by
  match ds with
  | [] => rfl
  | [_] => simp at h
  | lo :: hi :: ds =>
    simp only [List.length_cons] at h
    have half : (ds.length + 1 + 1) / 2 = ds.length / 2 + 1 := by omega
    simp only [List.cons_append, writeWin, List.length_cons, half, Function.iterate_succ_apply]
    exact writeWin_append inc _ ds es _ (by omega)

/-- A low half alone reaches no byte of the window, even by what settles after it. -/
theorem settle_writeWin_low_win (inc : Bool) (i : Nat) (lo : Half) (s : State) :
    (settle (writeWin inc i [lo] s)).win = (settle s).win := by
  simp only [writeWin, settle_spiError, spiError_win]
  split
  · rw [settle_spiError, spiError_win]
  · rfl

theorem writeWin_low_dev (inc : Bool) (i : Nat) (lo : Half) (s : State) : (writeWin inc i [lo] s).dev = s.dev := by
  simp only [writeWin, spiError_dev]
  split <;> rfl

theorem writeWin_low_pwr (inc : Bool) (i : Nat) (lo : Half) (s : State) : (writeWin inc i [lo] s).pwr = s.pwr := by
  simp only [writeWin, spiError_pwr]
  split <;> rfl

theorem hostReadWord_win (i : Nat) (s : State) : (hostReadWord i s).1.win = s.win := by
  unfold hostReadWord
  split
  · rfl
  · dsimp only
    split <;> rfl

theorem readWin_win (inc : Bool) (n i : Nat) (s : State) : (readWin inc n i s).1.win = s.win := by
  match n with
  | 0 => rfl
  | 1 =>
    simp only [readWin]
    split
    · rfl
    · exact hostReadWord_win i s
  | n + 2 =>
    simp only [readWin, readWin_win inc n]
    split
    · rfl
    · exact hostReadWord_win i s

/-! ## A transaction, by its command word (R309, R310) -/

theorem spiWords_regWrite {c : Half} (hres : cmdReserved c = false) (hwin : cmdWin c = false) (hrd : cmdRead c = false)
    (ds : List Half) (s : State) :
    spiWords (c :: ds) s = setMiso (List.replicate ds.length 0) (writeRegs (cmdInc c) (cmdAddr c) ds s) := by
  simp [spiWords, hres, hwin, hrd]

theorem spiWords_regRead {c : Half} (hres : cmdReserved c = false) (hwin : cmdWin c = false) (hrd : cmdRead c = true)
    (ds : List Half) (s : State) :
    spiWords (c :: ds) s = setMiso (List.replicate (min 1 ds.length) 0 ++ (readRegs (cmdInc c) (ds.length - 1) (cmdAddr c) s).2)
      (readRegs (cmdInc c) (ds.length - 1) (cmdAddr c) s).1 := by
  simp [spiWords, hres, hwin, hrd]

theorem spiWords_winWrite {c : Half} (hres : cmdReserved c = false) (hwin : cmdWin c = true) (hrd : cmdRead c = false)
    (i : Half) (ds : List Half) (s : State) :
    spiWords (c :: i :: ds) s = setMiso (List.replicate (ds.length + 1) 0) (settle (writeWin (cmdInc c) i.toNat ds s)) := by
  simp [spiWords, hres, hwin, hrd]

theorem spiWords_winRead {c : Half} (hres : cmdReserved c = false) (hwin : cmdWin c = true) (hrd : cmdRead c = true)
    (i : Half) (ds : List Half) (s : State) :
    spiWords (c :: i :: ds) s = setMiso (0 :: List.replicate (min 1 ds.length) 0 ++ (readWin (cmdInc c) (ds.length - 1) i.toNat s).2)
      (readWin (cmdInc c) (ds.length - 1) i.toNat s).1 := by
  simp [spiWords, hres, hwin, hrd]

/-- On a live port a transaction is what its words do after the fall of CS_N, with HOST_STATUS first on MISO. -/
theorem spiRun_eq_miso {s t : State} {c : Half} {ds out : List Half} (hs : spiAlive s = true)
    (h : spiWords (c :: ds) (wakeEvent 0 s) = setMiso out t) : spiRun (c :: ds) s = miso (wakeEvent 0 s) out t := by
  simp only [spiRun, hs, h]
  rfl

/-! ## The command word of an address (R309) -/

/-- The fields of a command word that is a register address under rd alone. -/
theorem cmdFields_of_toNat {c : Half} {rd : Bool} {a : Nat} (ha : a < 512) (hc : c.toNat = 0x8000 * rd.toNat + a) :
    cmdReserved c = false ∧ cmdWin c = false ∧ cmdRead c = rd ∧ cmdAddr c = a := by
  have hwin : cmdWin c = false := by
    simp only [cmdWin, BitVec.getLsbD, Nat.testBit_eq_decide_div_mod_eq, decide_eq_false_iff_not]
    omega
  refine ⟨?_, hwin, ?_, ?_⟩
  · simp only [cmdReserved, hwin, Bool.false_and, Bool.or_false, bne_eq_false_iff_eq]
    omega
  · have bit : c.toNat / 0x8000 % 2 = rd.toNat := by
      have := rd.toNat_le
      omega
    cases rd <;> simp [cmdRead, BitVec.getLsbD, Nat.testBit_eq_decide_div_mod_eq, bit]
  · simp only [cmdAddr]
    omega

theorem cmdFields_ofNat {a : Nat} (ha : a < 512) :
    cmdReserved (BitVec.ofNat 16 a) = false ∧ cmdWin (BitVec.ofNat 16 a) = false ∧ cmdRead (BitVec.ofNat 16 a) = false ∧
    cmdAddr (BitVec.ofNat 16 a) = a := by
  apply cmdFields_of_toNat ha
  simp only [BitVec.toNat_ofNat, Bool.toNat_false]
  omega

theorem cmdFields_ofNat_read {a : Nat} (ha : a < 512) :
    cmdReserved (BitVec.ofNat 16 (0x8000 + a)) = false ∧ cmdWin (BitVec.ofNat 16 (0x8000 + a)) = false ∧
    cmdRead (BitVec.ofNat 16 (0x8000 + a)) = true ∧ cmdAddr (BitVec.ofNat 16 (0x8000 + a)) = a := by
  apply cmdFields_of_toNat ha
  simp only [BitVec.toNat_ofNat, Bool.toNat_true]
  omega

/-- A register written on its own, on a live port. -/
theorem exec_spiRegisterWrite_one {s : State} {a : Nat} (d : Half) (hs : spiAlive s = true) (ha : a < 512) :
    exec (.spiRegisterWrite (BitVec.ofNat 16 a) [d]) s = .next (miso (wakeEvent 0 s) [0] (regWrite a d (wakeEvent 0 s))) := by
  obtain ⟨hres, hwin, hrd, haddr⟩ := cmdFields_ofNat ha
  have run : spiRun [BitVec.ofNat 16 a, d] s = miso (wakeEvent 0 s) [0] (regWrite a d (wakeEvent 0 s)) := by
    apply spiRun_eq_miso hs
    rw [spiWords_regWrite hres hwin hrd, haddr]
    rfl
  simp only [exec, execSpiRegisterWrite, hwin, run, Bool.false_eq_true, if_false]

/-- A register read on its own, on a live port. -/
theorem exec_asleepRegisterRead {s : State} {a : Nat} (hs : spiAlive s = true) (ha : a < 512) :
    exec (.asleepRegisterRead a) s =
      .next (miso (wakeEvent 0 s) [0, (regRead a (wakeEvent 0 s)).2] (regRead a (wakeEvent 0 s)).1) := by
  obtain ⟨hres, hwin, hrd, haddr⟩ := cmdFields_ofNat_read ha
  have run : readOne a s = miso (wakeEvent 0 s) [0, (regRead a (wakeEvent 0 s)).2] (regRead a (wakeEvent 0 s)).1 := by
    rw [readOne, Nat.mod_eq_of_lt ha]
    apply spiRun_eq_miso hs
    rw [spiWords_regRead hres hwin hrd, haddr]
    rfl
  simp only [exec, execAsleepRegisterRead, ha, run, if_true]

/-! ## Unassigned addresses (R316) -/

theorem regAsleep_of_unassigned {a : Nat} (h : unassignedReg a = true) (s : State) : regAsleep s a = false := by
  simp [regAsleep, h]

theorem regWrite_of_unassigned {a : Nat} (h : unassignedReg a = true) (d : Half) (s : State) : regWrite a d s = s := by
  simp [regWrite, h]

theorem ne_of_unassigned {a b : Nat} (h : unassignedReg a = true) (hb : unassignedReg b = false) : a ≠ b := by
  rintro rfl
  exact Bool.false_ne_true (hb.symm.trans h)

/-- No count that a read clears stands at an unassigned address, so that the read leaves the state as it is. -/
theorem regRead_of_unassigned {a : Nat} (h : unassignedReg a = true) (s : State) : regRead a s = (s, 0) := by
  have value : regValue s a = 0 := by simp [regValue, h]
  have viol : a ≠ 0x0E2 := ne_of_unassigned h rfl
  have lost : a ≠ 0x0E7 := ne_of_unassigned h rfl
  have heat : a ≠ 0x188 := ne_of_unassigned h rfl
  have link : a ≠ 0x1A6 := ne_of_unassigned h rfl
  simp [regRead, regAsleep_of_unassigned h, clearsOnRead, value, viol, lost, heat, link]

/-- Settles O14: the register map answers an unassigned address before it looks at the state. -/
theorem unassignedRegisters : Obligations.UnassignedRegisters := by
  intro s a d hs ha range
  have un : unassignedReg a = true := by simpa [unassignedReg, and_assoc, or_assoc] using range
  constructor
  · rw [exec_asleepRegisterRead hs ha, regRead_of_unassigned un]
  · rw [exec_spiRegisterWrite_one d hs ha, regWrite_of_unassigned un]

/-! ## A word cut off (R313) -/

theorem cutHighHalf_regCommand {c : Half} (hwin : cmdWin c = false) (ds : List Half) : cutHighHalf (c :: ds) = false := by
  cases ds <;> simp [cutHighHalf, hwin]

theorem cutHighHalf_winRead {c : Half} (hrd : cmdRead c = true) (ds : List Half) : cutHighHalf (c :: ds) = false := by
  cases ds <;> simp [cutHighHalf, hrd]

theorem cutHighHalf_winWrite {c : Half} (hres : cmdReserved c = false) (hwin : cmdWin c = true) (hrd : cmdRead c = false)
    (i : Half) (ds : List Half) : cutHighHalf (c :: i :: ds) = (ds.length % 2 == 1) := by
  simp [cutHighHalf, hres, hwin, hrd]

theorem exec_spiFrameAbort {s : State} {k : Nat} (hs : spiAlive s = true) (h1 : 1 ≤ k) (h15 : k ≤ 15) (ws : List Half) :
    exec (.spiFrameAbort ws k) s =
      .next (spiError SPI_FRAME (if cutHighHalf ws then spiError SPI_PARTIAL (spiRun ws s) else spiRun ws s)) := by
  have hk : k ≠ 0 := by omega
  have hk' : ¬ 15 < k := by omega
  simp [exec, execSpiFrameAbort, hs, hk, hk']

/-- Where no high half is cut off, the abort only sets frame over what the whole words did. -/
theorem exec_spiFrameAbort_frame {s : State} {k : Nat} {ws : List Half} (hs : spiAlive s = true) (h1 : 1 ≤ k) (h15 : k ≤ 15)
    (hc : cutHighHalf ws = false) :
    exec (.spiFrameAbort ws k) s =
      .next { spiRun ws s with port := { (spiRun ws s).port with spiErr := (spiRun ws s).port.spiErr ||| 1 } } := by
  rw [exec_spiFrameAbort hs h1 h15, hc]
  rfl

/-- Settles O18: settling commutes with SPI_ERR, so that a low half alone is met as if it had not been sent. -/
theorem frameAbortDiscardsWord : Obligations.FrameAbortDiscardsWord := by
  intro s c i lo ds k hs h1 h15 hres
  refine ⟨fun hrd hwin => ?_, fun hrd hwin even => ?_, fun hrd hwin => ?_⟩
  · refine ⟨spiRun (c :: ds) s, ?_, exec_spiFrameAbort_frame hs h1 h15 (cutHighHalf_regCommand hwin ds)⟩
    simp [exec, execSpiRegisterWrite, hwin]
  · have whole := spiRun_eq_miso hs (spiWords_winWrite hres hwin hrd i ds (wakeEvent 0 s))
    have cut := spiRun_eq_miso hs (spiWords_winWrite hres hwin hrd i (ds ++ [lo]) (wakeEvent 0 s))
    rw [writeWin_append _ _ _ _ _ even] at cut
    have evenCut : cutHighHalf (c :: i :: ds) = false := by simp [cutHighHalf_winWrite hres hwin hrd, even]
    have oddCut : cutHighHalf (c :: i :: (ds ++ [lo])) = true := by
      simp only [cutHighHalf_winWrite hres hwin hrd, List.length_append, List.length_singleton, beq_iff_eq]
      omega
    refine ⟨spiRun (c :: i :: ds) s, spiError SPI_FRAME (spiError SPI_PARTIAL (spiRun (c :: i :: (ds ++ [lo])) s)), ?_,
      exec_spiFrameAbort_frame hs h1 h15 evenCut, ?_, ?_, ?_, ?_, ?_, ?_⟩
    · simp [exec, execSpiWindowWrite, hwin, hrd]
    · rw [exec_spiFrameAbort hs h1 h15, oddCut]
      rfl
    · rw [spiError_win, spiError_win, cut, whole]
      exact settle_writeWin_low_win _ _ _ _
    · simp [SPI_FRAME]
    · simp [SPI_PARTIAL]
    · rw [spiError_dev, spiError_dev, cut, whole]
      simp [miso, writeWin_low_dev]
    · rw [spiError_pwr, spiError_pwr, cut, whole]
      simp [miso, writeWin_low_pwr]
  · refine ⟨_, exec_spiFrameAbort_frame hs h1 h15 (cutHighHalf_winRead hrd (i :: ds)), ?_, by simp⟩
    rw [spiRun_eq_miso hs (spiWords_winRead hres hwin hrd i ds (wakeEvent 0 s))]
    exact readWin_win _ _ _ _

end Sys2Proof.Machine
end

section
/-!
PROOFS. A sleep entry that is refused (13 R369 to R372, 14 R402): what a refusal does before and after the held PWR_SLEEP completes, and the
statement on refusals.
-/
namespace Sys2Proof.Machine

/-! ## What resumes when an entry is refused -/

/-- `u`, with the events that wait, the twin link and the engine jobs and nonces of its frames, the wake status, the maintenance token and
the draws of `s`. -/
def resumedFrom (s u : State) : State :=
  { u with
    port := { u.port with evtQ := s.port.evtQ, evtLost := s.port.evtLost }
    fresh := s.fresh
    twin := s.twin
    sec := { u.sec with nonceCtr := s.sec.nonceCtr, retired := s.sec.retired, engineJobs := s.sec.engineJobs }
    pwr := { u.pwr with wakeSrc := s.pwr.wakeSrc, lastWake := s.pwr.lastWake, replayed := s.pwr.replayed, wakeReplays := s.pwr.wakeReplays }
    mnt := s.mnt
    free := s.free }

/-- From `s` to `u` at most an event was posted, frames went out to the twin, the token was granted or a wake was replayed (R371, R372): no
descriptor completed and no job began. -/
def Resumed (u s : State) : Prop := resumedFrom s u = s

theorem Resumed.refl (s : State) : Resumed s s := rfl

theorem Resumed.trans {a b c : State} (hab : Resumed a b) (hbc : Resumed b c) : Resumed a c := by
  unfold Resumed at *
  calc resumedFrom c a = resumedFrom c (resumedFrom b a) := rfl
    _ = resumedFrom c b := by rw [hab]
    _ = c := hbc

theorem Resumed.foldl {α : Type} {f : State → α → State} (hf : ∀ s x, Resumed (f s x) s) (l : List α) (s : State) :
    Resumed (l.foldl f s) s := by
  induction l generalizing s with
  | nil => exact .refl s
  | cons x xs ih => exact (ih (f s x)).trans (hf s x)

theorem Resumed.win {u s : State} (r : Resumed u s) : u.win = s.win := congrArg (·.win) r
theorem Resumed.clk {u s : State} (r : Resumed u s) : u.clk = s.clk := congrArg (·.clk) r
theorem Resumed.dev {u s : State} (r : Resumed u s) : u.dev = s.dev := congrArg (·.dev) r
theorem Resumed.held {u s : State} (r : Resumed u s) : u.port.held = s.port.held := congrArg (·.port.held) r
theorem Resumed.rings {u s : State} (r : Resumed u s) : u.port.rings = s.port.rings := congrArg (·.port.rings) r
theorem Resumed.jobs {u s : State} (r : Resumed u s) : u.sec.jobs = s.sec.jobs := congrArg (·.sec.jobs) r
theorem Resumed.slotWrites {u s : State} (r : Resumed u s) : u.sec.slotWrites = s.sec.slotWrites := congrArg (·.sec.slotWrites) r
theorem Resumed.sleepAborted {u s : State} (r : Resumed u s) : u.pwr.sleepAborted = s.pwr.sleepAborted := congrArg (·.pwr.sleepAborted) r
theorem Resumed.sleepAborts {u s : State} (r : Resumed u s) : u.pwr.sleepAborts = s.pwr.sleepAborts := congrArg (·.pwr.sleepAborts) r
theorem Resumed.lastRefuser {u s : State} (r : Resumed u s) : u.pwr.lastRefuser = s.pwr.lastRefuser := congrArg (·.pwr.lastRefuser) r

theorem Resumed.firstPost_eq {u s : State} (r : Resumed u s) (ring : Nat) : firstPost u ring = firstPost s ring := by
  simp only [firstPost, r.held]

theorem raiseTwin_resumed (b : Nat) (s : State) : Resumed (raiseTwin b s) s := rfl
theorem raiseWake_resumed (bits : BitVec 5) (s : State) : Resumed (raiseWake bits s) s := rfl
theorem modTwin_resumed (f : Twin → Twin) (s : State) : Resumed (modTwin f s) s := rfl
theorem modMnt_resumed (f : Maint → Maint) (s : State) : Resumed (modMnt f s) s := rfl
theorem used_resumed (n : Nat) (s : State) : Resumed (used n s) s := rfl
theorem aesJob_resumed (s : State) : Resumed (aesJob s) s := rfl
theorem bumpNonce_resumed (s : State) : Resumed (bumpNonce s) s := rfl
theorem retire_resumed (s : State) : Resumed (retire s) s := rfl

/-- With no descriptor posted on RING3, an event waits or is lost (11 R334). -/
theorem Resumed.posts {u s : State} (r : Resumed u s) (h : firstPost s 3 = none) (code : Nat) (bs : List Byte) :
    Resumed (postEvent code bs u) s := by
  refine Resumed.trans ?_ r
  simp only [postEvent, (r.firstPost_eq 3).trans h]
  split <;> rfl

/-! ### Frames to the twin (14 R387, R396) -/

theorem noteMirror_resumed (m : TwinMsg) (s : State) : Resumed (noteMirror m s) s := by
  unfold noteMirror
  split <;> rfl

theorem sendTwin_resumed (m : TwinMsg) (s : State) : Resumed (sendTwin m s) s := by
  unfold sendTwin
  split
  · exact (bumpNonce_resumed _).trans ((aesJob_resumed _).trans ((modTwin_resumed _ _).trans (noteMirror_resumed m s)))
  · exact retire_resumed s

theorem sendMirror_resumed (q : Nat) (recs : List MirrorRec) (s : State) : Resumed (sendMirror q recs s) s := by
  unfold sendMirror sendTwinUp
  dsimp only
  split
  · exact .refl s
  · split
    · exact sendTwin_resumed _ s
    · exact .refl s

theorem sendWaiting_resumed (s : State) : Resumed (sendWaiting s) s := by
  unfold sendWaiting
  split
  · apply Resumed.foldl
    intro t b
    split
    · exact sendMirror_resumed _ _ t
    · exact .refl t
  · exact .refl s

/-! ### The twin supervisor starts anew (R369; 14 R388) -/

theorem linkGoesDown_resumed {s : State} (h : firstPost s 3 = none) : Resumed (linkGoesDown s) s := by
  unfold linkGoesDown
  split
  · exact ((raiseTwin_resumed _ _).trans (modTwin_resumed _ _)).posts h _ _
  · exact .refl s

theorem corruptSlot_three_resumed {s : State} (h : firstPost s 3 = none) : Resumed (corruptSlot 3 s) s :=
  (Resumed.refl s).posts h 0x8040 (payload [3])

theorem linkAttempt_resumed {s : State} (h : firstPost s 3 = none) : Resumed (linkAttempt s) s := by
  unfold linkAttempt
  split
  · exact corruptSlot_three_resumed h
  · split
    · exact retire_resumed s
    · exact (sendTwin_resumed _ _).trans ((bumpNonce_resumed _).trans ((used_resumed _ _).trans (modTwin_resumed _ _)))

theorem restartTwin_resumed {s : State} (h : firstPost s 3 = none) : Resumed (restartTwin s) s := by
  unfold restartTwin
  split
  · have down := (modTwin_resumed (fun t => { t with hbClk := s.clk, frameClk := s.clk }) _).trans (linkGoesDown_resumed h)
    exact (linkAttempt_resumed ((down.firstPost_eq 3).trans h)).trans down
  · exact .refl s

/-! ### The maintenance token (12 R354) -/

theorem startResync_resumed (s : State) : Resumed (startResync s) s := (sendMirror_resumed _ _ _).trans (modTwin_resumed _ s)

theorem startActivity_resumed (a : Nat) (mask : BitVec 24) (s : State) : Resumed (startActivity a mask s) s := by
  unfold startActivity
  refine Resumed.trans ?_ (modMnt_resumed (fun m => { m with running := a }) s)
  dsimp only
  split
  · exact modMnt_resumed _ _
  · split
    · exact startResync_resumed _
    · exact .refl _

theorem grantToken_resumed (s : State) : Resumed (grantToken s) s := by
  unfold grantToken
  split
  · split
    · exact (startActivity_resumed _ _ _).trans (modMnt_resumed _ s)
    · exact .refl s
  · exact .refl s

/-! ## What waits while an entry runs -/

/-- No descriptor is posted on RING3, and nothing held waits for an engine or for a key in use (10 R287; 16 R443). -/
structure NothingWaits (s : State) : Prop where
  posted : firstPost s 3 = none
  jobs : ∀ j ∈ s.sec.jobs, j.running = true
  writes : s.sec.slotWrites = []
  held : ∀ h ∈ s.port.held, (∀ slot, h.kind ≠ .destroy slot) ∧ ∀ fails, h.kind ≠ .selftest fails

theorem NothingWaits.of_held_subset {s u : State} (n : NothingWaits s) (held : u.port.held ⊆ s.port.held) (jobs : u.sec.jobs = s.sec.jobs)
    (writes : u.sec.slotWrites = s.sec.slotWrites) : NothingWaits u where
  posted := by
    have none := List.find?_eq_none.1 n.posted
    exact List.find?_eq_none.2 fun x hx => none x (held hx)
  jobs := by rw [jobs]; exact n.jobs
  writes := writes.trans n.writes
  held x hx := n.held x (held hx)

theorem NothingWaits.resumed {s u : State} (n : NothingWaits s) (r : Resumed u s) : NothingWaits u :=
  n.of_held_subset (by rw [r.held]; exact List.Subset.refl _) r.jobs r.slotWrites

theorem finish_held (h : Held) (st : Nat) (w4 w5 w6 : Word) (n : Nat) (s : State) :
    (finish h st w4 w5 w6 n s).port.held = s.port.held.filter fun x => !(x.ring == h.ring && x.idx == h.idx) := rfl

theorem NothingWaits.finished {s : State} (n : NothingWaits s) (h : Held) (st : Nat) (w4 w5 w6 : Word) (k : Nat) :
    NothingWaits (finish h st w4 w5 w6 k s) :=
  n.of_held_subset (by rw [finish_held]; exact List.filter_sublist.subset) (by rw [finish_sec]) (by rw [finish_sec])

theorem foldl_eq_self {α β : Type} {f : β → α → β} {b : β} {l : List α} (h : ∀ x ∈ l, f b x = b) : l.foldl f b = b := by
  induction l with
  | nil => rfl
  | cons x xs ih =>
    rw [List.foldl_cons, h x List.mem_cons_self]
    exact ih fun y hy => h y (List.mem_cons_of_mem x hy)

theorem settleDestroys_of_nothingWaits {s : State} (n : NothingWaits s) : settleDestroys s = s := by
  apply foldl_eq_self
  intro h hh
  obtain ⟨undestroyed, -⟩ := n.held h hh
  split
  next kind => exact absurd kind (undestroyed _)
  · rfl

theorem settleSelftests_of_nothingWaits {s : State} (n : NothingWaits s) : settleSelftests s = s := by
  apply foldl_eq_self
  intro h hh
  obtain ⟨-, untested⟩ := n.held h hh
  split
  next kind => exact absurd kind (untested _)
  · rfl

theorem settleStores_of_nothingWaits {s : State} (n : NothingWaits s) : settleStores s = s := by
  have same : { s.sec with slotWrites := [] } = s.sec := by rw [← n.writes]
  simp only [settleStores, n.writes, List.partition_eq_filter_filter, List.filter_nil, List.foldl_nil, modSec, same]

/-- A job that runs has no turn to start (13 R368). -/
theorem pumpJobs_of_nothingWaits {s : State} (n : NothingWaits s) : pumpJobs s = s := by
  apply foldl_eq_self
  intro j _
  have idle : (findJob s j.id).any (jobTurn s) = false := by
    cases found : findJob s j.id with
    | none => rfl
    | some k => simp [jobTurn, n.jobs k (List.mem_of_find?_eq_some found)]
  simp [idle]

theorem freed_resumed {s : State} (n : NothingWaits s) : Resumed (freed s) s := by
  rw [freed, settleDestroys_of_nothingWaits n, settleStores_of_nothingWaits n, pumpJobs_of_nothingWaits n, settleSelftests_of_nothingWaits n]
  exact sendWaiting_resumed s

/-! ## The refusal, step by step (R371, R372) -/

/-- The device is in RUN again and has noted who refused. -/
def refusalNoted (v : Word) (s : State) : State :=
  modPwr (fun p => { p with sleepAborted := true, sleepAborts := p.sleepAborts + 1, lastRefuser := v, latched := 0, abortClk := some s.clk })
    (raise 0x189 4 (modDev (fun d => { d with mode := .run }) s))

/-- A twin that was sent SLEEP finds the link coming up anew. -/
def twinResumed (s : State) : State :=
  if s.twin.sleepSentClk.isSome then restartTwin (modTwin (fun t => { t with sleepSentClk := none }) s) else s

/-- What was latched during the entry is replayed. -/
def latchedReplayed (bits : BitVec 5) (s : State) : State := if bits = 0 then s else replayWake bits s

theorem abortEntry_eq (id phase : Nat) (s : State) :
    abortEntry id phase s =
      settle (grantToken (freed (latchedReplayed s.pwr.latched
        (completeWhere (fun h => h.kind == .sleepEntry) ST_SLEEP_ABORTED (w (id + 256 * phase)) 0 0
          (twinResumed (refusalNoted (w (id + 256 * phase)) s)))))) := rfl

theorem twinResumed_resumed {s : State} (h : firstPost s 3 = none) : Resumed (twinResumed s) s := by
  unfold twinResumed
  split
  · have sent := modTwin_resumed (fun t => { t with sleepSentClk := none }) s
    exact (restartTwin_resumed ((sent.firstPost_eq 3).trans h)).trans sent
  · exact .refl s

theorem modPwr_replay_resumed (bits : BitVec 5) (s : State) :
    Resumed (modPwr (fun p => { p with lastWake := lowestWake bits, replayed := true, wakeReplays := p.wakeReplays + 1 }) s) s := rfl

theorem latchedReplayed_resumed {s : State} (h : firstPost s 3 = none) (bits : BitVec 5) : Resumed (latchedReplayed bits s) s := by
  unfold latchedReplayed
  split
  · exact .refl s
  · exact ((modPwr_replay_resumed bits _).trans (raiseWake_resumed bits s)).posts h _ _

/-- What follows the completion of the held PWR_SLEEP. -/
theorem grantToken_freed_latchedReplayed_resumed {s : State} (n : NothingWaits s) (bits : BitVec 5) :
    Resumed (grantToken (freed (latchedReplayed bits s))) s := by
  have replay := latchedReplayed_resumed n.posted bits
  exact (grantToken_resumed _).trans ((freed_resumed (n.resumed replay)).trans replay)

/-! ## The held PWR_SLEEP completes (11 R330) -/

theorem finish_win (h : Held) (st : Nat) (w4 w5 w6 : Word) (n : Nat) (s : State) :
    (finish h st w4 w5 w6 n s).win =
      (writeBack ((getRing s h.ring).base + 32 * h.idx) (BitVec.ofNat 32 (h.seq * 65536 + h.opcode)) none w4 w5 w6
        (BitVec.ofNat 32 (n * 65536 + st)) s).win := rfl

theorem finish_completed {s : State} {h : Held} (inside : (getRing s h.ring).base + 32 * h.idx + 32 ≤ windowBytes) (canonical : Mem.wf s.win = true)
    (st : Nat) (w4 w5 w6 : Word) (n : Nat) : Completed s h st w4 n (finish h st w4 w5 w6 n s) := by
  obtain ⟨word0, word4, -, -, word7, -⟩ := writeBack_window (w0 := BitVec.ofNat 32 (h.seq * 65536 + h.opcode)) (w4 := w4) (w5 := w5) (w6 := w6)
    (w7 := BitVec.ofNat 32 (n * 65536 + st)) canonical inside
  simp only [Completed, winWord, finish_win]
  refine ⟨word0, word4, word7, List.find?_eq_none.2 fun x hx => ?_⟩
  rw [finish_held] at hx
  have other := (List.mem_filter.1 hx).2
  rw [Bool.not_eq_true'] at other
  simp [other]

/-- Of a state that completed the descriptor, what resumes afterwards leaves it completed; of the state it was held in, the rings count. -/
theorem Completed.of_resumed {s t u v : State} {h : Held} {st n : Nat} {w4 : Word} (c : Completed t h st w4 n u) (after : Resumed v u)
    (rings : t.port.rings = s.port.rings) : Completed s h st w4 n v := by
  obtain ⟨word0, word4, word7, gone⟩ := c
  simp only [Completed, winWord, findHeld, getRing, after.win, after.held, ← rings]
  exact ⟨word0, word4, word7, gone⟩

theorem completeWhere_of_filter_eq {p : Held → Bool} {s : State} {h : Held} (only : s.port.held.filter p = [h]) (st : Nat) (w4 w5 w6 : Word) :
    completeWhere p st w4 w5 w6 s = finish h st w4 w5 w6 0 s := by
  rw [completeWhere, only]
  rfl

/-! ## What a refused entry leaves -/

/-- `u`, with all that a refused entry may change as it is in `s`. -/
def entryUndone (s u : State) : State :=
  { u with
    clk := s.clk
    tb := s.tb
    dev := s.dev
    pwr := s.pwr
    mnt := s.mnt
    free := s.free
    port := s.port
    win := s.win
    fresh := s.fresh
    twin := s.twin
    sec := { u.sec with nonceCtr := s.sec.nonceCtr, retired := s.sec.retired, engineJobs := s.sec.engineJobs } }

/-- `u` is `s` but for what a refused entry may change: beyond the port, the window and the twin link, the clock and what it drives, the phase,
the power block, the maintenance token and the draws. -/
def ApartEntry (u s : State) : Prop :=
  ApartLink { u with clk := s.clk, tb := s.tb, dev := s.dev, pwr := s.pwr, mnt := s.mnt, free := s.free } s

theorem apartEntry_iff {u s : State} : ApartEntry u s ↔ entryUndone s u = s := Iff.rfl

theorem ApartEntry.trans {a b c : State} (hab : ApartEntry a b) (hbc : ApartEntry b c) : ApartEntry a c := by
  rw [apartEntry_iff] at *
  calc entryUndone c a = entryUndone c (entryUndone b a) := rfl
    _ = entryUndone c b := by rw [hab]
    _ = c := hbc

theorem apartEntry_of_eq {u v s : State} (h : v = s) (undone : entryUndone s u = entryUndone s v) : ApartEntry u s := by
  subst h
  exact undone

theorem ApartPort.apartEntry {u s : State} (h : ApartPort u s) : ApartEntry u s := apartEntry_of_eq h rfl

theorem Resumed.apartEntry {u s : State} (r : Resumed u s) : ApartEntry u s := apartEntry_of_eq r rfl

theorem refusalNoted_apartEntry (v : Word) (s : State) : ApartEntry (refusalNoted v s) s := rfl

/-- In `u` the entry of `h` that ran in `s` stands refused by a participant in a phase, as R371 gives it. -/
def EntryRefused (s : State) (h : Held) (id phase : Nat) (u : State) : Prop :=
  winWord u ((getRing s h.ring).base + 32 * h.idx + 16) = BitVec.ofNat 32 (id + 256 * phase) ∧
  winWord u ((getRing s h.ring).base + 32 * h.idx + 28) = BitVec.ofNat 32 ST_SLEEP_ABORTED ∧ findHeld u h.ring h.idx = none ∧
  u.pwr.sleepAborted = true ∧ u.pwr.sleepAborts = s.pwr.sleepAborts + 1 ∧ u.pwr.lastRefuser = BitVec.ofNat 32 (id + 256 * phase) ∧
  u.dev = { s.dev with mode := .run } ∧ ApartEntry u s

/-- An entry runs: `h` is its one PWR_SLEEP, inside the window, and nothing else waits. -/
structure EntryHeld (s : State) (h : Held) : Prop where
  only : (s.port.held.filter fun x => x.kind == .sleepEntry) = [h]
  inside : (getRing s h.ring).base + 32 * h.idx + 32 ≤ windowBytes
  canonical : Mem.wf s.win = true
  waits : NothingWaits s

/-- A refusal, in whatever phase and by whatever participant, undoes the entry and completes its PWR_SLEEP. -/
theorem abortEntry_refused {s : State} {h : Held} (e : EntryHeld s h) (id phase : Nat) :
    ∃ u, abortEntry id phase s = settle u ∧ EntryRefused s h id phase u ∧ u.clk = s.clk := by
  let v := w (id + 256 * phase)
  let linked := twinResumed (refusalNoted v s)
  have before : Resumed linked (refusalNoted v s) := twinResumed_resumed e.waits.posted
  have only : (linked.port.held.filter fun x => x.kind == .sleepEntry) = [h] := by rw [before.held]; exact e.only
  have rings : linked.port.rings = s.port.rings := before.rings
  have inside : (getRing linked h.ring).base + 32 * h.idx + 32 ≤ windowBytes := by rw [getRing, rings]; exact e.inside
  have canonical : Mem.wf linked.win = true := by rw [before.win]; exact e.canonical
  have quiet : NothingWaits (refusalNoted v s) := e.waits.of_held_subset (List.Subset.refl _) rfl rfl
  have after := grantToken_freed_latchedReplayed_resumed ((quiet.resumed before).finished h ST_SLEEP_ABORTED v 0 0 0) s.pwr.latched
  obtain ⟨-, word4, word7, gone⟩ := (finish_completed inside canonical ST_SLEEP_ABORTED v 0 0 0).of_resumed after rings
  refine ⟨_, by rw [abortEntry_eq, completeWhere_of_filter_eq only], ⟨word4, by simpa using word7, gone, ?_, ?_, ?_, ?_, ?_⟩, ?_⟩
  · rw [after.sleepAborted, finish_pwr, before.sleepAborted]
    rfl
  · rw [after.sleepAborts, finish_pwr, before.sleepAborts]
    rfl
  · rw [after.lastRefuser, finish_pwr, before.lastRefuser]
    rfl
  · rw [after.dev, finish_dev, before.dev]
    rfl
  · exact after.apartEntry.trans ((finish_apart _ _ _ _ _ _ _).apartEntry.trans (before.apartEntry.trans (refusalNoted_apartEntry v s)))
  · rw [after.clk, finish_clk, before.clk]
    rfl

/-! ## Up to the refusal: the clock passes, and commit begins -/

/-- `t`, at the clock and in the phase of the entry of `s`. -/
def entryAt (s t : State) : State := { t with clk := s.clk, tb := s.tb, fresh := s.fresh, dev := { t.dev with mode := s.dev.mode } }

/-- From `s` to `t` at most the clock passed and the phase of the entry changed. -/
def SameEntry (t s : State) : Prop := entryAt s t = s

theorem SameEntry.port {t s : State} (e : SameEntry t s) : t.port = s.port := congrArg (·.port) e
theorem SameEntry.win {t s : State} (e : SameEntry t s) : t.win = s.win := congrArg (·.win) e
theorem SameEntry.sec {t s : State} (e : SameEntry t s) : t.sec = s.sec := congrArg (·.sec) e
theorem SameEntry.pwr {t s : State} (e : SameEntry t s) : t.pwr = s.pwr := congrArg (·.pwr) e
theorem SameEntry.apartEntry {t s : State} (e : SameEntry t s) : ApartEntry t s := apartEntry_of_eq e rfl

theorem SameEntry.dev_run {t s : State} (e : SameEntry t s) : { t.dev with mode := .run } = { s.dev with mode := .run } :=
  congrArg (fun x : State => { x.dev with mode := .run }) e

theorem SameEntry.getRing_eq {t s : State} (e : SameEntry t s) (r : Nat) : getRing t r = getRing s r := by
  rw [getRing, e.port, getRing]

/-- No participant looks at the clock or the phase (R370). -/
theorem SameEntry.prepareRefuser_eq {t s : State} (e : SameEntry t s) : prepareRefuser t = prepareRefuser s :=
  calc prepareRefuser t = prepareRefuser (entryAt s t) := rfl
    _ = prepareRefuser s := congrArg prepareRefuser e

theorem EntryHeld.of_sameEntry {t s : State} {h : Held} (e : EntryHeld s h) (same : SameEntry t s) : EntryHeld t h where
  only := by rw [same.port]; exact e.only
  inside := by rw [same.getRing_eq]; exact e.inside
  canonical := by rw [same.win]; exact e.canonical
  waits := e.waits.of_held_subset (by rw [same.port]; exact List.Subset.refl _) (by rw [same.sec]) (by rw [same.sec])

theorem EntryRefused.of_sameEntry {t s u : State} {h : Held} {id phase : Nat} (r : EntryRefused t h id phase u) (same : SameEntry t s) :
    EntryRefused s h id phase u := by
  obtain ⟨word4, word7, gone, aborted, aborts, refuser, dev, apart⟩ := r
  rw [same.getRing_eq] at word4 word7
  rw [same.pwr] at aborts
  exact ⟨word4, word7, gone, aborted, aborts, refuser, dev.trans same.dev_run, apart.trans same.apartEntry⟩

/-- The refusal, told of the state in which the row that ends in it began. -/
theorem abortEntry_refused_of_sameEntry {s t : State} {h : Held} (e : EntryHeld s h) (same : SameEntry t s) (id phase : Nat) :
    ∃ u, abortEntry id phase t = settle u ∧ EntryRefused s h id phase u ∧ u.clk = t.clk := by
  obtain ⟨u, next, refused, clk⟩ := abortEntry_refused (e.of_sameEntry same) id phase
  exact ⟨u, next, refused.of_sameEntry same, clk⟩

theorem advance_sameEntry (k : Nat) (s : State) : SameEntry (advance k s) s := by
  unfold advance
  dsimp only
  split
  · rfl
  · split <;> rfl

theorem advanceTo_sameEntry (t : Nat) (s : State) : SameEntry (advanceTo t s) s := by
  unfold advanceTo
  split
  · exact advance_sameEntry _ s
  · rfl

theorem advance_clk (k : Nat) (s : State) : (advance k s).clk = s.clk + k := by
  unfold advance
  dsimp only
  split
  · omega
  · split <;> rfl

theorem advanceTo_clk (t : Nat) (s : State) : (advanceTo t s).clk = max s.clk t := by
  unfold advanceTo
  split
  · rw [advance_clk]
    omega
  · omega

/-- With no descriptor handed over, the host port stops at once (R369). -/
theorem asleepFrom_of_none_waits {s : State} (idle : ∀ r, r < 64 → ringWaits (getRing s r) = false) (n : Nat) : asleepFrom n s = s := by
  have none : ((List.range 64).find? fun r => ringWaits (getRing s r)) = none := by
    rw [List.find?_eq_none]
    intro r hr
    rw [idle r (List.mem_range.1 hr)]
    exact Bool.false_ne_true
  cases n with
  | zero => rfl
  | succ n => simp only [asleepFrom, none]

/-- Every participant agreed: commit begins with the signal box still at work. -/
def commitBegun (s : State) : State := modDev (fun d => { d with mode := .commit }) s

theorem commitBegun_sameEntry (s : State) : SameEntry (commitBegun s) s := rfl

theorem exec_sleepCommit {s : State} (prepare : s.dev.mode = .prepare) (agreed : prepareRefuser s = none)
    (idle : ∀ r, r < 64 → ringWaits (getRing s r) = false) :
    exec .sleepCommit s = .next (if s.pwr.busFrameSeen then abortEntry 10 1 (commitBegun s) else commitTwin (commitBegun s)) := by
  have stopped : asleepFrom 4160 (commitBegun s) = commitBegun s := asleepFrom_of_none_waits (s := commitBegun s) idle 4160
  have unrefused : ¬(s.dev.mode ≠ .prepare ∨ prepareRefuser s ≠ none) := by simp [prepare, agreed]
  simp only [exec, execSleepCommit, if_neg unrefused]
  rw [← commitBegun, stopped]
  exact (apply_ite Host.Outcome.next _ _ _).symm

theorem commitTwin_of_notice {s : State} (notice : s.pwr.noticeSeen = true) : commitTwin s = abortEntry 9 1 s := if_pos notice

theorem commitTwin_of_preamble {s : State} (notice : s.pwr.noticeSeen = false) (solo : twinStands s = false)
    (preamble : s.pwr.preambleSeen = true) : commitTwin s = abortEntry 4 1 s := by
  simp [commitTwin, commitRadio, notice, solo, preamble]

theorem exec_sleepPrepareTimeout {s : State} {id : Nat} (prepare : s.dev.mode = .prepare) (refuses : prepareRefuser s = some id) :
    exec .sleepPrepareTimeout s = .next (abortEntry id 0 (advanceTo (s.pwr.prepareClk + clkMs (sleepItem s 6)) s)) := by
  simp [exec, execSleepPrepareTimeout, prepare, (advanceTo_sameEntry _ s).prepareRefuser_eq, refuses]

theorem exec_sleepAckTimeout {s : State} {t : Nat} (awaits : awaitsSleepAck s = true) (sent : s.twin.sleepSentClk = some t) :
    exec .sleepAckTimeout s = .next (abortEntry 9 1 (advanceTo (t + clkMs 1) s)) := by
  simp [exec, execSleepAckTimeout, sent, awaits]

/-- Settles O46: each of the three rows that refuse an entry ends in the same refusal, of a state in which at most the clock has passed and
commit has begun. -/
theorem sleepRefused : Obligations.SleepRefused := by
  intro s h only inside canonical posted idle engines
  obtain ⟨jobs, writes, -, held⟩ := engines
  have entry : EntryHeld s h := ⟨only, inside, canonical, posted, jobs, writes, held⟩
  have commitRefused (id : Nat) : ∃ u, abortEntry id 1 (commitBegun s) = settle u ∧ EntryRefused s h id 1 u := by
    obtain ⟨u, next, refused, -⟩ := abortEntry_refused_of_sameEntry entry (commitBegun_sameEntry s) id 1
    exact ⟨u, next, refused⟩
  refine ⟨fun id prepare refuses => ?_, fun prepare agreed => ⟨fun frame => ?_, fun frame notice => ?_, fun frame notice solo preamble => ?_⟩,
    fun t awaits sent => ?_⟩
  · obtain ⟨u, next, refused, clk⟩ := abortEntry_refused_of_sameEntry entry (advanceTo_sameEntry _ s) id 0
    exact ⟨u, by rw [exec_sleepPrepareTimeout prepare refuses, next], refused, clk.trans (advanceTo_clk _ s)⟩
  · obtain ⟨u, next, refused⟩ := commitRefused 10
    exact ⟨u, by rw [exec_sleepCommit prepare agreed idle, frame, if_pos rfl, next], refused⟩
  · have twin : commitTwin (commitBegun s) = abortEntry 9 1 (commitBegun s) := commitTwin_of_notice notice
    obtain ⟨u, next, refused⟩ := commitRefused 9
    exact ⟨u, by rw [exec_sleepCommit prepare agreed idle, frame, if_neg Bool.false_ne_true, twin, next], refused⟩
  · have radio : commitTwin (commitBegun s) = abortEntry 4 1 (commitBegun s) := commitTwin_of_preamble notice solo preamble
    obtain ⟨u, next, refused⟩ := commitRefused 4
    exact ⟨u, by rw [exec_sleepCommit prepare agreed idle, frame, if_neg Bool.false_ne_true, radio, next], refused⟩
  · obtain ⟨u, next, refused, clk⟩ := abortEntry_refused_of_sameEntry entry (advanceTo_sameEntry (t + clkMs 1) s) 9 1
    exact ⟨u, by rw [exec_sleepAckTimeout awaits sent, next], refused, clk.trans (advanceTo_clk _ s)⟩

end Sys2Proof.Machine
end
